-- ==== Sys2Proof/Word.lean ====
section
/-! DEFINITION. The words the station holds as bits, and the two plain forms of bounded counting the manual
uses throughout (00_scope.md, Conventions: "hold", "clamped"). -/

namespace Sys2Proof

/-- One byte of a frame (R163). -/
abbrev Byte := BitVec 8

/-- The 40 stored bits of one word of the record store: code positions 0 to 38 and the spare column at 39 (R131). -/
abbrev StoredWord := BitVec 40

/-- The 32 data bits of one word of the record store (R133). -/
abbrev DataWord := BitVec 32

/-- A set of fault kinds as the fault commands carry it: bit k stands for kind code k (R181). -/
abbrev KindSet := BitVec 16

/-- A count that holds at `top`. -/
abbrev holdAt (top n : Nat) : Nat := min n top

/-- A value clamped to `lo` .. `hi`. -/
abbrev clampTo (lo hi n : Nat) : Nat := max lo (min hi n)

end Sys2Proof
end

