-- ==== Sys2Proof/Syntax.lean ====
section
/-! DEFINITION. The commands of the line station: one constructor of `Instr` for each row of spec/opcode_table.json, and
the contents of the frames they carry (10_rack_bus.md, Formats). The table gives the rows no fields: the operands are
those that the rule of each row needs (log entry 8). -/

namespace Sys2Proof

/-- A session handle, station.slot/generation (00_scope.md, Conventions). -/
structure Handle where
  station : Nat
  slot : Nat
  generation : Nat
  deriving DecidableEq, Repr

/-- The reasons of a DENY, in the order of their codes (10_rack_bus.md, Enumerations). -/
inductive DenyReason where
  | homeBusy | recordFault | noAccount | locked | badDigest | credit | homeFull | limit
  deriving DecidableEq, Repr

/-- The end causes that a record or a frame can carry, in the order of their codes. CHECKPOINT_RESET (R92) is recorded in no
session record and carried by no frame (R86), so it is no value here. -/
inductive EndCause where
  | normalHangup | carrierLost | credit | forced | detachExpired | detachEvicted | moved | homeLost | abandoned | late
  | duplicate
  deriving DecidableEq, Repr

/-- The body of a CLAIM (R44). -/
structure ClaimBody where
  handle : Handle
  account : Nat
  digest : Nat
  speedClass : Nat
  line : Nat
  deriving DecidableEq, Repr

/-- The body of a GRANT (R64): kind NEW when there is no old handle, kind REATTACH when there is one. -/
structure GrantBody where
  handle : Handle
  account : Nat
  acctClass : Nat
  oldHandle : Option Handle
  deriving DecidableEq, Repr

/-- The body of a DENY (R64). -/
structure DenyBody where
  handle : Handle
  account : Nat
  reason : DenyReason
  deriving DecidableEq, Repr

/-- The body of a CHARGE (R86, R107): final when it carries an end cause. -/
structure ChargeBody where
  handle : Handle
  account : Nat
  home : Nat
  total : Nat
  endCause : Option EndCause
  deriving DecidableEq, Repr

/-- The body of a CUTOFF (R120). -/
structure CutoffBody where
  handle : Handle
  account : Nat
  balance : Int
  deriving DecidableEq, Repr

/-- The body of a REFUSE (R115). -/
structure RefuseBody where
  handle : Handle
  account : Nat
  total : Nat
  deriving DecidableEq, Repr

/-- The body of a DETACH (R79). -/
structure DetachBody where
  handle : Handle
  account : Nat
  deriving DecidableEq, Repr

/-- The body of a TALLY (R88). -/
structure TallyBody where
  count : Nat
  restart : Bool
  deriving DecidableEq, Repr

/-- The body of a DATA frame (R25, R27): handle, break flag, hang-up flag and 0 to 32 characters. -/
structure DataBody where
  handle : Handle
  breakFlag : Bool
  hangUpFlag : Bool
  chars : List Nat
  deriving DecidableEq, Repr

/-- What the strap pins show at the end of a reset (R188): the address straps, 0 to 15, and whether the line-count strap
shows 8 lines. -/
structure Straps where
  address : Nat
  eightLines : Bool
  deriving DecidableEq, Repr

/-- The commands of the host adapter other than DATA, in the order of their kind codes (10_rack_bus.md, Kind codes). -/
inductive CommandKind where
  | configure | time | tariffLoad | accountLoad | accountRead | deposit | unlock | forceOff | spareSet | storeProbe
  | storeFlip | hold | release | faultRead | faultClear | faultSetup | statusRead | stationReset
  deriving DecidableEq, Repr

/-- A frame that the receiver has handed to the blocks (R165), as its taking sees it. -/
inductive Handed where
  | claim (c : ClaimBody)
  | grant (source : Nat) (g : GrantBody)
  | deny (source : Nat) (d : DenyBody)
  | charge (c : ChargeBody)
  | cutoff (c : CutoffBody)
  | refuse (r : RefuseBody)
  | detach (d : DetachBody)
  | tally (source : Nat) (t : TallyBody)
  | data (d : DataBody)
  | command (kind : CommandKind) (body : List Byte)
  deriving DecidableEq, Repr

/-- The commands: one constructor per row of the table, in the table's order. -/
inductive Instr where
  | ringBurst (line : Fin 8)
  | burstEnd (line : Fin 8)
  | ringSeriesTimerExpiry (line : Fin 8)
  | carrierPresence (line : Fin 8)
  | answerTimerExpiry (line : Fin 8)
  | carrierLoss (line : Fin 8)
  | hangUpHoldTimerExpiry (line : Fin 8)
  | receiverArmed (line : Fin 8)
  /-- The first spacing interval ended after `micros` microseconds (R10). -/
  | speedIntervalEnd (line : Fin 8) (micros : Nat)
  /-- The decode gave the seven data bits `code` and sampled the first stop bit marking or not (R11). -/
  | speedDecodeEnd (line : Fin 8) (code : Nat) (stopMarking : Bool)
  | speedDetectTimerExpiry (line : Fin 8)
  | character (line : Fin 8) (code : Nat)
  | framingError (line : Fin 8)
  | lineBreak (line : Fin 8)
  | dataTriggerAge (line : Fin 8)
  | signOnTimerExpiry (line : Fin 8)
  | transmitCharacter (line : Fin 8)
  | claimTimerExpiry (slot : Fin 12)
  | grant (source : Nat) (g : GrantBody)
  | deny (source : Nat) (d : DenyBody)
  | claim (c : ClaimBody)
  | claimEvaluation
  | detach (d : DetachBody)
  | tally (source : Nat) (t : TallyBody)
  | silenceTimerExpiry (handle : Handle)
  | detachGraceExpiry (slot : Fin 12)
  | cutoff (c : CutoffBody)
  | cutoffGraceExpiry (slot : Fin 12)
  | refuse (r : RefuseBody)
  | forceOff (body : List Byte)
  | tallyHeartbeatExpiry
  | censusAgeExpiry (address : Fin 16)
  | tick
  | posting (slot : Fin 12)
  | bandFlip
  | time (body : List Byte)
  | tariffLoad (body : List Byte)
  | charge (c : ChargeBody)
  | chargeApplication
  | accountLoad (body : List Byte)
  | accountRead (body : List Byte)
  | deposit (body : List Byte)
  | unlock (body : List Byte)
  | hostCommandAccessEnd
  | hold (body : List Byte)
  | release (body : List Byte)
  | holdTimerExpiry
  | scrubTimerExpiry
  | scrubStep
  | storeProbe (body : List Byte)
  | storeFlip (body : List Byte)
  | storeClearComplete
  | spareSet (body : List Byte)
  | migrationStepTimerExpiry
  | migrationStep
  /-- A byte train ended: its bytes, and whether a stop bit broke it (R163, R164). -/
  | frameReceived (bytes : List Byte) (broken : Bool)
  | busIdle
  /-- Deferral slot number `slot` begins (R166). -/
  | transmissionStart (slot : Nat)
  | frameSent
  | readBackMismatch
  | data (d : DataBody)
  | configure (body : List Byte)
  | statusRead (body : List Byte)
  | stationReset (body : List Byte) (straps : Straps)
  | faultRead (body : List Byte)
  | faultClear (body : List Byte)
  | faultSetup (body : List Byte)
  | supplyBelowWarn
  | supplyAboveWarn
  | recoveryTimerExpiry
  | supplyBelowReset
  | powerApplied
  | supplyAboveReset (straps : Straps)
  | resetPinAsserted
  | resetPinReleased (straps : Straps)
  | trainStart
  deriving DecidableEq, Repr

end Sys2Proof
end

