-- ==== Sys2Proof/Decode.lean ====
section
/-! DEFINITION. The command that a word of the table's bits spells. spec/opcode_table.json gives bits to none of its rows
(each row's "fields" are empty and no row is "fixed"), so no word spells a command. The bytes that a command's frame has on
the rack bus are read by `Machine/Operands.lean` (R164, R165), at FRAME_RECEIVED. -/

namespace Sys2Proof

/-- The command spelled by the `nbits` bits `w`: none, since the table gives no row any bits. -/
def decodeTableWord (_nbits _w : Nat) : Option Instr := none

end Sys2Proof
end

