-- ==== Sys2Proof/Config.lean ====
section
/-! DEFINITION. The constants of the part and the one value that the manual leaves open. -/

namespace Sys2Proof.Config

/-- Places of the transmit queue (R169). -/
abbrev queuePlaces : Nat := 24

/-- Entries of the home session list (R56). -/
abbrev homeListPlaces : Nat := 48

/-- Entries of the quarantine list (R158). -/
abbrev quarantinePlaces : Nat := 8

/-- Characters of a receive ring (R22). -/
abbrev rxPlaces : Nat := 32

/-- Characters of a transmit ring (R30). -/
abbrev txPlaces : Nat := 64

/-- Top of totals, held charges, term connect credits, the unbilled counter and station time (00_scope.md, Conventions). -/
abbrev maxCredits : Nat := 16777215

/-- Lowest balance (00_scope.md, Conventions). -/
abbrev minBalance : Int := -8388608

/-- Highest balance (00_scope.md, Conventions). -/
abbrev maxBalance : Int := 8388607

/-- Words of the record store (R131). -/
abbrev storeWords : Nat := 2048

/-- Longest band and longest count of remaining seconds (R95). -/
abbrev maxBandSeconds : Nat := 86400

/-- Seconds of a silence timer when it is restarted (R57). -/
abbrev silenceSeconds : Nat := 180

/-- FREE VALUE (log entry 7). A PIN or COMMAND reset that cuts off an access has written the access's words "in order up
to the word in progress" (R139); the manual does not say how far the access had come. `cutWords n` is how far the n-th
such access had come. It has no body: nothing can be proved of its value. -/
opaque cutWords : Nat → Nat

end Sys2Proof.Config
end

