-- ==== Sys2Proof/Machine/State.lean ====
section
/-! DEFINITION. The state of the station: every piece of state the manual gives it, as plain data, and its value after a
POWER_ON reset. Timers stated in whole seconds are `none` when stopped and `some n` with n seconds left; `some 0` is a timer
whose expiry is due at this tick and has not yet been taken (R2, log entry 4). -/

namespace Sys2Proof.Machine

/-- ABSENT or PRESENT, the values of the ring and carrier filters (R1). -/
inductive Filter where
  | absent | present
  deriving DecidableEq, Repr

/-- The phases of HANGUP (R1, R18, R19). -/
inductive Phase where
  | draining | holding
  deriving DecidableEq, Repr

/-- The line states (R1). -/
inductive LineState where
  | disabled | idle | ringing | answering | speedDetect | signOn | claiming | online | hangup (phase : Phase)
  deriving DecidableEq, Repr

/-- The receiver of a line: idle; disarmed, armed or decoding at a class in SPEED_DETECT (R10, R11); framing characters on a
locked line, or waiting for marking after a break (R13, R14). -/
inductive Receiver where
  | idle | disarmed | armed | decoding (speedClass : Nat) | framing | inBreak
  deriving DecidableEq, Repr

/-- A character of the receive ring. Its arrival stamp is held as whether it has reached 50 ms of age, which is all that
R24 asks of it (log entry 5). -/
structure RxChar where
  code : Nat
  aged : Bool
  deriving DecidableEq, Repr

/-- The phase of a dialogue context (R35). -/
inductive EntryPhase where
  | user | password
  deriving DecidableEq, Repr

/-- The step of a dialogue context (R35). -/
inductive DialogueStep where
  | entry | slotWait | claimed
  deriving DecidableEq, Repr

/-- A dialogue context (R35). The sign-on timer is suspended while the step is CLAIMED (R41). -/
structure Dialogue where
  phase : EntryPhase
  step : DialogueStep
  entry : List Nat
  userNumber : Option Nat
  digest : Nat
  attempts : Nat
  speedAttempts : Nat
  timer : Option Nat
  awaitedSlot : Option (Fin 12)
  deriving DecidableEq, Repr

/-- A context as the line's entry to SPEED_DETECT opens it (R35). -/
def Dialogue.opened : Dialogue :=
  { phase := .user, step := .entry, entry := [], userNumber := none, digest := 0, attempts := 0, speedAttempts := 0,
    timer := none, awaitedSlot := none }

/-- A line unit (R1), its character paths (02_character_paths.md) and its dialogue context (R35). -/
structure Line where
  state : LineState
  terminalReady : Bool
  ringFilter : Filter
  ringCount : Nat
  carrierFilter : Filter
  timer : Option Nat
  speedClass : Nat
  servedSlot : Option (Fin 12)
  receiver : Receiver
  /-- The character being sent; none while the transmitted data lead is held marking (R16). -/
  sending : Option Nat
  rxRing : List RxChar
  pendingBreak : Option Nat
  /-- The run of STATION characters at the head of the transmit ring (R30). -/
  txStation : List Nat
  /-- The run of HOST characters behind it (R30). -/
  txHost : List Nat
  framingErrors : Nat
  receiveOverruns : Nat
  outputDiscards : Nat
  dialogue : Option Dialogue
  deriving DecidableEq, Repr

/-- A line unit as every reset leaves it (R21), in the line state given. -/
def Line.afterReset (st : LineState) : Line :=
  { state := st, terminalReady := false, ringFilter := .absent, ringCount := 0, carrierFilter := .absent, timer := none,
    speedClass := 0, servedSlot := none, receiver := .idle, sending := none, rxRing := [], pendingBreak := none,
    txStation := [], txHost := [], framingErrors := 0, receiveOverruns := 0, outputDiscards := 0, dialogue := none }

/-- The states of a session record (R76). -/
inductive SessionState where
  | claiming | active | cutoffGrace | detached | ending
  deriving DecidableEq, Repr

/-- The status of a final CHARGE (R76, R87). -/
inductive FinalStatus where
  | waiting | queued | inFlight
  deriving DecidableEq, Repr

/-- A session record (R76). Its handle is this station's address, the slot's number and the slot's generation. -/
structure Session where
  account : Nat
  home : Option Nat
  line : Option (Fin 8)
  state : SessionState
  abandoned : Bool
  acctClass : Option Nat
  speedClass : Nat
  total : Nat
  remainder : Nat
  postCounter : Nat
  grace : Option Nat
  endCause : Option EndCause
  finalStatus : Option FinalStatus
  /-- METER_SATURATED has been logged for the session (section 6.4). -/
  saturated : Bool
  deriving DecidableEq, Repr

/-- A slot of the session table (R76). -/
structure Slot where
  generation : Nat
  replySource : Option Nat
  claimTimer : Option Nat
  session : Option Session
  deriving DecidableEq, Repr

/-- A free slot of generation 0 (R92). -/
def Slot.cleared : Slot := { generation := 0, replySource := none, claimTimer := none, session := none }

/-- The session table with its TALLY state (R76, R88, R93). -/
structure SessionTable where
  slots : Vector Slot 12
  detachOrder : List (Fin 12)
  tallyOwed : Bool
  heartbeat : Option Nat
  /-- The first TALLY queued in IN_SERVICE is still to carry the restart flag (R93). -/
  restartDue : Bool
  deriving DecidableEq, Repr

/-- The tariff bands (R95). -/
inductive Band where
  | peak | offPeak
  deriving DecidableEq, Repr

/-- One entry of the tariff table (R98). -/
structure Tariff where
  rate : Nat
  surcharge : Nat
  deriving DecidableEq, Repr

/-- The band timer, the band lengths, the tariff table and the overflow count (R95, R98, R103). -/
structure Meter where
  band : Band
  remaining : Nat
  running : Bool
  peakLength : Option Nat
  offPeakLength : Option Nat
  tariffs : Vector Tariff 64
  overflow : Nat
  deriving DecidableEq, Repr

/-- The states of a home session list entry (R56). -/
inductive HomeState where
  | active | detached | moving
  deriving DecidableEq, Repr

/-- An entry of the home session list (R56). -/
structure HomeEntry where
  handle : Handle
  account : Nat
  state : HomeState
  applied : Nat
  silence : Nat
  cutoffSent : Bool
  successor : Option Handle
  /-- The expiry of the silence timer fell while the home was taking a CLAIM and waits for its end (R66). -/
  expiryPutOff : Bool
  deriving DecidableEq, Repr

/-- An entry of the quarantine list (R158). -/
structure QuarantineEntry where
  account : Nat
  held : Nat
  deriving DecidableEq, Repr

/-- An entry of the posting backlog (R121). -/
structure BacklogEntry where
  handle : Handle
  account : Nat
  total : Nat
  final : Bool
  deriving DecidableEq, Repr

/-- What the account home takes that needs the store: a CLAIM (R58), or a CHARGE (R114) directly or from the backlog
(R122). It waits for the store, or has it when the access in progress is the home's. -/
inductive HomeWork where
  | claim (c : ClaimBody)
  | charge (handle : Handle) (account total : Nat) (final fromBacklog : Bool)
  deriving DecidableEq, Repr

/-- The account home (04_account_homes.md, 07_posting_and_credit.md, R158). -/
structure Home where
  first : Nat
  count : Nat
  list : List HomeEntry
  detachOrder : List Handle
  quarantine : List QuarantineEntry
  backlog : List BacklogEntry
  unbilled : Nat
  /-- The record indices whose unbilled mark is set, rising (R119). -/
  unbilledMarks : List Nat
  work : Option HomeWork
  draining : Bool
  deriving DecidableEq, Repr

/-- The words of the record store: word number and stored bits, numbers strictly rising, no entry zero. A word that is not
listed reads as zero (R148). -/
abbrev Memory := List (Nat × StoredWord)

/-- The canonical form from word number `n` on. -/
def Memory.wfFrom : Nat → Memory → Bool
  | _, [] => true
  | n, (a, v) :: rest => decide (n ≤ a) && decide (a < Config.storeWords) && decide (v ≠ 0) && Memory.wfFrom (a + 1) rest

/-- The canonical form of the record store's words. -/
def Memory.wf (m : Memory) : Bool := Memory.wfFrom 0 m

/-- The states of the hold (R140). -/
inductive HoldState where
  | notHeld | pending | held
  deriving DecidableEq, Repr

/-- The store's requesters, in the arbiter's order (R139). -/
inductive Requester where
  | home | host | migration | scrub
  deriving DecidableEq, Repr

/-- The fields of ACCOUNT LOAD (R124). -/
structure AccountLoad where
  account : Nat
  valid : Bool
  balance : Int
  allowance : Nat
  digest : Nat
  acctClass : Nat
  limit : Nat
  locked : Bool
  termCredits : Nat
  deriving DecidableEq, Repr

/-- A command of the host-command path that needs the store (R138). -/
inductive HostWork where
  | accountLoad (l : AccountLoad)
  | accountRead (account : Nat)
  | deposit (account amount : Nat)
  | unlock (account : Nat)
  | probe (word : Nat)
  | flip (word : Nat) (mask : StoredWord)
  deriving DecidableEq, Repr

/-- A migration under way (R154). -/
structure Migration where
  segment : Fin 8
  pendingEntry : Option Nat
  pointer : Nat
  timerRunning : Bool
  deriving DecidableEq, Repr

/-- The record store (08_the_account_record_store.md, 09_column_sparing_and_quarantine.md). -/
structure Store where
  words : Memory
  clearComplete : Bool
  spareMap : Vector (Option Nat) 8
  migration : Option Migration
  corrected : Vector Nat 8
  advised : Vector Bool 8
  scrubPointer : Nat
  scrubInterval : Option Nat
  scrubTimerRunning : Bool
  hold : HoldState
  holdTimer : Option Nat
  /-- HOLDs taken while PENDING, each to be answered when HELD is entered (R141). -/
  waitingHolds : Nat
  access : Option Requester
  hostWork : Option HostWork
  migrationRequest : Bool
  scrubRequest : Bool
  deriving DecidableEq, Repr

/-- The kinds of the frames that no block of a station takes (R165): replies and notices to the host adapter. -/
inductive ReplyKind where
  | result | accountData | statusData | faultData | probeData | faultNotice
  deriving DecidableEq, Repr

/-- What a DATA entry was filled with when its transmission started, and whether its ring has been cleared since
(R25, R26). -/
structure DataFill where
  chars : List Nat
  breakFlag : Bool
  ringCleared : Bool
  deriving DecidableEq, Repr

/-- The kind and body of a transmit queue entry (R169). A CHARGE carries the slot that holds the session when it is the
final CHARGE of one; a DATA entry carries its line, and its filling while IN_FLIGHT. -/
inductive Payload where
  | claim (c : ClaimBody)
  | grant (g : GrantBody)
  | deny (d : DenyBody)
  | charge (c : ChargeBody) (slot : Option (Fin 12))
  | cutoff (c : CutoffBody)
  | refuse (r : RefuseBody)
  | detach (d : DetachBody)
  | tally (t : TallyBody)
  | data (line : Fin 8) (handle : Handle) (fill : Option DataFill)
  | reply (kind : ReplyKind) (body : List Byte)
  deriving DecidableEq, Repr

/-- An entry of the transmit queue (R169): WAITING, or IN_FLIGHT. Its place is its position in the queue's list, which is
in the order of joining; its class is that of its kind. -/
structure Entry where
  destination : Nat
  payload : Payload
  inFlight : Bool
  mismatches : Nat
  deriving DecidableEq, Repr

/-- A present entry of the census table (R90). -/
structure CensusEntry where
  count : Nat
  age : Nat
  deriving DecidableEq, Repr

/-- The rack bus interface (10_rack_bus.md). -/
structure Bus where
  lastSender : Nat
  idle : Bool
  /-- The receiver waits for the bus to become idle: after a broken train (R163) and after a reset (R175). -/
  awaitsIdle : Bool
  /-- The deferral count D of the running series; none when no series runs (R166). -/
  deferral : Option Nat
  queue : List Entry
  /-- Indexed by address; the entries of address 0 and of the own address stay absent (R90). -/
  census : Vector (Option CensusEntry) 16
  /-- Frames handed to the blocks and commands in the decoder, not yet taken, in bus order (R167). -/
  handed : List Handed
  deriving DecidableEq, Repr

/-- The fault kinds, in the order of their codes (R176). -/
inductive FaultKind where
  | storeCorrected | busCheck | storeUncorrectable | tagMismatch | spareAdvised | chargeRefused | duplicateHome
  | orphanExpired | holdExpired | powerLow | unbilled | meterSaturated | txQueueFull | commandRejected | quarantineFull
  | busJam
  deriving DecidableEq, Repr

/-- The severities, in the order of their codes (R176, R181). -/
inductive Severity where
  | corrected | degraded | failing
  deriving DecidableEq, Repr

/-- The severity actions, in the order of their codes (R179, R181). -/
inductive Action where
  | none | notice | noticeAndBusyOut
  deriving DecidableEq, Repr

/-- The subject fields of a fault event, each present or absent (R176, R182). -/
structure Subject where
  account : Option Nat
  handle : Option Handle
  address : Option Nat
  address2 : Option Nat
  segment : Option Nat
  word : Option Nat
  total : Option Nat
  deriving DecidableEq, Repr

/-- No subject field present. -/
def Subject.blank : Subject :=
  { account := none, handle := none, address := none, address2 := none, segment := none, word := none, total := none }

/-- A fault event as a block hands it over (R177). -/
structure FaultEvent where
  kind : FaultKind
  subject : Subject
  deriving DecidableEq, Repr

/-- A FIRST record (R177). -/
structure FirstRecord where
  kind : FaultKind
  time : Nat
  subject : Subject
  deriving DecidableEq, Repr

/-- The log of one severity and its action (R177, R179). -/
structure SeverityLog where
  first : Option FirstRecord
  later : KindSet
  action : Action
  deriving DecidableEq, Repr

/-- The fault log with its masks, the selected-fault counter and station time (R177, R178). -/
structure FaultLog where
  corrected : SeverityLog
  degraded : SeverityLog
  failing : SeverityLog
  masks : KindSet
  selected : KindSet
  count : Nat
  overflow : Bool
  stationTime : Nat
  deriving DecidableEq, Repr

/-- The supply states (R186). -/
inductive SupplyState where
  | normal | low
  deriving DecidableEq, Repr

/-- The supply monitor (R186). `aboveWarn` is the level it compares: whether the supply stands above WARN. -/
structure Supply where
  state : SupplyState
  recoveryRunning : Bool
  aboveWarn : Bool
  deriving DecidableEq, Repr

/-- The station states (R189). -/
inductive StationState where
  | starting | awaitingConfig | inService | strapFault
  deriving DecidableEq, Repr

/-- The reset kinds (R187). -/
inductive ResetKind where
  | powerOn | brownout | pin | command
  deriving DecidableEq, Repr

/-- The reset kinds in force, and those that began during the reset in progress (R187). -/
structure ResetForce where
  powerOn : Bool
  brownout : Bool
  pin : Bool
  powerOnBegan : Bool
  brownoutBegan : Bool
  deriving DecidableEq, Repr

/-- No reset in progress. -/
def ResetForce.clear : ResetForce :=
  { powerOn := false, brownout := false, pin := false, powerOnBegan := false, brownoutBegan := false }

/-- The settings that CONFIGURE alone gives (R172). -/
structure Settings where
  answerRings : Nat
  detachGrace : Nat
  sessionCap : Nat
  userPrompt : List Nat
  passwordPrompt : List Nat
  deriving DecidableEq, Repr

/-- Station state, latched straps, reset record and settings (R172, R187 to R189). -/
structure Station where
  state : StationState
  address : Nat
  eightLines : Bool
  resetCause : ResetKind
  force : ResetForce
  settings : Option Settings
  /-- The station-wide output-discard count (R27). -/
  outputDiscards : Nat
  deriving DecidableEq, Repr

/-- Why the machine stops. -/
inductive Fault where
  /-- An access to a word number of 2,048 or above, which R131 says the store does not have. Raised by the events that end a
  store access. Safe: no state that a run reaches from reset holds such an access (the scrub pointer wraps at 2,047, the
  home range has at most 512 accounts, R144, R54). -/
  | noSuchWord (word : Nat)
  deriving DecidableEq, Repr

/-- Why a command has no meaning. -/
inductive Refusal where
  /-- The command is not modelled yet; raised by no arm of `exec`. Safe. -/
  | notModelled (mnemonic : String)
  deriving DecidableEq, Repr

/-- The state of the station and the queue of commands that wait. -/
structure State where
  lines : Vector Line 8
  table : SessionTable
  meter : Meter
  home : Home
  store : Store
  bus : Bus
  faults : FaultLog
  supply : Supply
  station : Station
  /-- The MODEL's own field: how many free values have been drawn (Config.cutWords, log entry 7). -/
  freeDraws : Nat
  /-- The commands that wait, first in, first out. -/
  pending : List Instr
  deriving DecidableEq, Repr

/-- The session table after a POWER_ON or BROWNOUT reset (R92, R93). -/
def SessionTable.cleared : SessionTable :=
  { slots := Vector.replicate 12 Slot.cleared, detachOrder := [], tallyOwed := false, heartbeat := none, restartDue := true }

/-- The meter after a POWER_ON or BROWNOUT reset (R112). -/
def Meter.cleared : Meter :=
  { band := .peak, remaining := 1, running := false, peakLength := none, offPeakLength := none,
    tariffs := Vector.replicate 64 { rate := 0, surcharge := 0 }, overflow := 0 }

/-- The account home after a POWER_ON or BROWNOUT reset (R75, R130, R158). -/
def Home.cleared : Home :=
  { first := 0, count := 0, list := [], detachOrder := [], quarantine := [], backlog := [], unbilled := 0,
    unbilledMarks := [], work := none, draining := false }

/-- The record store after a POWER_ON or BROWNOUT reset (R149, R157). -/
def Store.cleared : Store :=
  { words := [], clearComplete := false, spareMap := Vector.replicate 8 none, migration := none,
    corrected := Vector.replicate 8 0, advised := Vector.replicate 8 false, scrubPointer := 0, scrubInterval := none,
    scrubTimerRunning := false, hold := .notHeld, holdTimer := none, waitingHolds := 0, access := none, hostWork := none,
    migrationRequest := false, scrubRequest := false }

/-- The rack bus interface after every reset (R175). The receiver waits for the bus to become idle, and reads no train until then
(log entry 15). -/
def Bus.cleared : Bus :=
  { lastSender := 0, idle := false, awaitsIdle := true, deferral := none, queue := [], census := Vector.replicate 16 none,
    handed := [] }

/-- The fault log after a POWER_ON or BROWNOUT reset (R185, R179). -/
def FaultLog.cleared : FaultLog :=
  { corrected := { first := none, later := 0, action := .none },
    degraded := { first := none, later := 0, action := .notice },
    failing := { first := none, later := 0, action := .noticeAndBusyOut },
    masks := 0, selected := 0, count := 0, overflow := false, stationTime := 0 }

/-- The machine right after a POWER_ON reset has ended: STARTING, the store clear about to run (R189). The straps latched,
address 1 and eight lines, are the model's choice (log entry 2). -/
def State.reset : State :=
  { lines := Vector.replicate 8 (Line.afterReset .idle),
    table := SessionTable.cleared,
    meter := Meter.cleared,
    home := Home.cleared,
    store := Store.cleared,
    bus := Bus.cleared,
    faults := FaultLog.cleared,
    supply := { state := .low, recoveryRunning := false, aboveWarn := false },
    station := { state := .starting, address := 1, eightLines := true, resetCause := .powerOn, force := ResetForce.clear,
                 settings := none, outputDiscards := 0 },
    freeDraws := 0,
    pending := [] }

end Sys2Proof.Machine
end

