-- ==== Sys2Proof/Machine/Code.lean ====
section
/-! DEFINITION. The error-correcting code of a store word (R133, R134): positions 0 to 38, and the spare column at 39. -/

namespace Sys2Proof.Machine

/-- The code positions that hold d0 to d31, in order (R133). -/
def dataPositions : List Nat :=
  [3, 5, 6, 7, 9, 10, 11, 12, 13, 14, 15, 17, 18, 19, 20, 21, 22, 23, 24, 25, 26, 27, 28, 29, 30, 31,
   33, 34, 35, 36, 37, 38]

/-- The positions 1 to 38. -/
def codePositions : List Nat := List.range' 1 38

/-- The word with only position `p` set. -/
def positionBit (p : Nat) : StoredWord := BitVec.twoPow 40 p

/-- The word with position `p` set to `b`, where `p` was clear. -/
def withPosition (w : StoredWord) (p : Nat) (b : Bool) : StoredWord := if b then w ||| positionBit p else w

/-- Whether the listed positions of `w` hold an odd number of ones. -/
def oddOnes (w : StoredWord) (ps : List Nat) : Bool := ps.foldl (fun b p => b != w.getLsbD p) false

/-- The data bits at their positions (R133, step 1). -/
def placeData (d : DataWord) : StoredWord :=
  dataPositions.zipIdx.foldl (fun w pi => withPosition w pi.1 (d.getLsbD pi.2)) 0

/-- Check bit 2^j, so that the positions 1 to 38 that contain 2^j hold an even number of ones (R133, step 2). -/
def withCheckBit (placed w : StoredWord) (j : Nat) : StoredWord :=
  withPosition w (2 ^ j) (oddOnes placed (codePositions.filter (fun p => p.testBit j)))

/-- The 39 code positions of a fresh code, the spare column clear (R133, steps 1 to 3). -/
def codeOf (d : DataWord) : StoredWord :=
  let placed := placeData d
  let checked := [0, 1, 2, 3, 4, 5].foldl (withCheckBit placed) placed
  withPosition checked 0 (oddOnes checked codePositions)

/-- The spare column written for a code word under a mapping (R133, step 4; R151). -/
def withSpare (mapping : Option Nat) (code : StoredWord) : StoredWord :=
  match mapping with
  | none => code
  | some p => withPosition code 39 (code.getLsbD p)

/-- The 40 bits that a write of data bits stores under a mapping (R133). -/
def freshCode (mapping : Option Nat) (d : DataWord) : StoredWord := withSpare mapping (codeOf d)

/-- The 39 code bits as a read takes them under a mapping, the spare column clear (R134, step 1). -/
def takenCode (mapping : Option Nat) (w : StoredWord) : StoredWord :=
  let columns := w &&& ~~~(positionBit 39)
  match mapping with
  | none => columns
  | some p => withPosition (columns &&& ~~~(positionBit p)) p (w.getLsbD 39)

/-- The syndrome of the code bits taken (R134, step 2). -/
def syndromeOf (c : StoredWord) : Nat := codePositions.foldl (fun s p => if c.getLsbD p then s ^^^ p else s) 0

/-- Whether the overall parity of the 39 code bits is odd (R134, step 3). -/
def oddParity (c : StoredWord) : Bool := oddOnes c (0 :: codePositions)

/-- The outcomes of reading one word (R134). -/
inductive WordOutcome where
  | clean | corrected | uncorrectable
  deriving DecidableEq, Repr

/-- The outcome for a syndrome and an overall parity (R134, step 4). -/
def outcomeOf (syndrome : Nat) (odd : Bool) : WordOutcome :=
  if odd then (if syndrome ≤ 38 then .corrected else .uncorrectable)
  else if syndrome = 0 then .clean else .uncorrectable

/-- The data bits that code bits hold. -/
def dataBits (c : StoredWord) : DataWord :=
  dataPositions.zipIdx.foldl (fun d pi => if c.getLsbD pi.1 then d ||| BitVec.twoPow 32 pi.2 else d) 0

/-- A word as a read finds it: the code bits taken, the outcome and the data bits returned. -/
structure WordRead where
  code : StoredWord
  outcome : WordOutcome
  data : DataWord
  deriving DecidableEq, Repr

/-- The decode of a stored word under a mapping (R134). A corrected word has the position that its syndrome names inverted;
a syndrome of 0 names position 0, and one that is a power of two a check bit, and neither changes the data bits. -/
def readStored (mapping : Option Nat) (w : StoredWord) : WordRead :=
  let c := takenCode mapping w
  let syndrome := syndromeOf c
  match outcomeOf syndrome (oddParity c) with
  | .clean => { code := c, outcome := .clean, data := dataBits c }
  | .corrected => { code := c, outcome := .corrected, data := dataBits (c ^^^ positionBit syndrome) }
  | .uncorrectable => { code := c, outcome := .uncorrectable, data := dataBits c }

end Sys2Proof.Machine
end

