-- ==== Sys2Proof/Machine/Memory.lean ====
section
/-! DEFINITION. Reading and writing one word of the record store's list of words (R131, R148). -/

namespace Sys2Proof.Machine

/-- The stored bits of word `n`; a word that is not listed reads as zero. -/
def Memory.read : Memory → Nat → StoredWord
  | [], _ => 0
  | (a, v) :: rest, n => if n = a then v else if n < a then 0 else Memory.read rest n

/-- Word `n` given the stored bits `v`, in the canonical form: a zero is not listed. Every column holds what is
written to it: stored bits change by writes alone (R161, log entry 45). -/
def Memory.write : Memory → Nat → StoredWord → Memory
  | [], n, v => if v = 0 then [] else [(n, v)]
  | (a, u) :: rest, n, v =>
    if n = a then (if v = 0 then rest else (n, v) :: rest)
    else if n < a then (if v = 0 then (a, u) :: rest else (n, v) :: (a, u) :: rest)
    else (a, u) :: Memory.write rest n v

end Sys2Proof.Machine
end

