-- ==== Sys2Proof/Machine/Operands.lean ====
section
/-! DEFINITION. The forms operands take: numbers in bytes, the frame and its check, the kind codes and bodies of
10_rack_bus.md (Formats), the bodies of the host commands, and the account record words. -/

namespace Sys2Proof

/-! ### Numbers in bytes (10_rack_bus.md, Formats: most significant byte first) -/

/-- `n` in `width` bytes. -/
def bytesOf : Nat → Nat → List Byte
  | 0, _ => []
  | width + 1, n => BitVec.ofNat 8 (n / 256 ^ width) :: bytesOf width n

/-- The number that bytes spell. -/
def numberOf (bs : List Byte) : Nat := bs.foldl (fun a b => a * 256 + b.toNat) 0

/-- The number in the `len` bytes from byte `start` on. -/
def fieldOf (bs : List Byte) (start len : Nat) : Nat := numberOf ((bs.drop start).take len)

/-- A 24-bit two's complement number as a balance. -/
def signed24 (n : Nat) : Int := if n < 8388608 then (n : Int) else (n : Int) - 16777216

/-- A balance as a 24-bit two's complement number. -/
def unsigned24 (b : Int) : Nat := (b % 16777216).toNat

/-- A balance in 3 bytes. -/
def balanceBytes (b : Int) : List Byte := bytesOf 3 (unsigned24 b)

/-- A flag in a byte of its own (10_rack_bus.md, Formats). -/
def flagByte (b : Bool) : List Byte := [if b then 1 else 0]

/-- The flag that a byte of its own carries, if it is 0 or 1. -/
def flagOf (n : Nat) : Option Bool := if n = 0 then some false else if n = 1 then some true else none

/-- A handle is 3 bytes: the station, the slot and the generation. -/
def Handle.bytes (h : Handle) : List Byte :=
  [BitVec.ofNat 8 h.station, BitVec.ofNat 8 h.slot, BitVec.ofNat 8 h.generation]

/-- The handle in the 3 bytes from byte `start` on. -/
def handleOf (bs : List Byte) (start : Nat) : Handle :=
  { station := fieldOf bs start 1, slot := fieldOf bs (start + 1) 1, generation := fieldOf bs (start + 2) 1 }

/-! ### A character on a line (R16) -/

/-- The seven data bits of a character, lowest first. -/
def characterData (code : Nat) : List Bool := (List.range 7).map code.testBit

/-- The bits of a character as a line sends it, in their order, marking as true (section 1.8, R16): one start bit, the seven
data bits lowest first, a parity bit that makes the ones of the eight even in number, and two stop bits at speed class 0, one
at the other classes. -/
def characterBits (speedClass code : Nat) : List Bool :=
  false :: characterData code ++ [(characterData code).foldl xor false] ++ List.replicate (if speedClass = 0 then 2 else 1) true

/-! ### The frame and the frame check (R163, R164, Formats) -/

/-- One bit of the frame check: compare, shift, exclusive-or with 4,129 when they differ. -/
def checkBitStep (r : BitVec 16) (b : Bool) : BitVec 16 :=
  if r.msb != b then (r <<< 1) ^^^ 4129#16 else r <<< 1

/-- The bits of a byte, most significant first. -/
def byteBits (b : Byte) : List Bool :=
  [b.getLsbD 7, b.getLsbD 6, b.getLsbD 5, b.getLsbD 4, b.getLsbD 3, b.getLsbD 2, b.getLsbD 1, b.getLsbD 0]

/-- The frame check over bytes (Formats). -/
def frameCheck (bs : List Byte) : BitVec 16 :=
  bs.foldl (fun r b => (byteBits b).foldl checkBitStep r) 65535#16

/-- The bytes of a frame: destination, source, kind, body length, body, frame check. -/
def frameBytes (destination source kind : Nat) (body : List Byte) : List Byte :=
  let head := [BitVec.ofNat 8 destination, BitVec.ofNat 8 source, BitVec.ofNat 8 kind, BitVec.ofNat 8 body.length] ++ body
  head ++ bytesOf 2 (frameCheck head).toNat

/-- The bit times of a byte train: for each byte a start bit of 0, the eight bits most significant first, a stop bit of 1
(R163). -/
def trainBits (bs : List Byte) : List Bool := bs.flatMap (fun b => false :: byteBits b ++ [true])

/-! ### Codes (Kind codes, Enumerations) -/

def DenyReason.code : DenyReason → Nat
  | .homeBusy => 0 | .recordFault => 1 | .noAccount => 2 | .locked => 3 | .badDigest => 4 | .credit => 5 | .homeFull => 6
  | .limit => 7

def denyReasonOf : Nat → Option DenyReason
  | 0 => some .homeBusy | 1 => some .recordFault | 2 => some .noAccount | 3 => some .locked | 4 => some .badDigest
  | 5 => some .credit | 6 => some .homeFull | 7 => some .limit | _ => none

def EndCause.code : EndCause → Nat
  | .normalHangup => 0 | .carrierLost => 1 | .credit => 2 | .forced => 3 | .detachExpired => 4 | .detachEvicted => 5
  | .moved => 6 | .homeLost => 7 | .abandoned => 8 | .late => 9 | .duplicate => 10

def endCauseOf : Nat → Option EndCause
  | 0 => some .normalHangup | 1 => some .carrierLost | 2 => some .credit | 3 => some .forced | 4 => some .detachExpired
  | 5 => some .detachEvicted | 6 => some .moved | 7 => some .homeLost | 8 => some .abandoned | 9 => some .late
  | 10 => some .duplicate | _ => none

def CommandKind.code : CommandKind → Nat
  | .configure => 32 | .time => 33 | .tariffLoad => 34 | .accountLoad => 35 | .accountRead => 36 | .deposit => 37
  | .unlock => 38 | .forceOff => 39 | .spareSet => 40 | .storeProbe => 41 | .storeFlip => 42 | .hold => 43
  | .release => 44 | .faultRead => 45 | .faultClear => 46 | .faultSetup => 47 | .statusRead => 48 | .stationReset => 49

def commandKindOf : Nat → Option CommandKind
  | 32 => some .configure | 33 => some .time | 34 => some .tariffLoad | 35 => some .accountLoad | 36 => some .accountRead
  | 37 => some .deposit | 38 => some .unlock | 39 => some .forceOff | 40 => some .spareSet | 41 => some .storeProbe
  | 42 => some .storeFlip | 43 => some .hold | 44 => some .release | 45 => some .faultRead | 46 => some .faultClear
  | 47 => some .faultSetup | 48 => some .statusRead | 49 => some .stationReset | _ => none

/-! ### Station-to-station and DATA bodies -/

def ClaimBody.bytes (c : ClaimBody) : List Byte :=
  c.handle.bytes ++ bytesOf 3 c.account ++ bytesOf 3 c.digest ++ bytesOf 1 c.speedClass ++ bytesOf 1 c.line

def claimOf (b : List Byte) : Option ClaimBody :=
  if b.length = 11 then
    some { handle := handleOf b 0, account := fieldOf b 3 3, digest := fieldOf b 6 3, speedClass := fieldOf b 9 1,
           line := fieldOf b 10 1 }
  else none

def GrantBody.bytes (g : GrantBody) : List Byte :=
  match g.oldHandle with
  | none => g.handle.bytes ++ bytesOf 3 g.account ++ bytesOf 1 0 ++ bytesOf 1 g.acctClass
  | some old => g.handle.bytes ++ bytesOf 3 g.account ++ bytesOf 1 1 ++ bytesOf 1 g.acctClass ++ old.bytes

/-- A GRANT whose kind disagrees with its length, or whose account class is above 7, is refused (R164). -/
def grantOf (b : List Byte) : Option GrantBody :=
  if fieldOf b 7 1 ≤ 7 then
    if b.length = 8 ∧ fieldOf b 6 1 = 0 then
      some { handle := handleOf b 0, account := fieldOf b 3 3, acctClass := fieldOf b 7 1, oldHandle := none }
    else if b.length = 11 ∧ fieldOf b 6 1 = 1 then
      some { handle := handleOf b 0, account := fieldOf b 3 3, acctClass := fieldOf b 7 1, oldHandle := some (handleOf b 8) }
    else none
  else none

def DenyBody.bytes (d : DenyBody) : List Byte := d.handle.bytes ++ bytesOf 3 d.account ++ bytesOf 1 d.reason.code

def denyOf (b : List Byte) : Option DenyBody :=
  if b.length = 7 then
    match denyReasonOf (fieldOf b 6 1) with
    | some r => some { handle := handleOf b 0, account := fieldOf b 3 3, reason := r }
    | none => none
  else none

def ChargeBody.bytes (c : ChargeBody) : List Byte :=
  c.handle.bytes ++ bytesOf 3 c.account ++ bytesOf 1 c.home ++ bytesOf 3 c.total ++
    (match c.endCause with
     | none => bytesOf 1 0
     | some e => bytesOf 1 1 ++ bytesOf 1 e.code)

/-- A CHARGE whose final flag disagrees with its length, or whose end cause is no code, is refused (R164). -/
def chargeOf (b : List Byte) : Option ChargeBody :=
  if b.length = 11 ∧ fieldOf b 10 1 % 2 = 0 then
    some { handle := handleOf b 0, account := fieldOf b 3 3, home := fieldOf b 6 1, total := fieldOf b 7 3, endCause := none }
  else if b.length = 12 ∧ fieldOf b 10 1 % 2 = 1 then
    match endCauseOf (fieldOf b 11 1) with
    | some e =>
      some { handle := handleOf b 0, account := fieldOf b 3 3, home := fieldOf b 6 1, total := fieldOf b 7 3,
             endCause := some e }
    | none => none
  else none

def CutoffBody.bytes (c : CutoffBody) : List Byte := c.handle.bytes ++ bytesOf 3 c.account ++ balanceBytes c.balance

def cutoffOf (b : List Byte) : Option CutoffBody :=
  if b.length = 9 then
    some { handle := handleOf b 0, account := fieldOf b 3 3, balance := signed24 (fieldOf b 6 3) }
  else none

def RefuseBody.bytes (r : RefuseBody) : List Byte := r.handle.bytes ++ bytesOf 3 r.account ++ bytesOf 3 r.total

def refuseOf (b : List Byte) : Option RefuseBody :=
  if b.length = 9 then some { handle := handleOf b 0, account := fieldOf b 3 3, total := fieldOf b 6 3 } else none

def DetachBody.bytes (d : DetachBody) : List Byte := d.handle.bytes ++ bytesOf 3 d.account

def detachOf (b : List Byte) : Option DetachBody :=
  if b.length = 6 then some { handle := handleOf b 0, account := fieldOf b 3 3 } else none

def TallyBody.bytes (t : TallyBody) : List Byte := bytesOf 1 t.count ++ flagByte t.restart

def tallyOf (b : List Byte) : Option TallyBody :=
  if b.length = 2 then some { count := fieldOf b 0 1, restart := fieldOf b 1 1 % 2 = 1 } else none

def DataBody.bytes (d : DataBody) : List Byte :=
  d.handle.bytes ++ bytesOf 1 ((if d.breakFlag then 1 else 0) + (if d.hangUpFlag then 2 else 0)) ++
    d.chars.map (BitVec.ofNat 8)

/-- A DATA body of 4 to 36 bytes whose characters are at most 127 (R164). -/
def dataOf (b : List Byte) : Option DataBody :=
  if 4 ≤ b.length ∧ b.length ≤ 36 ∧ (b.drop 4).all (fun c => c.toNat ≤ 127) then
    some { handle := handleOf b 0, breakFlag := fieldOf b 3 1 % 2 = 1, hangUpFlag := fieldOf b 3 1 / 2 % 2 = 1,
           chars := (b.drop 4).map BitVec.toNat }
  else none

/-- What the contents of a frame that passed the check are found to be (R164, R165). -/
inductive Reading where
  /-- Discarded with BUS_CHECK. -/
  | bad
  /-- A reply or notice: no block takes it. -/
  | notTaken
  /-- A frame for the blocks. -/
  | frame (h : Handed)
  deriving DecidableEq, Repr

/-- A parsed body as a reading. -/
def readingOf {α : Type} (f : α → Handed) : Option α → Reading
  | none => .bad
  | some x => .frame (f x)

/-- The contents of a frame by its kind code (R164). The bodies of commands are checked by the rules of the commands. -/
def readContents (source kind : Nat) (body : List Byte) : Reading :=
  if kind = 1 then readingOf Handed.claim (claimOf body)
  else if kind = 2 then readingOf (Handed.grant source) (grantOf body)
  else if kind = 3 then readingOf (Handed.deny source) (denyOf body)
  else if kind = 4 then readingOf Handed.charge (chargeOf body)
  else if kind = 5 then readingOf Handed.cutoff (cutoffOf body)
  else if kind = 6 then readingOf Handed.refuse (refuseOf body)
  else if kind = 7 then readingOf Handed.detach (detachOf body)
  else if kind = 8 then readingOf (Handed.tally source) (tallyOf body)
  else if kind = 9 then readingOf Handed.data (dataOf body)
  else if 64 ≤ kind ∧ kind ≤ 69 then .notTaken
  else
    match commandKindOf kind with
    | some k => .frame (.command k body)
    | none => .bad

end Sys2Proof

namespace Sys2Proof.Machine

/-! ### Codes of the replies, faults and line states (Enumerations, R176, R181) -/

def ReplyKind.code : ReplyKind → Nat
  | .result => 64 | .accountData => 65 | .statusData => 66 | .faultData => 67 | .probeData => 68 | .faultNotice => 69

/-- The RESULT codes. -/
inductive ResultCode where
  | done | refusedState | notHome | notFound | inUse | busy | badField | recordFault
  deriving DecidableEq, Repr

def ResultCode.code : ResultCode → Nat
  | .done => 0 | .refusedState => 1 | .notHome => 2 | .notFound => 3 | .inUse => 4 | .busy => 5 | .badField => 6
  | .recordFault => 7

/-- The body of a RESULT: kind answered, code, command data (Formats). -/
def resultBody (kind : CommandKind) (code : ResultCode) (data : List Byte) : List Byte :=
  bytesOf 1 kind.code ++ bytesOf 1 code.code ++ data

/-- NONE of a spare map entry is carried as 255 (R153, R156, R146). -/
def spareCode : Option Nat → Nat
  | none => 255
  | some p => p

def Band.code : Band → Nat
  | .peak => 0
  | .offPeak => 1

def FaultKind.code : FaultKind → Nat
  | .storeCorrected => 0 | .busCheck => 1 | .storeUncorrectable => 2 | .tagMismatch => 3 | .spareAdvised => 4
  | .chargeRefused => 5 | .duplicateHome => 6 | .orphanExpired => 7 | .holdExpired => 8 | .powerLow => 9 | .unbilled => 10
  | .meterSaturated => 11 | .txQueueFull => 12 | .commandRejected => 13 | .quarantineFull => 14 | .busJam => 15

/-- The fixed severity of a kind (R176). -/
def FaultKind.severity : FaultKind → Severity
  | .storeCorrected => .corrected | .busCheck => .corrected | .storeUncorrectable => .degraded | .tagMismatch => .degraded
  | .spareAdvised => .degraded | .chargeRefused => .degraded | .duplicateHome => .degraded | .orphanExpired => .degraded
  | .holdExpired => .degraded | .powerLow => .degraded | .unbilled => .degraded | .meterSaturated => .degraded
  | .txQueueFull => .degraded | .commandRejected => .degraded | .quarantineFull => .failing | .busJam => .failing

def Severity.code : Severity → Nat
  | .corrected => 0 | .degraded => 1 | .failing => 2

def severityOf : Nat → Option Severity
  | 0 => some .corrected | 1 => some .degraded | 2 => some .failing | _ => none

def actionOf : Nat → Option Action
  | 0 => some .none | 1 => some .notice | 2 => some .noticeAndBusyOut | _ => none

/-- Line state codes; HANGUP is one code in both phases (R20, Enumerations). -/
def LineState.code : LineState → Nat
  | .disabled => 0 | .idle => 1 | .ringing => 2 | .answering => 3 | .speedDetect => 4 | .signOn => 5 | .claiming => 6
  | .online => 7 | .hangup _ => 8

/-! ### Bodies of the host commands (Formats, and the rules of the commands) -/

/-- TIME: band, remaining seconds (R97). -/
def timeOf (b : List Byte) : Option (Band × Nat) :=
  if b.length = 4 then
    if fieldOf b 0 1 = 0 then some (.peak, fieldOf b 1 3)
    else if fieldOf b 0 1 = 1 then some (.offPeak, fieldOf b 1 3)
    else none
  else none

/-- The `count` tariff entries of 4 bytes each: index, rate, surcharge (R99). -/
def tariffEntries : Nat → List Byte → List (Nat × Nat × Nat)
  | 0, _ => []
  | count + 1, b => (fieldOf b 0 1, fieldOf b 1 2, fieldOf b 3 1) :: tariffEntries count (b.drop 4)

/-- TARIFF LOAD: a count of 0 to 8 and its entries (R99). -/
def tariffLoadOf (b : List Byte) : Option (List (Nat × Nat × Nat)) :=
  if b ≠ [] ∧ fieldOf b 0 1 ≤ 8 ∧ b.length = 1 + 4 * fieldOf b 0 1 then some (tariffEntries (fieldOf b 0 1) (b.drop 1))
  else none

/-- ACCOUNT LOAD: the fields of R124 in their order, 18 bytes. -/
def accountLoadOf (b : List Byte) : Option AccountLoad :=
  if b.length = 18 ∧ fieldOf b 0 3 ≤ 999999 ∧ fieldOf b 12 1 ≤ 7 ∧ fieldOf b 13 1 ≤ 3 then
    match flagOf (fieldOf b 3 1), flagOf (fieldOf b 14 1) with
    | some valid, some locked =>
      some { account := fieldOf b 0 3, valid := valid, balance := signed24 (fieldOf b 4 3), allowance := fieldOf b 7 2,
             digest := fieldOf b 9 3, acctClass := fieldOf b 12 1, limit := fieldOf b 13 1, locked := locked,
             termCredits := fieldOf b 15 3 }
    | _, _ => none
  else none

def AccountLoad.bytes (l : AccountLoad) : List Byte :=
  bytesOf 3 l.account ++ flagByte l.valid ++ balanceBytes l.balance ++ bytesOf 2 l.allowance ++ bytesOf 3 l.digest ++
    bytesOf 1 l.acctClass ++ bytesOf 1 l.limit ++ flagByte l.locked ++ bytesOf 3 l.termCredits

/-- ACCOUNT READ and UNLOCK: an account, 0 to 999,999 (R126, R128). -/
def accountOf (b : List Byte) : Option Nat :=
  if b.length = 3 ∧ fieldOf b 0 3 ≤ 999999 then some (fieldOf b 0 3) else none

/-- DEPOSIT: an account and an amount of 1 to 8,388,607 (R127). -/
def depositOf (b : List Byte) : Option (Nat × Nat) :=
  if b.length = 6 ∧ fieldOf b 0 3 ≤ 999999 ∧ 1 ≤ fieldOf b 3 3 ∧ fieldOf b 3 3 ≤ 8388607 then
    some (fieldOf b 0 3, fieldOf b 3 3)
  else none

/-- FORCE OFF: a handle (R84). -/
def forceOffOf (b : List Byte) : Option Handle := if b.length = 3 then some (handleOf b 0) else none

/-- STORE PROBE: a word number, 0 to 2,047 (R146). -/
def probeOf (b : List Byte) : Option Nat :=
  if b.length = 2 ∧ fieldOf b 0 2 < Config.storeWords then some (fieldOf b 0 2) else none

/-- STORE FLIP: a word number and a mask over the 40 stored bits (R147, Formats). -/
def flipOf (b : List Byte) : Option (Nat × StoredWord) :=
  if b.length = 7 ∧ fieldOf b 0 2 < Config.storeWords then some (fieldOf b 0 2, BitVec.ofNat 40 (fieldOf b 2 5)) else none

/-- SPARE SET: a segment 0 to 7 and a position 0 to 38 or 255 (R153). -/
def spareSetOf (b : List Byte) : Option (Fin 8 × Option Nat) :=
  if b.length = 2 then
    if h : fieldOf b 0 1 < 8 then
      if fieldOf b 1 1 = 255 then some (⟨fieldOf b 0 1, h⟩, none)
      else if fieldOf b 1 1 ≤ 38 then some (⟨fieldOf b 0 1, h⟩, some (fieldOf b 1 1))
      else none
    else none
  else none

/-- FAULT READ: a severity (R182). -/
def faultReadOf (b : List Byte) : Option Severity := if b.length = 1 then severityOf (fieldOf b 0 1) else none

/-- The flags of FAULT CLEAR (R183). -/
structure FaultClear where
  corrected : Bool
  degraded : Bool
  failing : Bool
  counter : Bool
  deriving DecidableEq, Repr

def faultClearOf (b : List Byte) : Option FaultClear :=
  if b.length = 4 then
    match flagOf (fieldOf b 0 1), flagOf (fieldOf b 1 1), flagOf (fieldOf b 2 1), flagOf (fieldOf b 3 1) with
    | some c, some d, some f, some k => some { corrected := c, degraded := d, failing := f, counter := k }
    | _, _, _, _ => none
  else none

/-- The fields of FAULT SETUP (R184). -/
structure FaultSetup where
  masks : KindSet
  selected : KindSet
  corrected : Action
  degraded : Action
  failing : Action
  deriving DecidableEq, Repr

def faultSetupOf (b : List Byte) : Option FaultSetup :=
  if b.length = 7 then
    match actionOf (fieldOf b 4 1), actionOf (fieldOf b 5 1), actionOf (fieldOf b 6 1) with
    | some c, some d, some f =>
      some { masks := BitVec.ofNat 16 (fieldOf b 0 2), selected := BitVec.ofNat 16 (fieldOf b 2 2), corrected := c,
             degraded := d, failing := f }
    | _, _, _ => none
  else none

/-- STATUS READ: the part, 0 or 1 (R173). -/
def statusPartOf (b : List Byte) : Option Nat :=
  if b.length = 1 ∧ fieldOf b 0 1 ≤ 1 then some (fieldOf b 0 1) else none

/-- A length of 0 seconds is taken as 1, one above 86,400 as 86,400 (R95, R97). -/
def clampSeconds (n : Nat) : Nat := clampTo 1 Config.maxBandSeconds n

/-- The printable characters, codes 32 to 126 (00_scope.md, Conventions). -/
def printable (c : Nat) : Bool := decide (32 ≤ c) && decide (c ≤ 126)

/-- A prompt of a CONFIGURE: its length clamped to 12, ended early at its first character outside 32 to 126 (R172). -/
def promptOf (len : Nat) (bs : List Byte) : List Nat :=
  ((bs.take (min len 12)).map BitVec.toNat).takeWhile printable

/-- The fields of an accepted CONFIGURE, clamped (R172, R54). -/
structure ConfigureFields where
  homeFirst : Nat
  homeCount : Nat
  settings : Settings
  peakLength : Nat
  offPeakLength : Nat
  scrubInterval : Nat
  deriving DecidableEq, Repr

/-- The count of the home range as R54 clamps it. -/
def homeCountOf (first count : Nat) : Nat :=
  if first > 999999 then 0 else min (min count 512) (1000000 - first)

/-- CONFIGURE, 40 bytes (Formats), with the clamps of R172. -/
def configureOf (b : List Byte) : Option ConfigureFields :=
  if b.length = 40 then
    some {
      homeFirst := fieldOf b 0 3
      homeCount := homeCountOf (fieldOf b 0 3) (fieldOf b 3 2)
      settings := {
        answerRings := clampTo 1 8 (fieldOf b 5 1)
        detachGrace := min (fieldOf b 6 1) 150
        sessionCap := max 1 (fieldOf b 7 1)
        userPrompt := promptOf (fieldOf b 15 1 / 16) (b.drop 16)
        passwordPrompt := promptOf (fieldOf b 15 1 % 16) (b.drop 28) }
      peakLength := clampSeconds (fieldOf b 8 3)
      offPeakLength := clampSeconds (fieldOf b 11 3)
      scrubInterval := fieldOf b 14 1 }
  else none

/-! ### Account record words (R132, Formats) -/

/-- The fields of an account record (R132). -/
structure Record where
  balance : Int
  acctClass : Nat
  limit : Nat
  valid : Bool
  locked : Bool
  digest : Nat
  failures : Nat
  allowance : Nat
  tag : Nat
  termCredits : Nat
  deriving DecidableEq, Repr

/-- The four data words of a record; unused data bits are written as 0. -/
def Record.words (r : Record) : List DataWord :=
  [ BitVec.ofNat 32 (unsigned24 r.balance + r.acctClass % 8 * 2 ^ 24 + r.limit % 4 * 2 ^ 27 +
      (if r.valid then 2 ^ 29 else 0) + (if r.locked then 2 ^ 30 else 0)),
    BitVec.ofNat 32 (r.digest % 2 ^ 24 + r.failures % 8 * 2 ^ 24),
    BitVec.ofNat 32 (r.allowance % 2 ^ 16 + r.tag % 2 ^ 16 * 2 ^ 16),
    BitVec.ofNat 32 (r.termCredits % 2 ^ 24) ]

/-- The fields that four data words hold; unused data bits are ignored. -/
def recordOf (w0 w1 w2 w3 : DataWord) : Record :=
  { balance := signed24 (w0.toNat % 2 ^ 24)
    acctClass := w0.toNat / 2 ^ 24 % 8
    limit := w0.toNat / 2 ^ 27 % 4
    valid := w0.toNat / 2 ^ 29 % 2 = 1
    locked := w0.toNat / 2 ^ 30 % 2 = 1
    digest := w1.toNat % 2 ^ 24
    failures := w1.toNat / 2 ^ 24 % 8
    allowance := w2.toNat % 2 ^ 16
    tag := w2.toNat / 2 ^ 16 % 2 ^ 16
    termCredits := w3.toNat % 2 ^ 24 }

/-! ### Fault records in frames (R182) -/

/-- Whether a subject field is present, as its presence flag. -/
def presence {α : Type} : Option α → List Byte
  | none => [0]
  | some _ => [1]

/-- The seven presence flags and the seven subject fields, an absent field as 0 (R182). -/
def Subject.bytes (x : Subject) : List Byte :=
  presence x.account ++ presence x.handle ++ presence x.address ++ presence x.address2 ++ presence x.segment ++
    presence x.word ++ presence x.total ++
    bytesOf 3 (x.account.getD 0) ++
    (match x.handle with | none => [0, 0, 0] | some h => h.bytes) ++
    bytesOf 1 (x.address.getD 0) ++ bytesOf 1 (x.address2.getD 0) ++ bytesOf 1 (x.segment.getD 0) ++
    bytesOf 2 (x.word.getD 0) ++ bytesOf 3 (x.total.getD 0)

/-- FAULT NOTICE: severity, kind, station time, presence flags, subject fields; 26 bytes (R182). -/
def noticeBody (sev : Severity) (r : FirstRecord) : List Byte :=
  bytesOf 1 sev.code ++ bytesOf 1 r.kind.code ++ bytesOf 3 r.time ++ r.subject.bytes

/-- FAULT DATA, 31 bytes (R182). -/
def faultDataBody (sev : Severity) (l : SeverityLog) (count : Nat) (overflow : Bool) : List Byte :=
  bytesOf 1 sev.code ++
    (match l.first with
     | none => [0] ++ bytesOf 1 0 ++ bytesOf 3 0 ++ Subject.blank.bytes
     | some r => [1] ++ bytesOf 1 r.kind.code ++ bytesOf 3 r.time ++ r.subject.bytes) ++
    bytesOf 2 l.later.toNat ++ bytesOf 1 count ++ flagByte overflow

/-! ### Entries of the transmit queue as frames (R169, Formats) -/

/-- The kind code of an entry. -/
def Payload.kindCode : Payload → Nat
  | .claim _ => 1 | .grant _ => 2 | .deny _ => 3 | .charge _ _ => 4 | .cutoff _ => 5 | .refuse _ => 6 | .detach _ => 7
  | .tally _ => 8 | .data _ _ _ => 9 | .reply k _ => k.code

/-- The body of an entry. A DATA entry that is not filled carries no characters. -/
def Payload.body : Payload → List Byte
  | .claim c => c.bytes
  | .grant g => g.bytes
  | .deny d => d.bytes
  | .charge c _ => c.bytes
  | .cutoff c => c.bytes
  | .refuse r => r.bytes
  | .detach d => d.bytes
  | .tally t => t.bytes
  | .data _ h none => { handle := h, breakFlag := false, hangUpFlag := false, chars := [] : DataBody }.bytes
  | .data _ h (some f) => { handle := h, breakFlag := f.breakFlag, hangUpFlag := false, chars := f.chars : DataBody }.bytes
  | .reply _ body => body

/-- The service class of an entry (R169). -/
def Payload.class : Payload → Nat
  | .grant _ => 1 | .deny _ => 1 | .cutoff _ => 1 | .refuse _ => 1
  | .claim _ => 2 | .charge _ _ => 2 | .detach _ => 2
  | .tally _ => 3 | .reply _ _ => 3
  | .data _ _ _ => 4

/-- The bytes of an entry on the wire, sent from `own` (R163, Formats). -/
def Entry.train (own : Nat) (e : Entry) : List Byte :=
  frameBytes e.destination own e.payload.kindCode e.payload.body

/-! ### The part's own texts (R32) -/

/-- A fixed text with carriage return and line feed behind it. -/
def textOf (cs : List Char) : List Nat := cs.map Char.toNat ++ [13, 10]

/-- The fixed terminal texts (R32). -/
inductive FixedText where
  | signOnFailed | accountLocked | sessionLimit | noCredit | accountFault | tryAgain | systemFull | noResponse | timeOut
  | creditExhausted | forcedOff | sessionResumed
  deriving DecidableEq, Repr

/-- The characters of each fixed text (R32). -/
def FixedText.chars : FixedText → List Nat
  | .signOnFailed => textOf ['?', 'S', 'I', 'G', 'N', '-', 'O', 'N', ' ', 'F', 'A', 'I', 'L', 'E', 'D']
  | .accountLocked => textOf ['?', 'A', 'C', 'C', 'O', 'U', 'N', 'T', ' ', 'L', 'O', 'C', 'K', 'E', 'D']
  | .sessionLimit => textOf ['?', 'S', 'E', 'S', 'S', 'I', 'O', 'N', ' ', 'L', 'I', 'M', 'I', 'T']
  | .noCredit => textOf ['?', 'N', 'O', ' ', 'C', 'R', 'E', 'D', 'I', 'T']
  | .accountFault => textOf ['?', 'A', 'C', 'C', 'O', 'U', 'N', 'T', ' ', 'F', 'A', 'U', 'L', 'T']
  | .tryAgain => textOf ['?', 'T', 'R', 'Y', ' ', 'A', 'G', 'A', 'I', 'N']
  | .systemFull => textOf ['?', 'S', 'Y', 'S', 'T', 'E', 'M', ' ', 'F', 'U', 'L', 'L']
  | .noResponse => textOf ['?', 'N', 'O', ' ', 'R', 'E', 'S', 'P', 'O', 'N', 'S', 'E']
  | .timeOut => textOf ['?', 'T', 'I', 'M', 'E', ' ', 'O', 'U', 'T']
  | .creditExhausted =>
    textOf ['?', 'C', 'R', 'E', 'D', 'I', 'T', ' ', 'E', 'X', 'H', 'A', 'U', 'S', 'T', 'E', 'D']
  | .forcedOff => textOf ['?', 'F', 'O', 'R', 'C', 'E', 'D', ' ', 'O', 'F', 'F']
  | .sessionResumed => textOf ['S', 'E', 'S', 'S', 'I', 'O', 'N', ' ', 'R', 'E', 'S', 'U', 'M', 'E', 'D']

/-! ### Speed classes (R10) -/

/-- The speed class of a spacing interval of `micros` microseconds; none when the interval is invalid (R10). -/
def speedClassOf (micros : Nat) : Option Nat :=
  if micros ≥ 6000 then some 0
  else if micros ≥ 2500 then some 1
  else if micros ≥ 1250 then some 2
  else if micros ≥ 600 then some 3
  else none

/-! ### The password digest (section 3.3) -/

/-- The running digest after one more character. -/
def digestStep (d c : Nat) : Nat := (33 * d + c) % 16777216

/-- The digest of a password. -/
def digestOf (cs : List Nat) : Nat := cs.foldl digestStep 0

/-- The account number that 1 to 6 digits spell (R38). -/
def decimalOf (digits : List Nat) : Nat := digits.foldl (fun a c => a * 10 + (c - 48)) 0

end Sys2Proof.Machine
end

