-- ==== Sys2Proof/Machine/Flags.lean ====
section
/-! DEFINITION. The conditions the manual derives from the state: reset in progress, busy-out, answering permission, the
tally, the census, triggers, what a frame must wait for. -/

namespace Sys2Proof

/-! ### Which block a frame goes to (R55, R138, R165) -/

/-- The commands that the account home takes among its frames (section 7.4). -/
def CommandKind.account : CommandKind → Bool
  | .accountLoad => true | .accountRead => true | .deposit => true | .unlock => true | _ => false

/-- The commands that the host-command path takes to the store (R138). -/
def CommandKind.usesStore : CommandKind → Bool
  | .accountLoad => true | .accountRead => true | .deposit => true | .unlock => true | .storeProbe => true
  | .storeFlip => true | _ => false

/-- The frame goes to the account home (R55, R165). -/
def Handed.toHome : Handed → Bool
  | .claim _ => true
  | .charge _ => true
  | .detach _ => true
  | .tally _ t => t.restart
  | .command k _ => k.account
  | _ => false

/-- The frame goes to the session table (R165). -/
def Handed.toTable : Handed → Bool
  | .grant _ _ => true | .deny _ _ => true | .cutoff _ => true | .refuse _ => true | _ => false

/-- The frame goes to the census table (R165). -/
def Handed.toCensus : Handed → Bool
  | .tally _ _ => true | _ => false

/-- The frame goes to the command decoder (R165). -/
def Handed.toDecoder : Handed → Bool
  | .data _ => true | .command _ _ => true | _ => false

/-- Two frames go to one block, which takes them in bus order. -/
def Handed.sharesBlock (a b : Handed) : Bool :=
  (a.toHome && b.toHome) || (a.toTable && b.toTable) || (a.toCensus && b.toCensus) || (a.toDecoder && b.toDecoder)

end Sys2Proof

namespace Sys2Proof.Machine

/-! ### Station (R187, R180, R3) -/

/-- A reset is in progress while any of its kinds is in force (R187). -/
def State.inReset (s : State) : Bool := s.station.force.powerOn || s.station.force.brownout || s.station.force.pin

/-- The station's own address as latched (R188). -/
def State.own (s : State) : Nat := s.station.address

def State.inService (s : State) : Bool := decide (s.station.state = .inService)

/-- A severity busies the station out: its action is NOTICE_AND_BUSY_OUT and its FIRST record is filled (R180). -/
def SeverityLog.busies (l : SeverityLog) : Bool := decide (l.action = .noticeAndBusyOut) && l.first.isSome

/-- Busy-out (R180). -/
def FaultLog.busyOut (f : FaultLog) : Bool := f.corrected.busies || f.degraded.busies || f.failing.busies

/-- Answering permission (R3). -/
def State.permission (s : State) : Bool :=
  s.inService && decide (s.supply.state = .normal) && !s.faults.busyOut

/-- The configured answer rings, once CONFIGURE has set them (R172). -/
def State.answerRings (s : State) : Nat := match s.station.settings with | some x => x.answerRings | none => 1

def State.detachGrace (s : State) : Nat := match s.station.settings with | some x => x.detachGrace | none => 0

def State.sessionCap (s : State) : Nat := match s.station.settings with | some x => x.sessionCap | none => 0

def State.userPrompt (s : State) : List Nat := match s.station.settings with | some x => x.userPrompt | none => []

def State.passwordPrompt (s : State) : List Nat := match s.station.settings with | some x => x.passwordPrompt | none => []

/-! ### Lines (R13, R17, R24, R31) -/

/-- The line is locked: SIGNON, CLAIMING or ONLINE (R13). -/
def LineState.locked : LineState → Bool
  | .signOn => true | .claiming => true | .online => true | _ => false

/-- The states in which the transmitter sends (R16). -/
def LineState.sends : LineState → Bool
  | .signOn => true | .claiming => true | .online => true | .hangup .draining => true | _ => false

/-- Waiting characters of the transmit ring (R30). -/
def Line.txCount (l : Line) : Nat := l.txStation.length + l.txHost.length

/-- A trigger stands on the line (R24). -/
def Line.trigger (l : Line) : Bool :=
  decide (l.state = .online) &&
    (decide (16 ≤ l.rxRing.length) || (match l.rxRing with | c :: _ => c.aged | [] => false) || l.pendingBreak.isSome)

/-! ### Sessions (R77, R88) -/

/-- The states counted in the tally (R88). -/
def SessionState.live : SessionState → Bool
  | .active => true | .cutoffGrace => true | .detached => true | _ => false

/-- The states in which a session is metered (R102). -/
def SessionState.metered : SessionState → Bool
  | .active => true | .cutoffGrace => true | _ => false

/-- The slot holds a session in one of the three live states. -/
def Slot.live (k : Slot) : Bool := match k.session with | some x => x.state.live | none => false

/-- The tally (R88). -/
def State.tally (s : State) : Nat := s.table.slots.toList.countP Slot.live

/-- The handle of the session in slot `k` (R76). -/
def State.handleAt (s : State) (k : Fin 12) : Handle :=
  { station := s.own, slot := k, generation := s.table.slots[k].generation }

/-- The slot of a handle that names this station and a slot of its table (R46, step 1). -/
def State.slotOf (s : State) (h : Handle) : Option (Fin 12) :=
  if h.station = s.own then (if lt : h.slot < 12 then some ⟨h.slot, lt⟩ else none) else none

/-- The slot and session that a handle matches (R77). -/
def State.matched (s : State) (h : Handle) : Option (Fin 12 × Session) :=
  match s.slotOf h with
  | none => none
  | some k =>
    if s.table.slots[k].generation = h.generation then
      match s.table.slots[k].session with
      | some x => some (k, x)
      | none => none
    else none

/-- The census (R91). -/
def State.census (s : State) : Nat :=
  s.tally + (s.bus.census.toList.map (fun e => match e with | some x => x.count | none => 0)).sum

/-! ### Account home (R54) -/

/-- The account lies in the home range (R54). -/
def Home.inRange (h : Home) (account : Nat) : Bool := decide (h.first ≤ account) && decide (account < h.first + h.count)

/-- The record index of an account of the range (R54). -/
def Home.index (h : Home) (account : Nat) : Nat := account - h.first

/-- The entry of the home session list that holds a handle (R56). -/
def Home.find (h : Home) (x : Handle) : Option HomeEntry := h.list.find? (fun e => decide (e.handle = x))

/-- The account's non-MOVING entries (R56). -/
def Home.nonMoving (h : Home) (account : Nat) : Nat :=
  h.list.countP (fun e => decide (e.account = account) && decide (e.state ≠ .moving))

/-- The account is on the quarantine list (R158). -/
def Home.quarantined (h : Home) (account : Nat) : Bool := h.quarantine.any (fun q => decide (q.account = account))

/-! ### Frames that wait (R55, R138, R165, R167) -/

/-- The host-command path's work is an account command, which the home is taking (section 7.4). -/
def HostWork.account : HostWork → Bool
  | .accountLoad _ => true | .accountRead _ => true | .deposit _ _ => true | .unlock _ => true | .probe _ => false
  | .flip _ _ => false

/-- The home's account command has its access still to make or to end (R55, R123). -/
def State.accountAtWork (s : State) : Bool := match s.store.hostWork with | some w => w.account | none => false

/-- The home is taking a frame or an account command, or draining its backlog (R55, R122). -/
def State.homeBusy (s : State) : Bool := s.home.work.isSome || s.home.draining || s.accountAtWork

/-- The host-command path has a request that waits for the store (R138). -/
def State.hostWaiting (s : State) : Bool := s.store.hostWork.isSome && decide (s.store.access ≠ some .host)

/-- Some block takes a station-to-station frame (R55, R82, R85, R114, R165). -/
def State.someBlockTakes (s : State) (f : Handed) : Bool :=
  match f with
  | .claim c => s.home.inRange c.account
  | .detach d => s.home.inRange d.account
  | .charge c => decide (c.home = s.own) && s.home.inRange c.account
  | .cutoff c => decide (c.handle.station = s.own)
  | .refuse r => decide (r.handle.station = s.own)
  | _ => true

/-- The frame cannot be taken yet: a frame before it goes to the same block, or the block is busy (R55, R138, R165). A frame
that no block takes is given to none and waits for nothing (R55, R165, log entry 20). -/
def State.mustWait (s : State) (f : Handed) : Bool :=
  s.someBlockTakes f &&
    ((s.bus.handed.takeWhile (fun g => decide (g ≠ f))).any (fun g => g.sharesBlock f) ||
      (f.toHome && s.homeBusy) || (f.toDecoder && s.hostWaiting) ||
      (match f with | .command k _ => k.usesStore && s.store.hostWork.isSome | _ => false))

/-- The station state serves the frame at all (R165): in STARTING a STATUS READ alone, in STRAP_FAULT nothing. -/
def State.serves (s : State) (f : Handed) : Bool :=
  !s.inReset &&
    (match s.station.state with
     | .strapFault => false
     | .starting => (match f with | .command .statusRead _ => true | _ => false)
     | .awaitingConfig => true
     | .inService => true)

end Sys2Proof.Machine
end

