-- ==== Sys2Proof/Machine/Ops.lean ====
section
/-! DEFINITION. The shared operations on lines, slots, the fault log and the transmit queue: updates of one place of State,
logging a fault event (R177 to R180), offers to the queue and its leavings (R169 to R171). -/

namespace Sys2Proof.Machine

/-! ### Updates of one place -/

def State.setLine (l : Fin 8) (x : Line) (s : State) : State := { s with lines := s.lines.set l x }

def State.modLine (l : Fin 8) (f : Line → Line) (s : State) : State := s.setLine l (f s.lines[l])

def State.setSlot (k : Fin 12) (x : Slot) (s : State) : State :=
  { s with table := { s.table with slots := s.table.slots.set k x } }

def State.modSlot (k : Fin 12) (f : Slot → Slot) (s : State) : State := s.setSlot k (f s.table.slots[k])

/-- A change to the session record of a slot, if it holds one. -/
def State.modSession (k : Fin 12) (f : Session → Session) (s : State) : State :=
  s.modSlot k (fun x => { x with session := x.session.map f })

def State.setQueue (q : List Entry) (s : State) : State := { s with bus := { s.bus with queue := q } }

def State.setHome (h : Home) (s : State) : State := { s with home := h }

def State.setStore (t : Store) (s : State) : State := { s with store := t }

def State.setWords (m : Memory) (s : State) : State := { s with store := { s.store with words := m } }

/-- A per-line output-discard count raised by `n`, holding at 255 (R34). -/
def Line.discard (n : Nat) (l : Line) : Line := { l with outputDiscards := holdAt 255 (l.outputDiscards + n) }

/-! ### Answering permission (R3) -/

/-- Without permission a RINGING line returns to IDLE with ring count 0 and its timer stopped; the ring filter is ABSENT,
since presence is measured anew from the return of permission (R3, R4). -/
def Line.quiet (l : Line) : Line :=
  if l.state = .ringing then { l with state := .idle, ringCount := 0, timer := none, ringFilter := .absent } else l

/-- Permission is re-evaluated (R3). -/
def settlePermission (s : State) : State :=
  if s.permission then s else { s with lines := s.lines.map Line.quiet }

/-! ### The fault log (R177, R178) -/

def FaultLog.severityLog (f : FaultLog) : Severity → SeverityLog
  | .corrected => f.corrected
  | .degraded => f.degraded
  | .failing => f.failing

def FaultLog.setSeverity (f : FaultLog) (v : Severity) (l : SeverityLog) : FaultLog :=
  match v with
  | .corrected => { f with corrected := l }
  | .degraded => { f with degraded := l }
  | .failing => { f with failing := l }

/-- The set with only the kind in it. -/
def FaultKind.bit (k : FaultKind) : KindSet := BitVec.twoPow 16 k.code

/-- The kind is in the set (R181). -/
def FaultKind.isIn (k : FaultKind) (set : KindSet) : Bool := set.getLsbD k.code

/-- One severity's log after an unmasked event of that severity (R177, steps 2 and 3). -/
def SeverityLog.note (l : SeverityLog) (time : Nat) (e : FaultEvent) : SeverityLog :=
  match l.first with
  | none => { l with first := some { kind := e.kind, time := time, subject := e.subject } }
  | some _ => { l with later := l.later ||| e.kind.bit }

/-- The selected-fault counter after an unmasked event (R178). -/
def FaultLog.countEvent (f : FaultLog) (k : FaultKind) : FaultLog :=
  if k.isIn f.selected then
    if f.count < 127 then { f with count := f.count + 1 } else { f with count := 127, overflow := true }
  else f

/-- The fault log after one fault event (R177). -/
def FaultLog.take (f : FaultLog) (e : FaultEvent) : FaultLog :=
  if e.kind.isIn f.masks then f
  else
    (f.setSeverity e.kind.severity ((f.severityLog e.kind.severity).note f.stationTime e)).countEvent e.kind

/-- The event fills its severity's FIRST record (R177, step 2). -/
def FaultLog.fills (f : FaultLog) (e : FaultEvent) : Bool :=
  !e.kind.isIn f.masks && (f.severityLog e.kind.severity).first.isNone

/-! ### The transmit queue: what it holds and how it grows (R169, R170) -/

/-- The queue has a free place (R169). -/
def State.room (s : State) : Bool := decide (s.bus.queue.length < Config.queuePlaces)

/-- A new WAITING entry. -/
def Entry.fresh (destination : Nat) (p : Payload) : Entry :=
  { destination := destination, payload := p, inFlight := false, mismatches := 0 }

/-- An entry joins its class: it stands behind every entry that joined before it (R169). -/
def State.joinQueue (e : Entry) (s : State) : State := s.setQueue (s.bus.queue ++ [e])

/-- The entry is a CHARGE for the handle. -/
def Entry.chargesFor (h : Handle) (e : Entry) : Bool :=
  match e.payload with | .charge c _ => decide (c.handle = h) | _ => false

/-- The entry is the DATA entry of the line. -/
def Entry.dataOn (l : Fin 8) (e : Entry) : Bool :=
  match e.payload with | .data m _ _ => decide (m = l) | _ => false

/-- The entry is a DATA entry. -/
def Entry.isData (e : Entry) : Bool := match e.payload with | .data _ _ _ => true | _ => false

/-- The entry is a TALLY. -/
def Entry.isTally (e : Entry) : Bool := match e.payload with | .tally _ => true | _ => false

/-- The entry is a LATE or DUPLICATE final CHARGE, which no slot holds: it is not a CHARGE of a session and carries total 0
(R52, R53, R104). -/
def Entry.isZeroCharge (e : Entry) : Bool :=
  match e.payload with | .charge c none => c.endCause.isSome | _ => false

/-- What the queue holds of some sort: nothing, a WAITING entry, or one IN_FLIGHT (R87, R88, R107). -/
inductive Holding where
  | nothing | waiting | inFlight
  deriving DecidableEq, Repr

/-- What the queue holds of the entries that `p` picks. -/
def State.holding (s : State) (p : Entry → Bool) : Holding :=
  match s.bus.queue.find? p with
  | none => .nothing
  | some e => if e.inFlight then .inFlight else .waiting

/-- What an offer of a session's CHARGE finds in the queue for its handle (R87, R107). A LATE or DUPLICATE CHARGE keeps its
total 0 (R104), and so stands in the way as one IN_FLIGHT does (log entry 40). -/
def State.holdingCharge (s : State) (h : Handle) : Holding :=
  if s.bus.queue.any (fun e => e.chargesFor h && e.isZeroCharge) then .inFlight else s.holding (Entry.chargesFor h)

/-- The WAITING entries that `p` picks are rewritten in place (R171). -/
def State.rewriteWaiting (p : Entry → Bool) (f : Payload → Payload) (s : State) : State :=
  s.setQueue (s.bus.queue.map (fun e => if p e && !e.inFlight then { e with payload := f e.payload } else e))

/-- The first entry that `p` picks leaves the queue. -/
def State.removeFirst (p : Entry → Bool) (s : State) : State := s.setQueue (s.bus.queue.eraseP p)

/-- The youngest entry that `p` picks leaves the queue. -/
def State.removeYoungest (p : Entry → Bool) (s : State) : State :=
  s.setQueue (s.bus.queue.reverse.eraseP p).reverse

/-! ### Offers that log no fault (R24, R87, R88, R107, R171) -/

/-- The final CHARGE of the session in slot `k` (R86). -/
def finalBody (h : Handle) (x : Session) : ChargeBody :=
  { handle := h, account := x.account, home := x.home.getD 0, total := x.total,
    endCause := some (x.endCause.getD .normalHangup) }

/-- A CHARGE already queued, made the final CHARGE of the session in slot `k`: total, final flag, end cause and slot; the
rest is kept (R87, R171). -/
def Payload.madeFinal (k : Fin 12) (x : Session) : Payload → Payload
  | .charge c _ => .charge { c with total := x.total, endCause := some (x.endCause.getD .normalHangup) } (some k)
  | p => p

/-- The final CHARGE waiting in slot `k` is offered (R87). -/
def offerFinal (k : Fin 12) (s : State) : State :=
  match s.table.slots[k].session with
  | none => s
  | some x =>
    if x.state = .ending ∧ x.finalStatus = some .waiting then
      match s.holdingCharge (s.handleAt k) with
      | .waiting =>
        (s.rewriteWaiting (Entry.chargesFor (s.handleAt k)) (Payload.madeFinal k x)).modSession k
          (fun y => { y with finalStatus := some .queued })
      | .inFlight => s
      | .nothing =>
        if s.room then
          (s.joinQueue (Entry.fresh (x.home.getD 0) (.charge (finalBody (s.handleAt k) x) (some k)))).modSession k
            (fun y => { y with finalStatus := some .queued })
        else s
    else s

/-- A TALLY joins class 3, carrying the restart flag if it is the first in IN_SERVICE, and the heartbeat is restarted
(R88, R89). Its count is taken when its transmission starts. -/
def joinTally (s : State) : State :=
  let s := s.joinQueue (Entry.fresh 255 (.tally { count := s.tally, restart := s.table.restartDue }))
  { s with table := { s.table with heartbeat := some 10, restartDue := false } }

/-- A line with a trigger standing and no DATA entry offers one (R24); a full queue refuses it. -/
def offerData (l : Fin 8) (s : State) : State :=
  if s.lines[l].trigger && !s.bus.queue.any (Entry.dataOn l) && s.room then
    match s.lines[l].servedSlot with
    | none => s
    | some k => s.joinQueue (Entry.fresh 0 (.data l (s.handleAt k) none))
  else s

/-- The slots, lowest first. -/
def allSlots : List (Fin 12) := List.finRange 12

/-- The lines, lowest first. -/
def allLines : List (Fin 8) := List.finRange 8

/-- A CHARGE already queued, given the total of a later offer; the rest is kept (R107). -/
def Payload.withTotal (total : Nat) : Payload → Payload
  | .charge c o => .charge { c with total := total } o
  | p => p

/-- A non-final CHARGE of the session in slot `k` is offered (R107). -/
def offerCharge (k : Fin 12) (s : State) : State :=
  match s.table.slots[k].session with
  | none => s
  | some x =>
    match s.holdingCharge (s.handleAt k) with
    | .waiting => s.rewriteWaiting (Entry.chargesFor (s.handleAt k)) (Payload.withTotal x.total)
    | .inFlight => s
    | .nothing =>
      if s.room then
        s.joinQueue (Entry.fresh (x.home.getD 0)
          (.charge { handle := s.handleAt k, account := x.account, home := x.home.getD 0, total := x.total,
                     endCause := none } none))
      else s

/-- The zero final CHARGE that answers a late or duplicate GRANT: offered once, in IN_SERVICE, refused by a full queue or by
a CHARGE already queued for the handle (R52, R53). -/
def offerZeroCharge (source : Nat) (g : GrantBody) (cause : EndCause) (s : State) : State :=
  if s.inService && s.room && decide (s.holding (Entry.chargesFor g.handle) = .nothing) then
    s.joinQueue (Entry.fresh source
      (.charge { handle := g.handle, account := g.account, home := source, total := 0, endCause := some cause } none))
  else s

/-- A class-2 offer that a full queue refuses: CLAIM and DETACH (R170). -/
def offerRefusable (destination : Nat) (p : Payload) (s : State) : State :=
  if s.room then s.joinQueue (Entry.fresh destination p) else s

/-! ### Fault events and the offers that can log one (R170, R177 to R180) -/

/-- A dropped frame's fault (R170). -/
def queueFullEvent (destination : Nat) : FaultEvent :=
  { kind := .txQueueFull, subject := { Subject.blank with address := some destination } }

/-- A fault event is taken: the log, then the notice its severity's action asks for, then permission by the busy-out derived
anew. A notice that meets a full queue is dropped and is a fault event of its own; two such events at most follow one
(R179), so `fuel` 3 reaches the end of the chain. -/
def logWith : Nat → FaultEvent → State → State
  | 0, _, s => s
  | fuel + 1, e, s =>
    let sev := e.kind.severity
    let s1 := settlePermission { s with faults := s.faults.take e }
    if s.faults.fills e && decide ((s.faults.severityLog sev).action ≠ .none) && decide (s.station.state ≠ .strapFault) then
      if s1.room then
        s1.joinQueue (Entry.fresh 0 (.reply .faultNotice
          (noticeBody sev { kind := e.kind, time := s.faults.stationTime, subject := e.subject })))
      else logWith fuel (queueFullEvent 0) s1
    else s1

/-- A block hands over a fault event (R177). -/
def logFault (kind : FaultKind) (subject : Subject) (s : State) : State := logWith 3 { kind := kind, subject := subject } s

/-- A frame dropped by the full queue (R170). -/
def logQueueFull (destination : Nat) (s : State) : State :=
  logFault .txQueueFull { Subject.blank with address := some destination } s

/-- A class-3 frame to address 0: dropped with a fault when the queue is full (R170). -/
def offerReply (kind : ReplyKind) (body : List Byte) (s : State) : State :=
  if s.room then s.joinQueue (Entry.fresh 0 (.reply kind body)) else logQueueFull 0 s

/-- A RESULT is queued (Formats). -/
def offerResult (kind : CommandKind) (code : ResultCode) (data : List Byte) (s : State) : State :=
  offerReply .result (resultBody kind code data) s

/-- A TALLY is offered, while the station is IN_SERVICE (R88). -/
def offerTally (s : State) : State :=
  if s.inService then
    match s.holding Entry.isTally with
    | .inFlight => { s with table := { s.table with tallyOwed := true } }
    | .waiting => s
    | .nothing => if s.room then joinTally s else logQueueFull 255 s
  else s

/-- The owed TALLY is offered, while the station is IN_SERVICE: its mark is cleared, and the offer is one like any other; with
no TALLY queued and no room it is dropped and TX_QUEUE_FULL logged (R88, R170, R171). -/
def offerOwedTally (s : State) : State :=
  if s.table.tallyOwed && s.inService then offerTally { s with table := { s.table with tallyOwed := false } } else s

/-- A freed place is offered: final CHARGEs waiting in their slots, an owed TALLY, DATA (R171). -/
def offerFreed (s : State) : State :=
  let s := allSlots.foldl (fun s k => offerFinal k s) s
  let s := offerOwedTally s
  allLines.foldl (fun s l => offerData l s) s

/-- A class-1 frame would be queued: there is room or a DATA entry to displace (R170). -/
def State.classOneFits (s : State) : Bool :=
  s.room || s.bus.queue.any (fun e => e.isData && !e.inFlight)

/-- A class-1 frame is offered (R170). A displaced DATA entry's place is the frame's; the blocks that wait for room then
find the queue full again (R171). -/
def offerClassOne (destination : Nat) (p : Payload) (s : State) : State :=
  if s.room then s.joinQueue (Entry.fresh destination p)
  else if s.bus.queue.any (fun e => e.isData && !e.inFlight) then
    offerFreed ((s.removeYoungest (fun e => e.isData && !e.inFlight)).joinQueue (Entry.fresh destination p))
  else logQueueFull destination s

/-! ### Taking frames in bus order (R55, R165, R167) -/

/-- A frame or command is taken by its block: not at all in a station state that does not serve it; later, when a frame
before it goes to the same block or the block is busy, and then it waits among the frames handed over; else at once. -/
def takeHanded (f : Handed) (act : State → State) (s : State) : State :=
  if !s.serves f then s
  else if s.mustWait f then
    if s.bus.handed.contains f then s else { s with bus := { s.bus with handed := s.bus.handed ++ [f] } }
  else act { s with bus := { s.bus with handed := s.bus.handed.erase f } }

/-! ### Events -/

/-- What a command answers. -/
abbrev Answer := Host.Outcome State Fault Refusal

/-- An event of a station that is not held in reset; a reset in progress holds every block at its values (R187). -/
def awake (f : State → State) (s : State) : Answer := .next (if s.inReset then s else f s)

/-- A whole-second timer whose expiry is due (R2). -/
def due (timer : Option Nat) : Bool := decide (timer = some 0)

/-- A grace timer whose expiry may be taken: due, or reaching 0 at the tick to come, whose expiry R94 lets the session table
take before the meter's work for that tick (log entry 12). -/
def graceDue (timer : Option Nat) : Bool := due timer || decide (timer = some 1)

end Sys2Proof.Machine
end

