-- ==== Sys2Proof/Machine/StoreOps.lean ====
section
/-! DEFINITION. The record store's words and records: the mapping in force (R152), reads with their write-back and counting
(R134 to R137), record reads and writes (R135), listing in quarantine (R159, R160), the unbilled counter (R119). -/

namespace Sys2Proof.Machine

/-! ### Words -/

/-- The segment of a word (R131). -/
def segmentOf (w : Nat) : Nat := w / 256

/-- One segment's entry of a table of eight. -/
def perSegment {α : Type} (v : Vector α 8) (d : α) (seg : Nat) : α := v.toList.getD seg d

/-- The mapping in force for a word (R152). -/
def Store.mapping (t : Store) (w : Nat) : Option Nat :=
  match t.migration with
  | some m =>
    if m.segment.val = segmentOf w ∧ w % 256 < m.pointer then m.pendingEntry else perSegment t.spareMap none (segmentOf w)
  | none => perSegment t.spareMap none (segmentOf w)

/-- A word as a read finds it, under the mapping in force (R134). -/
def Store.decode (t : Store) (w : Nat) : WordRead := readStored (t.mapping w) (t.words.read w)

/-- A word written with data bits under a fresh code, by the mapping in force (R133). -/
def Store.writeData (t : Store) (w : Nat) (d : DataWord) : Store :=
  { t with words := t.words.write w (freshCode (t.mapping w) d) }

def writeData (w : Nat) (d : DataWord) (s : State) : State := s.setStore (s.store.writeData w d)

/-- A vector of eight changed at a segment number. -/
def setSegment {α : Type} (v : Vector α 8) (seg : Nat) (x : α) : Vector α 8 := v.setIfInBounds seg x

/-- A corrected word is counted and logged: the segment's counter rises, holding at 15, SPARE_ADVISED is logged when the
rise brings it to 8 with the flag clear, and STORE_CORRECTED is logged (R136, R137). -/
def countCorrected (w : Nat) (s : State) : State :=
  let seg := segmentOf w
  let before := perSegment s.store.corrected 0 seg
  let after := holdAt 15 (before + 1)
  let s1 := s.setStore { s.store with corrected := setSegment s.store.corrected seg after }
  let s2 :=
    if before < 8 ∧ after = 8 ∧ perSegment s.store.advised false seg = false then
      logFault .spareAdvised { Subject.blank with segment := some seg }
        (s1.setStore { s1.store with advised := setSegment s1.store.advised seg true })
    else s1
  logFault .storeCorrected { Subject.blank with segment := some seg, word := some w } s2

/-- A read's effect on a word found CORRECTED: written back under a fresh code, counted and logged (R136). -/
def correctOnRead (w : Nat) (r : WordRead) (s : State) : State :=
  if r.outcome = .corrected then countCorrected w (writeData w r.data s) else s

/-! ### Records (R131, R132, R135) -/

/-- The numbers of a record's four words. -/
def recordWords (index : Nat) : List Nat := [4 * index, 4 * index + 1, 4 * index + 2, 4 * index + 3]

/-- The outcomes of a record read (R135). A fault carries the subject word and whether it is a tag mismatch (R159). -/
inductive RecordOutcome where
  | clean | corrected | uncorrectable (word : Nat) | tagMismatch (word : Nat)
  deriving DecidableEq, Repr

/-- A record as read: its outcome and its fields (R135). -/
structure RecordRead where
  outcome : RecordOutcome
  record : Record
  deriving DecidableEq, Repr

/-- Reading the record of an account at an index (R135): word by word, the lowest uncorrectable word first, then the tag. -/
def Store.readRecord (t : Store) (index account : Nat) : RecordRead :=
  let reads := (recordWords index).map (fun w => (w, t.decode w))
  let data := reads.map (fun p => p.2.data)
  let record := recordOf (data.getD 0 0) (data.getD 1 0) (data.getD 2 0) (data.getD 3 0)
  let outcome :=
    match reads.find? (fun p => decide (p.2.outcome = .uncorrectable)) with
    | some p => RecordOutcome.uncorrectable p.1
    | none =>
      if record.valid ∧ record.tag ≠ account % 65536 then .tagMismatch (4 * index + 2)
      else if reads.any (fun p => decide (p.2.outcome = .corrected)) then .corrected else .clean
  { outcome := outcome, record := record }

/-- A record read's own effect: each corrected word in order written back, counted and logged (R135, R136). -/
def correctRecord (index : Nat) (s : State) : State :=
  (recordWords index).foldl (fun s w => correctOnRead w (s.store.decode w) s) s

/-- A record write: its four words in order, each under a fresh code (R135). -/
def writeRecord (index : Nat) (r : Record) (s : State) : State :=
  ((recordWords index).zip r.words).foldl (fun s p => writeData p.1 p.2 s) s

/-! ### Quarantine (R158 to R160) -/

/-- The answers of a listing (R159). -/
inductive ListingAnswer where
  | listed | already | full
  deriving DecidableEq, Repr

/-- The answer that a listing of the account finds (R159). -/
def Home.listingAnswer (h : Home) (account : Nat) : ListingAnswer :=
  if h.quarantined account then .already
  else if h.quarantine.length < Config.quarantinePlaces then .listed
  else .full

/-- A listing of an account with the fault kind of its reason and its subject word (R159, R160). -/
def listAccount (kind : FaultKind) (account word : Nat) (s : State) : State :=
  match s.home.listingAnswer account with
  | .already => logFault kind { Subject.blank with account := some account, word := some word } s
  | .listed =>
    logFault kind { Subject.blank with account := some account, word := some word }
      (s.setHome { s.home with quarantine := s.home.quarantine ++ [{ account := account, held := 0 }] })
  | .full => logFault .quarantineFull { Subject.blank with account := some account, word := some word } s

/-- An uncorrectable word met by a scrub or migration step: the account of the home range is listed, and outside the range
the fault names segment and word (R145, R155). -/
def reportUncorrectable (w : Nat) (s : State) : State :=
  if w / 4 < s.home.count then listAccount .storeUncorrectable (s.home.first + w / 4) w s
  else logFault .storeUncorrectable { Subject.blank with segment := some (segmentOf w), word := some w } s

/-! ### Credits that can be placed nowhere, and held charges (R118, R119) -/

/-- A record index joins the set of unbilled marks, kept rising. -/
def addMark : List Nat → Nat → List Nat
  | [], i => [i]
  | j :: rest, i => if i = j then j :: rest else if i < j then i :: j :: rest else j :: addMark rest i

/-- Credits of an account join the unbilled counter; UNBILLED is logged while its mark is clear, with the credits as
they were offered, even where the counter holds at its top (R119, log entry 44). -/
def addUnbilled (account : Nat) (handle : Option Handle) (credits : Nat) (s : State) : State :=
  if credits = 0 then s
  else
    let i := s.home.index account
    let s1 := s.setHome { s.home with unbilled := holdAt Config.maxCredits (s.home.unbilled + credits) }
    if s.home.unbilledMarks.contains i then s1
    else
      logFault .unbilled { Subject.blank with account := some account, handle := handle, total := some credits }
        (s1.setHome { s1.home with unbilledMarks := addMark s1.home.unbilledMarks i })

/-- The account's unbilled mark is cleared (R119). -/
def clearMark (account : Nat) (s : State) : State :=
  s.setHome { s.home with unbilledMarks := s.home.unbilledMarks.filter (fun j => decide (j ≠ s.home.index account)) }

/-- The held charges of a listed account (R158). -/
def Home.heldOf (h : Home) (account : Nat) : Nat :=
  match h.quarantine.find? (fun q => decide (q.account = account)) with | some q => q.held | none => 0

/-- Credits join the account's held charges; what would pass the top goes to the unbilled counter (R118). -/
def addHeld (account : Nat) (handle : Option Handle) (credits : Nat) (s : State) : State :=
  addUnbilled account handle (s.home.heldOf account + credits - Config.maxCredits)
    (s.setHome { s.home with quarantine := s.home.quarantine.map (fun q =>
      if q.account = account then { q with held := holdAt Config.maxCredits (q.held + credits) } else q) })

/-- The balance after a debit, bounded below (R117). -/
def debited (balance : Int) (credits : Nat) : Int := max Config.minBalance (balance - credits)

/-- The credits of a debit that lie below the bound (R117). -/
def debitExcess (balance : Int) (credits : Nat) : Nat := (Config.minBalance - (balance - credits)).toNat

end Sys2Proof.Machine
end

