-- ==== Sys2Proof/Machine/HomeOps.lean ====
section
/-! DEFINITION. The shared operations of the account home: the session list (R56, R57), orphans (R66), the rewrite of a
waiting GRANT REATTACH (R69), replies (R64), a CHARGE without store access (R114 to R116, R118, R121), and the store port
arbiter with what it lets run: entering a hold (R141), the home's held path (R139), the drain (R122), the grant (R139). -/

namespace Sys2Proof.Machine

/-! ### The session list -/

/-- The entry's silence timer restarted (R57). -/
def HomeEntry.heard (e : HomeEntry) : HomeEntry := { e with silence := Config.silenceSeconds, expiryPutOff := false }

/-- The list with the entry of a handle changed. -/
def Home.modEntry (h : Home) (x : Handle) (f : HomeEntry → HomeEntry) : Home :=
  { h with list := h.list.map (fun e => if e.handle = x then f e else e) }

/-- The list and the detach order without the entry of a handle; the others keep their order (R56). -/
def Home.without (h : Home) (x : Handle) : Home :=
  { h with list := h.list.filter (fun e => decide (e.handle ≠ x)),
           detachOrder := h.detachOrder.filter (fun y => decide (y ≠ x)) }

/-- A new ACTIVE entry at the end of the list (R62, R63). -/
def HomeEntry.fresh (c : ClaimBody) : HomeEntry :=
  { handle := c.handle, account := c.account, state := .active, applied := 0, silence := Config.silenceSeconds,
    cutoffSent := false, successor := none, expiryPutOff := false }

/-- A GRANT made kind NEW (R69, R171). -/
def Payload.madeNew : Payload → Payload
  | .grant g => .grant { g with oldHandle := none }
  | p => p

/-- The entry is a GRANT for the handle. -/
def Entry.grantsTo (h : Handle) (e : Entry) : Bool :=
  match e.payload with | .grant g => decide (g.handle = h) | _ => false

/-- A waiting GRANT REATTACH for the successor handle is rewritten to kind NEW (R69). The successor handle alone picks it: every
waiting GRANT for that handle is rewritten, whatever old handle it names (log entry 47). -/
def rewriteGrant (successor : Option Handle) (s : State) : State :=
  match successor with
  | none => s
  | some h => s.rewriteWaiting (Entry.grantsTo h) Payload.madeNew

/-- An entry is removed as an orphan (R66): ORPHAN_EXPIRED, and the rewrite when it was MOVING (R69). -/
def removeOrphan (e : HomeEntry) (s : State) : State :=
  let s := logFault .orphanExpired
    { Subject.blank with handle := some e.handle, account := some e.account, total := some e.applied }
    (s.setHome (s.home.without e.handle))
  if e.state = .moving then rewriteGrant e.successor s else s

/-! ### Replies (R64, R115) -/

def denyClaim (c : ClaimBody) (r : DenyReason) (s : State) : State :=
  offerClassOne c.handle.station (.deny { handle := c.handle, account := c.account, reason := r }) s

/-- A CHARGE that finds no entry (R115). -/
def answerUnknown (handle : Handle) (account total : Nat) (s : State) : State :=
  if total = 0 then s else offerClassOne handle.station (.refuse { handle := handle, account := account, total := total }) s

/-- The taking of a CLAIM ends: expiries put off are taken now, in the order of the list (log entry 42), those of timers
restarted meanwhile not at all (R66). -/
def finishClaim (s : State) : State :=
  let due := s.home.list.filter (fun e => e.expiryPutOff && decide (e.silence = 0))
  let s := s.setHome { s.home with work := none, list := s.home.list.map (fun e => { e with expiryPutOff := false }) }
  due.foldl (fun s e => removeOrphan e s) s

/-! ### A CHARGE without the store (R114, R116, R118, R121) -/

/-- The CHARGE joins the posting backlog (R121). -/
def Home.backlogged (h : Home) (handle : Handle) (account total : Nat) (final : Bool) : Home :=
  if h.backlog.any (fun b => decide (b.handle = handle)) then
    { h with backlog := h.backlog.map (fun b =>
        if b.handle = handle then { b with total := max b.total total, final := b.final || final } else b) }
  else { h with backlog := h.backlog ++ [{ handle := handle, account := account, total := total, final := final }] }

/-- What the taking of a CHARGE does to the entry it finds: the silence timer restarted, and the rewrite asked for when it
is final and the entry MOVING (R114, R69). -/
def noteCharge (e : HomeEntry) (final : Bool) (s : State) : State :=
  let s := s.setHome (s.home.modEntry e.handle HomeEntry.heard)
  if final ∧ e.state = .moving then rewriteGrant e.successor s else s

/-- The applied total raised to the CHARGE's, and the entry removed by a final CHARGE (R116, steps 2 and 4). -/
def settleEntry (handle : Handle) (total : Nat) (final : Bool) (s : State) : State :=
  let s := s.setHome (s.home.modEntry handle (fun e => { e with applied := max e.applied total }))
  if final then s.setHome (s.home.without handle) else s

/-- The CHARGE needs the store: Δ is above 0 and the account is not quarantined (R116, R117). -/
def State.needsStore (s : State) (e : HomeEntry) (total : Nat) : Bool :=
  decide (e.applied < total) && !s.home.quarantined e.account

/-- A CHARGE that needs no store is applied: stale (R116, step 1) or to held charges (R118). -/
def applyAside (e : HomeEntry) (total : Nat) (final : Bool) (s : State) : State :=
  settleEntry e.handle total final
    (if e.applied < total then addHeld e.account (some e.handle) (total - e.applied) s else s)

/-! ### The arbiter (R139 to R143, R122) -/

/-- `n` RESULTs of one kind and code. -/
def answerHolds (code : ResultCode) : Nat → State → State
  | 0, s => s
  | n + 1, s => answerHolds code n (offerResult .hold code [] s)

/-- The store enters HELD, and every waiting HOLD is answered DONE (R141). -/
def enterHold (s : State) : State :=
  answerHolds .done s.store.waitingHolds
    (s.setStore { s.store with hold := .held, holdTimer := some 10, waitingHolds := 0 })

/-- The home's request refused by HELD: a CLAIM is denied HOME_BUSY, a CHARGE joins the backlog, one from the backlog stays
in it, its silence timer restarted, and the drain stops (R139, R58, R114, R122, log entry 48). -/
def refuseHome (s : State) : State :=
  match s.home.work with
  | none => s
  | some (.claim c) => finishClaim (denyClaim c .homeBusy s)
  | some (.charge h a t f fromBacklog) =>
    if fromBacklog then s.setHome { s.home with work := none, draining := false }
    else s.setHome { s.home.backlogged h a t f with work := none }

/-- The drain goes on with the head of the backlog while the home is free (R122): an account command that the home is taking
ends first, and the drain is its next work (R55, R143). It stops when it needs the store, and at an entry it finds while the
store is HELD. An entry met while HELD is not taken and its list entry's silence timer runs on; one whose request waited for the
store when HELD came has had that timer restarted and its rewrite asked for, and stays so (log entry 48). -/
def drainLoop : Nat → State → State
  | 0, s => s
  | fuel + 1, s =>
    if s.home.draining && s.home.work.isNone && !s.accountAtWork then
      match s.home.backlog with
      | [] => s.setHome { s.home with draining := false }
      | b :: rest =>
        match s.home.find b.handle with
        | none => drainLoop fuel (answerUnknown b.handle b.account b.total (s.setHome { s.home with backlog := rest }))
        | some e =>
          if s.store.hold = .held then s.setHome { s.home with draining := false }
          else if s.needsStore e b.total then
            let s := noteCharge e b.final s
            s.setHome { s.home with work := some (.charge b.handle e.account b.total b.final true) }
          else
            let s := applyAside e b.total b.final (noteCharge e b.final s)
            drainLoop fuel (s.setHome { s.home with backlog := rest })
    else s

def drain (s : State) : State := drainLoop (s.home.backlog.length + 1) s

/-- The requester that the arbiter grants, if no access is in progress (R139). -/
def State.nextRequester (s : State) : Option Requester :=
  if s.store.access.isSome then none
  else
    match s.store.hold with
    | .pending => none
    | .held => if s.store.hostWork.isSome then some .host else none
    | .notHeld =>
      if s.home.work.isSome then some .home
      else if s.store.hostWork.isSome then some .host
      else if s.store.migrationRequest then some .migration
      else if s.store.scrubRequest then some .scrub
      else none

/-- The arbiter grants the store (R139). -/
def grantStore (s : State) : State :=
  match s.nextRequester with
  | none => s
  | some r =>
    s.setStore { s.store with access := some r, migrationRequest := s.store.migrationRequest && decide (r ≠ .migration),
                              scrubRequest := s.store.scrubRequest && decide (r ≠ .scrub) }

/-- The arbiter at work: at a request, at the end of an access, at the end of a hold (R139, R141, R143). -/
def settleStore (s : State) : State :=
  let s := if s.store.access.isNone && decide (s.store.hold = .pending) then enterHold s else s
  let s := if decide (s.store.hold = .held) && decide (s.store.access ≠ some .home) then refuseHome s else s
  grantStore (drain s)

/-- A hold ends (R143): the timer stops, NOT_HELD, the drain begins, the waiting requests are granted. -/
def endHold (s : State) : State :=
  let s := s.setStore { s.store with hold := .notHeld, holdTimer := none }
  settleStore (s.setHome { s.home with draining := !s.home.backlog.isEmpty })

end Sys2Proof.Machine
end

