-- ==== Sys2Proof/Machine/LineOps.lean ====
section
/-! DEFINITION. The shared operations of the line units and the character paths: placing texts (R31), clearing the receive
path (R26), hanging up (R18, R19), the requests of R17. -/

namespace Sys2Proof.Machine

/-- A station text placed whole in a line's transmit ring, by the four steps of R31; only in SIGNON, CLAIMING or ONLINE. -/
def Line.place (text : List Nat) (l : Line) : Line :=
  if !l.state.locked || text.isEmpty then l
  else if l.txCount + text.length ≤ Config.txPlaces then { l with txStation := l.txStation ++ text }
  else if l.txStation.length + text.length ≤ Config.txPlaces then
    let kept := Config.txPlaces - (l.txStation.length + text.length)
    ({ l with txStation := l.txStation ++ text, txHost := l.txHost.take kept }).discard (l.txHost.length - kept)
  else l.discard text.length

/-- A station text is placed on a line (R31). -/
def placeText (l : Fin 8) (text : List Nat) (s : State) : State := s.modLine l (Line.place text)

/-- A fixed text is placed on a line (R32). -/
def placeFixed (l : Fin 8) (t : FixedText) (s : State) : State := placeText l t.chars s

/-- Host characters join the tail of a transmit ring; those that find no room are discarded and counted (R28). -/
def Line.joinHost (chars : List Nat) (l : Line) : Line :=
  let free := Config.txPlaces - l.txCount
  ({ l with txHost := l.txHost ++ chars.take free }).discard (chars.length - free)

/-- The filling of a DATA entry in flight marked: its ring has been cleared since (R26). -/
def Payload.ringCleared : Payload → Payload
  | .data l h (some f) => .data l h (some { f with ringCleared := true })
  | p => p

/-- A DATA entry of the line is withdrawn if its transmission has not started, and the freed place is offered; a filled one
in flight goes on, marked (R26, R171). -/
def withdrawData (l : Fin 8) (s : State) : State :=
  match s.holding (Entry.dataOn l) with
  | .nothing => s
  | .waiting => offerFreed (s.removeFirst (Entry.dataOn l))
  | .inFlight =>
    s.setQueue (s.bus.queue.map (fun e => if e.dataOn l && e.inFlight then { e with payload := e.payload.ringCleared } else e))

/-- The receive ring is cleared, with any pending break, and the line's DATA entry withdrawn (R26). -/
def clearReceive (l : Fin 8) (s : State) : State :=
  withdrawData l (s.modLine l (fun x => { x with rxRing := [], pendingBreak := none }))

/-- The line enters the HOLDING phase (R19): terminal-ready low, transmit ring and ring count cleared, the hold timer
started, the transmitted data lead marking (R16). -/
def Line.hold (l : Line) : Line :=
  { l with state := .hangup .holding, terminalReady := false, txStation := [], txHost := [], ringCount := 0,
           timer := some 2, sending := none }

/-- HANG UP (R17, R18): accepted in SIGNON, CLAIMING and ONLINE. The line drains its transmit ring; an empty one brings the
HOLDING phase at this event. -/
def Line.drain (l : Line) : Line :=
  let d := { l with state := .hangup .draining, servedSlot := none, dialogue := none, receiver := .idle }
  if l.txCount = 0 then d.hold else d

/-- HANG UP for a line (R17, R18). -/
def hangUp (l : Fin 8) (s : State) : State :=
  if s.lines[l].state.locked then (clearReceive l s).modLine l Line.drain else s

/-- The line hangs up straight into the HOLDING phase: answer timeout, speed-detect failure or carrier loss (R18). -/
def Line.drop (l : Line) : Line :=
  ({ l with servedSlot := none, dialogue := none, receiver := .idle }).hold

def hangUpDirect (l : Fin 8) (s : State) : State := (clearReceive l s).modLine l Line.drop

/-- CLAIM OUT (R17): accepted in SIGNON. The sign-on timer is suspended with the seconds it has; one that is due but not
taken keeps 1 (R41: a timer never resumes with 0; log entry 4). -/
def Line.claimOut (k : Fin 12) (l : Line) : Line :=
  if l.state = .signOn then
    { l with state := .claiming, servedSlot := some k,
             dialogue := l.dialogue.map (fun d => { d with step := .claimed, awaitedSlot := none,
                                                           timer := d.timer.map (fun n => max n 1) }) }
  else l

/-- RESUME DIALOGUE with the USER phase taken up (R17, R49 steps 2, 3 and 5). -/
def Line.resume (l : Line) : Line :=
  if l.state = .claiming then
    { l with state := .signOn, servedSlot := none,
             dialogue := l.dialogue.map (fun d => { d with phase := .user, step := .entry, entry := [], userNumber := none,
                                                           digest := 0, awaitedSlot := none }) }
  else l

/-- BIND (R17, R47): accepted in CLAIMING; the dialogue context closes (R35). -/
def Line.bind (l : Line) : Line :=
  if l.state = .claiming then { l with state := .online, dialogue := none } else l

/-- The line locks at a speed class and its dialogue starts (R11, R36). -/
def Line.lock (c : Nat) (l : Line) : Line :=
  { l with state := .signOn, speedClass := c, timer := none, receiver := .framing,
           dialogue := l.dialogue.map (fun d => { d with phase := .user, step := .entry, entry := [], timer := some 60 }) }

/-- A failed attempt at the caller's speed (R12). -/
def failedAttempt (l : Fin 8) (s : State) : State :=
  let attempts := (match s.lines[l].dialogue with | some d => d.speedAttempts | none => 0) + 1
  if attempts < 5 then
    s.modLine l (fun x => { x with receiver := .disarmed,
                                   dialogue := x.dialogue.map (fun d => { d with speedAttempts := attempts }) })
  else hangUpDirect l s

end Sys2Proof.Machine
end

