-- ==== Sys2Proof/Machine/SessionOps.lean ====
section
/-! DEFINITION. The shared operations of the session table and the meter: reserving and freeing slots (R43, R44, R87), the
outcome HOME_SILENT (R45), charging (R102, R103), ending a session (R86, R105), detaching one (R79). -/

namespace Sys2Proof.Machine

/-! ### Slots -/

/-- A slot freed: the record discarded, generation and reply source kept (R76, R87). -/
def Slot.freed (x : Slot) : Slot := { x with claimTimer := none, session := none }

def freeSlot (k : Fin 12) (s : State) : State := s.modSlot k Slot.freed

/-- HANG UP behind a text on the line a session is bound to, if it is bound to one (R17). -/
def hangUpWith (line : Option (Fin 8)) (t : FixedText) (s : State) : State :=
  match line with
  | none => s
  | some l => hangUp l (placeFixed l t s)

/-- The outcome HOME_SILENT of the claim in slot `k` (R45). -/
def homeSilent (k : Fin 12) (s : State) : State :=
  match s.table.slots[k].session with
  | none => s
  | some x => if x.abandoned then freeSlot k s else hangUpWith x.line .noResponse (freeSlot k s)

/-- The CLAIMING record of a new reservation (R44). -/
def Session.claiming (account : Nat) (l : Fin 8) (speedClass : Nat) : Session :=
  { account := account, home := none, line := some l, state := .claiming, abandoned := false, acctClass := none,
    speedClass := speedClass, total := 0, remainder := 0, postCounter := 0, grace := none, endCause := none,
    finalStatus := none, saturated := false }

/-- Slot `k` is reserved for the context of line `l`, and its CLAIM is offered (R44). -/
def reserveSlot (k : Fin 12) (l : Fin 8) (d : Dialogue) (s : State) : State :=
  let speedClass := s.lines[l].speedClass
  let account := d.userNumber.getD 0
  let s := s.modSlot k (fun x =>
    { generation := (x.generation + 1) % 256, replySource := none, claimTimer := none,
      session := some (Session.claiming account l speedClass) })
  if s.room then
    (s.joinQueue (Entry.fresh 255 (.claim
      { handle := s.handleAt k, account := account, digest := d.digest, speedClass := speedClass, line := l }))).modLine l
      (Line.claimOut k)
  else homeSilent k s

/-- The line whose context awaits slot `k` in SLOT_WAIT (R43). -/
def State.awaiting (s : State) (k : Fin 12) : Option (Fin 8 × Dialogue) :=
  allLines.findSome? (fun l =>
    match s.lines[l].dialogue with
    | some d => if d.step = .slotWait ∧ d.awaitedSlot = some k then some (l, d) else none
    | none => none)

/-- The final CHARGE of slot `k` has left the queue: the slot is freed, and reserved at once for a context that awaits it
(R87, R43). -/
def releaseSlot (k : Fin 12) (s : State) : State :=
  match s.awaiting k with
  | none => freeSlot k s
  | some (l, d) => reserveSlot k l d (freeSlot k s)

/-! ### The meter (R98, R101 to R105) -/

/-- The tariff entry of a band, a speed class and an account class (R98). -/
def Meter.tariff (m : Meter) (speedClass acctClass : Nat) : Tariff :=
  if h : 32 * m.band.code + 8 * speedClass + acctClass < 64 then m.tariffs[32 * m.band.code + 8 * speedClass + acctClass]
  else { rate := 0, surcharge := 0 }

/-- Credits that did not fit a total join the meter overflow count (R103). -/
def addOverflow (n : Nat) (s : State) : State :=
  { s with meter := { s.meter with overflow := holdAt 65535 (s.meter.overflow + n) } }

/-- METER_SATURATED is logged for the session in slot `k`, once (R103). -/
def noteSaturation (k : Fin 12) (s : State) : State :=
  match s.table.slots[k].session with
  | none => s
  | some x =>
    if x.saturated then s
    else
      logFault .meterSaturated { Subject.blank with handle := some (s.handleAt k), account := some x.account }
        (s.modSession k (fun y => { y with saturated := true }))

/-- One second's charge to the session in slot `k`, if it is metered (R102, R103). -/
def chargeSecond (k : Fin 12) (s : State) : State :=
  match s.table.slots[k].session with
  | none => s
  | some x =>
    if x.state.metered then
      let sum := x.remainder + (s.meter.tariff x.speedClass (x.acctClass.getD 0)).rate
      if x.total + sum / 1000 ≤ Config.maxCredits then
        s.modSession k (fun y => { y with total := x.total + sum / 1000, remainder := sum % 1000 })
      else
        noteSaturation k (addOverflow (x.total + sum / 1000 - Config.maxCredits)
          (s.modSession k (fun y => { y with total := Config.maxCredits, remainder := 0 })))
    else s

/-- The account of the session in slot `k` closed: its remainder rounded half up into the total (R105). -/
def roundSession (k : Fin 12) (s : State) : State :=
  match s.table.slots[k].session with
  | none => s
  | some x =>
    if x.remainder < 500 then s.modSession k (fun y => { y with remainder := 0 })
    else if x.total < Config.maxCredits then s.modSession k (fun y => { y with total := x.total + 1, remainder := 0 })
    else noteSaturation k (addOverflow 1 (s.modSession k (fun y => { y with remainder := 0 })))

/-! ### Ending and detaching (R79, R86) -/

/-- The record of a session that enters ENDING, its final CHARGE still to be offered (R86, steps 1, 3 and 5). -/
def Session.ended (cause : EndCause) (x : Session) : Session :=
  { x with state := .ending, line := none, abandoned := false, grace := none, postCounter := 0, endCause := some cause,
           finalStatus := some .waiting }

/-- The session in slot `k` enters ENDING with a cause (R86). The text and the HANG UP of the causing rule come before. -/
def endSession (k : Fin 12) (cause : EndCause) (s : State) : State :=
  let live := s.table.slots[k].live
  let s := { s with table := { s.table with detachOrder := s.table.detachOrder.filter (fun j => decide (j ≠ k)) } }
  let s := (roundSession k s).modSession k (Session.ended cause)
  let s := offerFinal k s
  if live then offerTally s else s

/-- The ACTIVE session in slot `k` becomes DETACHED with `grace` seconds, and a DETACH is offered to its home (R79). -/
def detachSession (k : Fin 12) (x : Session) (grace : Nat) (s : State) : State :=
  let s := s.modSession k (fun y => { y with state := .detached, line := none, grace := some grace })
  let s := { s with table := { s.table with detachOrder := s.table.detachOrder ++ [k] } }
  offerRefusable (x.home.getD 0) (.detach { handle := s.handleAt k, account := x.account }) s

/-- The sessions of the table post a count, offering a CHARGE at the sixtieth (R106). -/
def postSecond (k : Fin 12) (s : State) : State :=
  match s.table.slots[k].session with
  | none => s
  | some x =>
    if x.state.live then
      if x.postCounter < 59 then s.modSession k (fun y => { y with postCounter := x.postCounter + 1 })
      else offerCharge k (s.modSession k (fun y => { y with postCounter := 0 }))
    else s

/-- The band timer counts down by one and flips at 0 (R96). -/
def Meter.countDown (m : Meter) : Meter :=
  if !m.running then m
  else if 1 < m.remaining then { m with remaining := m.remaining - 1 }
  else
    match m.band with
    | .peak => { m with band := .offPeak, remaining := m.offPeakLength.getD 1 }
    | .offPeak => { m with band := .peak, remaining := m.peakLength.getD 1 }

end Sys2Proof.Machine
end

