-- ==== Sys2Proof/Machine/BusEvents.lean ====
section
/-! DEFINITION. The events of the rack bus interface: a train received (R163 to R165), idle and deferral (R166), the start,
the end and the stopping of a transmission (R166 to R171). -/

namespace Sys2Proof.Machine

/-! ### Handing frames to the blocks (R164, R165) -/

/-- The frame is a command of the host adapter or DATA (R165). -/
def isCommand (f : Handed) : Bool := f.toDecoder

/-- A command that may be sent to all stations (R165). -/
def broadcastable (f : Handed) : Bool :=
  match f with
  | .command .configure _ => true
  | .command .time _ => true
  | .command .tariffLoad _ => true
  | _ => false

def hand (f : Handed) (s : State) : State := { s with bus := { s.bus with handed := s.bus.handed ++ [f] } }

/-- A frame that clears the checks is handed to the blocks that take it (R165). -/
def handOver (destination source : Nat) (f : Handed) (s : State) : State :=
  match s.station.state with
  | .strapFault => s
  | .starting =>
    match f with
    | .command .statusRead _ => if destination = s.own ∧ source = 0 then hand f s else s
    | _ => s
  | _ =>
    if isCommand f then
      if destination ≠ s.own ∧ destination ≠ 255 then s
      else if source ≠ 0 ∨ (destination = 255 ∧ broadcastable f = false) then
        logFault .commandRejected { Subject.blank with address := some source } s
      else hand f s
    else if s.someBlockTakes f then hand f s
    else s

/-- A frame that has passed the check: last sender, the check of its contents, the handing over (R164, R165). -/
def takePassed (destination source kind : Nat) (body : List Byte) (s : State) : State :=
  let s := if source ≤ 15 then { s with bus := { s.bus with lastSender := source } } else s
  let bad := logFault .busCheck { Subject.blank with address := some source } s
  if 15 < source then bad
  else if 15 < destination ∧ destination ≠ 255 then bad
  else
    match readContents source kind body with
    | .bad => bad
    | .notTaken => s
    | .frame f => handOver destination source f s

/-- The findings on a train (R164). -/
inductive Finding where
  | broken | incomplete | lengthAbove | tooLong | checkDisagrees | passed
  deriving DecidableEq, Repr

/-- The first finding in the list of R164. -/
def findingOf (bytes : List Byte) (broken : Bool) : Finding :=
  let n := fieldOf bytes 3 1
  if broken then .broken
  else if bytes.length < 4 ∨ (n ≤ 40 ∧ bytes.length < 6 + n) then .incomplete
  else if 40 < n then .lengthAbove
  else if 6 + n < bytes.length then .tooLong
  else if (frameCheck (bytes.take (4 + n))).toNat ≠ fieldOf bytes (4 + n) 2 then .checkDisagrees
  else .passed

/-- The end of a train (R164). -/
def takeTrain (bytes : List Byte) (broken : Bool) (s : State) : State :=
  match findingOf bytes broken with
  | .incomplete => s
  | .passed => takePassed (fieldOf bytes 0 1) (fieldOf bytes 1 1) (fieldOf bytes 2 1) ((bytes.drop 4).take (fieldOf bytes 3 1)) s
  | _ => logFault .busCheck Subject.blank s

/-- The bus is no longer idle: a train is on it, or has just ended (R166). -/
def busTaken (s : State) : State := { s with bus := { s.bus with idle := false, deferral := none } }

/-- A train ends at the receiver: none is read while it waits for idle, and a broken one leaves it waiting (R163, R164, R175). -/
def receiveTrain (bytes : List Byte) (broken : Bool) (s : State) : State :=
  if s.bus.awaitsIdle then s else takeTrain bytes broken { s with bus := { s.bus with awaitsIdle := broken } }

/-- FRAME_RECEIVED (R163 to R165). The receiver does not run in STRAP_FAULT (R163, R188). -/
def execFrameReceived (bytes : List Byte) (broken : Bool) (s : State) : Answer :=
  awake (fun s => if s.station.state = .strapFault then s else receiveTrain bytes broken (busTaken s)) s

/-! ### Turns (R166) -/

/-- The deferral count (R166). -/
def deferralOf (own lastSender : Nat) : Nat := (own + 31 - lastSender) % 16

/-- BUS_IDLE (R163, R166). -/
def execBusIdle (s : State) : Answer :=
  awake (fun s =>
    if s.station.state = .strapFault then s
    else { s with bus := { s.bus with idle := true, awaitsIdle := false,
                                      deferral := some (deferralOf s.own s.bus.lastSender) } }) s

/-- TRAIN_START (R166): the series is given up until the next idle. -/
def execTrainStart (s : State) : Answer := awake busTaken s

/-- The home has taken every frame it was given whole; the drain of its backlog takes no frame (R55, R122, R167). -/
def State.homeFree (s : State) : Bool :=
  match s.home.work with
  | none => true
  | some (.charge _ _ _ _ fromBacklog) => fromBacklog
  | some (.claim _) => false

/-- Every frame handed to the blocks has been taken whole (R167). -/
def State.allTaken (s : State) : Bool := s.bus.handed.isEmpty && s.homeFree && s.store.hostWork.isNone

/-- The head of the queue: the WAITING entry of the lowest class, and of its class the first to have joined (R169). -/
def headOf (q : List Entry) : Option Entry :=
  [1, 2, 3, 4].findSome? (fun c => q.find? (fun e => !e.inFlight && decide (e.payload.class = c)))

/-- The first entry equal to `e` becomes `x`. -/
def replaceEntry (e x : Entry) : List Entry → List Entry
  | [] => []
  | y :: rest => if y = e then x :: rest else y :: replaceEntry e x rest

/-- The filling of a DATA entry from its line (R25). -/
def Line.fill (l : Line) : DataFill :=
  match l.pendingBreak with
  | some p => { chars := (l.rxRing.take p).map RxChar.code, breakFlag := true, ringCleared := false }
  | none => { chars := l.rxRing.map RxChar.code, breakFlag := false, ringCleared := false }

/-- An entry as its transmission starts: DATA and TALLY are filled (R25, R89, R169). -/
def Entry.start (s : State) (e : Entry) : Entry :=
  match e.payload with
  | .data l h _ => { e with inFlight := true, payload := .data l h (some s.lines[l].fill) }
  | .tally t => { e with inFlight := true, payload := .tally { t with count := s.tally } }
  | _ => { e with inFlight := true }

/-- What the start of an entry changes beside the queue: a final CHARGE's status (R87), the tally-owed mark (R88). -/
def noteStart (e : Entry) (s : State) : State :=
  match e.payload with
  | .charge _ (some k) => s.modSession k (fun x => { x with finalStatus := some .inFlight })
  | .tally _ => { s with table := { s.table with tallyOwed := false } }
  | _ => s

/-- The station may begin a transmission at deferral slot number `slot` (R166, R167). -/
def State.mayStart (s : State) (slot : Nat) : Bool :=
  s.bus.idle && decide (s.bus.deferral = some (slot % 16)) && s.allTaken && decide (s.station.state ≠ .strapFault) &&
    !s.bus.queue.any (fun e => e.inFlight)

/-- TRANSMISSION_START (R166, R169). -/
def execTransmissionStart (slot : Nat) (s : State) : Answer :=
  awake (fun s =>
    if s.mayStart slot then
      match headOf s.bus.queue with
      | none => s
      | some e => noteStart e (busTaken (s.setQueue (replaceEntry e (e.start s) s.bus.queue)))
    else s) s

/-! ### Ends of a transmission (R167, R168, R171) -/

/-- The entry in flight. -/
def State.flying (s : State) : Option Entry := s.bus.queue.find? (fun e => e.inFlight)

/-- The entry in flight leaves the queue. -/
def State.landed (s : State) : State := s.setQueue (s.bus.queue.eraseP (fun e => e.inFlight))

/-- A CLAIM of slot `k` has been sent: its claim timer starts (R45). -/
def startClaimTimer (h : Handle) (s : State) : State :=
  match s.matched h with
  | some (k, x) => if x.state = .claiming then s.modSlot k (fun y => { y with claimTimer := some 2 }) else s
  | none => s

/-- The characters that a sent frame carried leave the ring, and its break with them (R25). -/
def Line.sent (f : DataFill) (l : Line) : Line :=
  { l with rxRing := l.rxRing.drop f.chars.length,
           pendingBreak := if f.breakFlag then none else l.pendingBreak.map (fun p => p - f.chars.length) }

/-- The owner is told that its entry was sent (R171). -/
def tellSent (p : Payload) (s : State) : State :=
  match p with
  | .claim c => startClaimTimer c.handle s
  | .charge _ (some k) => releaseSlot k s
  | .data l _ (some f) => if f.ringCleared then s else s.modLine l (Line.sent f)
  | _ => s

/-- FRAME_SENT (R167, R171): the entry leaves, its owner is told, the freed place is offered, and the frame that the receiver
has read is handed to the blocks. Where a sent final CHARGE frees a slot for which a context waits, the owner's telling comes
first, so that context's CLAIM takes the freed place before the blocks of R171's list (R43, R87, log entry 11). The own frame's check
and hand-over, with the fault of a destination that no station has, come last (log entry 11). -/
def execFrameSent (s : State) : Answer :=
  awake (fun s =>
    match s.flying with
    | none => s
    | some e =>
      takePassed e.destination s.own e.payload.kindCode e.payload.body (offerFreed (tellSent e.payload s.landed))) s

/-- The owner is told that its entry was dropped (R171, R45, R87). -/
def tellDropped (p : Payload) (s : State) : State :=
  match p with
  | .claim c =>
    match s.matched c.handle with
    | some (k, x) => if x.state = .claiming then homeSilent k s else s
    | none => s
  | .charge _ (some k) => releaseSlot k s
  | _ => s

/-- The payload of a stopped entry: a GRANT REATTACH whose MOVING entry, the one of the old handle that it names with its own handle
as successor, is gone leaves as NEW at its next start (R69, log entry 47); a
DATA entry is filled afresh (R25). -/
def Payload.stopped (h : Home) : Payload → Payload
  | .grant g =>
    match g.oldHandle with
    | none => .grant g
    | some old =>
      if h.list.any (fun e => decide (e.handle = old) && decide (e.state = .moving) &&
          decide (e.successor = some g.handle)) then .grant g
      else .grant { g with oldHandle := none }
  | .data l x _ => .data l x none
  | p => p

/-- The final CHARGE of the session that the handle matches is offered again, if it waits (R87, R168). -/
def offerFinalFor (h : Handle) (s : State) : State :=
  match s.matched h with
  | some (k, _) => offerFinal k s
  | none => s

/-- What an entry stopped by a mismatch asks of its owner (R87, R26). -/
def tellStopped (p : Payload) (s : State) : State :=
  match p with
  | .charge _ (some k) => s.modSession k (fun x => { x with finalStatus := some .queued })
  | .charge c none => offerFinalFor c.handle s
  | .data l _ (some f) => if f.ringCleared then offerFreed (s.removeFirst (Entry.dataOn l)) else s
  | _ => s

/-- The entry as the mismatch leaves it: WAITING in its place, with one mismatch more (R168). -/
def Entry.stop (h : Home) (e : Entry) : Entry :=
  { e with inFlight := false, mismatches := e.mismatches + 1, payload := e.payload.stopped h }

/-- READ_BACK_MISMATCH (R168, R171). -/
def execReadBackMismatch (s : State) : Answer :=
  awake (fun s =>
    match s.flying with
    | none => s
    | some e =>
      if e.mismatches + 1 < 8 then
        tellStopped e.payload (s.setQueue (replaceEntry e (e.stop s.home) s.bus.queue))
      else
        offerFreed (tellDropped e.payload
          (logFault .busJam { Subject.blank with address := some e.destination } s.landed))) s

end Sys2Proof.Machine
end

