-- ==== Sys2Proof/Machine/Characters.lean ====
section
/-! DEFINITION. The events of a locked line: characters, breaks, the dialogue of sign-on, the transmitter
(01 section 1.8, 02_character_paths.md, 03 sections 3.2 to 3.6). -/

namespace Sys2Proof.Machine

/-! ### The dialogue (R36 to R43) -/

/-- A change to the dialogue context of a line. -/
def modDialogue (l : Fin 8) (f : Dialogue → Dialogue) (s : State) : State :=
  s.modLine l (fun x => { x with dialogue := x.dialogue.map f })

/-- ?SYSTEM FULL and HANG UP (R42, R43). -/
def systemFull (l : Fin 8) (s : State) : State := hangUp l (placeFixed l .systemFull s)

/-- The lowest-numbered free slot (R43). -/
def State.freeSlotNumber (s : State) : Option (Fin 12) := allSlots.find? (fun k => s.table.slots[k].session.isNone)

/-- Slot reservation (R43). -/
def reserveFor (l : Fin 8) (d : Dialogue) (s : State) : State :=
  match s.freeSlotNumber with
  | some k => reserveSlot k l d s
  | none =>
    match s.table.detachOrder with
    | k :: _ =>
      endSession k .detachEvicted (modDialogue l (fun x => { x with step := .slotWait, awaitedSlot := some k }) s)
    | [] => systemFull l s

/-- The census check, then slot reservation (R42, R43). -/
def claimFor (l : Fin 8) (d : Dialogue) (s : State) : State :=
  if s.sessionCap ≤ s.census then systemFull l s else reserveFor l d s

/-- Backspace or delete (R37, R39). -/
def isErase (c : Nat) : Bool := decide (c = 8) || decide (c = 127)

/-- A digit (R37). -/
def isDigit (c : Nat) : Bool := decide (48 ≤ c) && decide (c ≤ 57)

/-- A character in the USER phase (R37, R38), with its echo (R33). -/
def userChar (l : Fin 8) (d : Dialogue) (c : Nat) (s : State) : State :=
  if c = 13 then
    let s := placeText l [13, 10] s
    if d.entry.isEmpty then placeText l s.userPrompt s
    else
      placeText l s.passwordPrompt
        (modDialogue l (fun x => { x with userNumber := some (decimalOf d.entry), entry := [], digest := 0,
                                          phase := .password }) s)
  else if isDigit c then
    if d.entry.length < 6 then placeText l [c] (modDialogue l (fun x => { x with entry := d.entry ++ [c] }) s) else s
  else if isErase c then
    if d.entry.isEmpty then s
    else placeText l [8, 32, 8] (modDialogue l (fun x => { x with entry := d.entry.dropLast }) s)
  else s

/-- A character in the PASSWORD phase (R39, R40), with its echo (R33). -/
def passwordChar (l : Fin 8) (d : Dialogue) (c : Nat) (s : State) : State :=
  if c = 13 then
    let s := placeText l [13, 10] s
    if d.entry.isEmpty then placeText l s.passwordPrompt s
    else claimFor l d (modDialogue l (fun x => { x with entry := [] }) s)
  else if printable c then
    if d.entry.length < 12 then
      modDialogue l (fun x => { x with entry := d.entry ++ [c], digest := digestStep d.digest c }) s
    else s
  else if isErase c then
    if d.entry.isEmpty then s
    else modDialogue l (fun x => { x with entry := d.entry.dropLast, digest := digestOf d.entry.dropLast }) s
  else s

/-- A character passed to the dialogue controller (R15). In SLOT_WAIT it is discarded without echo (R43). -/
def dialogueChar (l : Fin 8) (c : Nat) (s : State) : State :=
  match s.lines[l].dialogue with
  | none => s
  | some d =>
    match d.step, d.phase with
    | .entry, .user => userChar l d c s
    | .entry, .password => passwordChar l d c s
    | _, _ => s

/-! ### Characters and breaks (R13 to R15, R22 to R24) -/

/-- A receive-overrun count raised, holding at 255 (R22, R23). -/
def Line.overrun (l : Line) : Line := { l with receiveOverruns := holdAt 255 (l.receiveOverruns + 1) }

/-- A character offered to the receive ring (R22). -/
def Line.receive (c : Nat) (l : Line) : Line :=
  if l.rxRing.length < Config.rxPlaces then { l with rxRing := l.rxRing ++ [{ code := c, aged := false }] } else l.overrun

/-- A break taken by the receive path (R23). -/
def Line.takeBreak (l : Line) : Line :=
  match l.pendingBreak with
  | none => { l with pendingBreak := some l.rxRing.length }
  | some _ => l.overrun

/-- A character handled by the line's state (R15). -/
def characterOn (l : Fin 8) (c : Nat) (s : State) : State :=
  match s.lines[l].state with
  | .signOn => dialogueChar l c s
  | .online => offerData l (s.modLine l (Line.receive c))
  | _ => s

/-- CHARACTER (R13, R15). -/
def execCharacter (l : Fin 8) (c : Nat) (s : State) : Answer :=
  awake (fun s =>
    if s.lines[l].state.locked then characterOn l c (s.modLine l (fun x => { x with receiver := .framing })) else s) s

/-- FRAMING_ERROR (R13). -/
def execFramingError (l : Fin 8) (s : State) : Answer :=
  awake (fun s =>
    if s.lines[l].state.locked then
      s.modLine l (fun x => { x with receiver := .framing, framingErrors := holdAt 255 (x.framingErrors + 1) })
    else s) s

/-- BREAK (R14, R15, R23, R24). -/
def execLineBreak (l : Fin 8) (s : State) : Answer :=
  awake (fun s =>
    if s.lines[l].state.locked then
      if s.lines[l].state = .online then offerData l (s.modLine l (fun x => { x.takeBreak with receiver := .inBreak }))
      else s.modLine l (fun x => { x with receiver := .inBreak })
    else s) s

/-- The oldest character that is not yet marked is 50 ms old (R24, log entry 5). -/
def ageOldest : List RxChar → List RxChar
  | [] => []
  | c :: rest => if c.aged then c :: ageOldest rest else { c with aged := true } :: rest

/-- DATA_TRIGGER_AGE (R24). -/
def execDataTriggerAge (l : Fin 8) (s : State) : Answer :=
  awake (fun s =>
    if s.lines[l].state = .online then offerData l (s.modLine l (fun x => { x with rxRing := ageOldest x.rxRing }))
    else s) s

/-! ### Timer and transmitter (R16, R30, R41) -/

/-- SIGN_ON_TIMER_EXPIRY (R41): in ENTRY or SLOT_WAIT. Closing the context gives up an awaited slot (R43). -/
def execSignOnTimerExpiry (l : Fin 8) (s : State) : Answer :=
  awake (fun s =>
    match s.lines[l].dialogue with
    | none => s
    | some d =>
      if s.lines[l].state = .signOn ∧ d.step ≠ .claimed ∧ due d.timer then hangUp l (placeFixed l .timeOut s) else s) s

/-- The transmitter begins its next character: the head of the transmit ring leaves it as its start bit begins (R30). With an
empty ring the last character has been sent and the lead is held marking (R16); a line in DRAINING, whose ring has then been
sent out, passes to HOLDING (R18, R30). The table has no event of its own for the end of the last character: it is the
TRANSMIT_CHARACTER that finds the ring empty (log entry 13). -/
def Line.sendNext (l : Line) : Line :=
  match l.txStation with
  | c :: rest => { l with txStation := rest, sending := some c }
  | [] =>
    match l.txHost with
    | c :: rest => { l with txHost := rest, sending := some c }
    | [] => if l.state = .hangup .draining then l.hold else { l with sending := none }

/-- What the transmitted data lead carries: the bits of the character being sent, at the locked speed class; none while it is
held marking (R16). -/
def Line.leadBits (l : Line) : List Bool :=
  match l.sending with
  | some c => characterBits l.speedClass c
  | none => []

/-- TRANSMIT_CHARACTER (R16, R18, R30). -/
def execTransmitCharacter (l : Fin 8) (s : State) : Answer :=
  awake (fun s => if s.lines[l].state.sends then s.modLine l Line.sendNext else s) s

end Sys2Proof.Machine
end

