-- ==== Sys2Proof/Machine/Accesses.lean ====
section
/-! DEFINITION. What each store access does at its end: the evaluation of a CLAIM (R58 to R63), the application of a CHARGE
(R117, R120), the host commands (R124 to R128, R146, R147), a scrub step (R145), a migration step (R155, R156). -/

namespace Sys2Proof.Machine

/-! ### Evaluation of a CLAIM (R58 to R64) -/

/-- The earliest DETACHED entry of the account in the detach order (R62). -/
def Home.earliestDetached (h : Home) (account : Nat) : Option HomeEntry :=
  h.detachOrder.findSome? (fun x =>
    match h.find x with
    | some e => if e.account = account then some e else none
    | none => none)

/-- The reply that steps 3 to 11 decide (section 4.3). -/
inductive Verdict where
  | deny (r : DenyReason)
  | reattach (old : HomeEntry)
  | new
  deriving DecidableEq, Repr

/-- Steps 4 to 11 on a record that reads cleanly or corrected (R59 to R63). -/
def Home.verdict (h : Home) (c : ClaimBody) (r : Record) : Verdict :=
  if !r.valid then .deny .noAccount
  else if r.locked then .deny .locked
  else if c.digest ≠ r.digest then .deny .badDigest
  else if r.balance + r.allowance ≤ 0 then .deny .credit
  else if Config.homeListPlaces ≤ h.list.length then .deny .homeFull
  else
    match h.earliestDetached c.account with
    | some e => .reattach e
    | none => if r.limit ≤ h.nonMoving c.account then .deny .limit else .new

/-- The record after a wrong digest (R60). -/
def Record.failed (r : Record) : Record :=
  let count := holdAt 7 (r.failures + 1)
  { r with failures := count, locked := r.locked || decide (5 ≤ count) }

/-- The failure count reset by a grant; a record whose count is 0 is not written (R62, R63). -/
def resetFailures (index : Nat) (r : Record) (s : State) : State :=
  if r.failures = 0 then s else writeRecord index { r with failures := 0 } s

/-- The list as a reattachment leaves it (R62, steps 1 and 2). -/
def Home.reattached (h : Home) (c : ClaimBody) (old : HomeEntry) : Home :=
  let moved := h.modEntry old.handle (fun e => { e.heard with state := .moving, successor := some c.handle })
  { moved with list := moved.list ++ [HomeEntry.fresh c],
               detachOrder := moved.detachOrder.filter (fun y => decide (y ≠ old.handle)) }

/-- The verdict carried out on the record, the list and the queue (R60, R62 to R64). -/
def carryOut (c : ClaimBody) (r : Record) (v : Verdict) (s : State) : State :=
  match v with
  | .deny .badDigest => denyClaim c .badDigest (writeRecord (s.home.index c.account) r.failed s)
  | .deny reason => denyClaim c reason s
  | .reattach old =>
    offerClassOne c.handle.station
      (.grant { handle := c.handle, account := c.account, acctClass := r.acctClass, oldHandle := some old.handle })
      ((resetFailures (s.home.index c.account) r s).setHome (s.home.reattached c old))
  | .new =>
    offerClassOne c.handle.station
      (.grant { handle := c.handle, account := c.account, acctClass := r.acctClass, oldHandle := none })
      ((resetFailures (s.home.index c.account) r s).setHome { s.home with list := s.home.list ++ [HomeEntry.fresh c] })

/-- The home's access for a CLAIM (R58, R59). An account listed while the CLAIM waited is granted nothing (R63, last sentence). -/
def claimAccess (c : ClaimBody) (s : State) : State :=
  let index := s.home.index c.account
  let rd := s.store.readRecord index c.account
  let s := correctRecord index s
  finishClaim
    (match rd.outcome with
     | .uncorrectable w => denyClaim c .recordFault (listAccount .storeUncorrectable c.account w s)
     | .tagMismatch w => denyClaim c .recordFault (listAccount .tagMismatch c.account w s)
     | _ =>
       if s.home.quarantined c.account then denyClaim c .recordFault s
       else carryOut c rd.record (s.home.verdict c rd.record) s)

/-! ### Application of a CHARGE (R116 to R120) -/

/-- The CUTOFF for one entry, and its flag when the CUTOFF is queued (R120). -/
def cutOne (account : Nat) (balance : Int) (s : State) (e : HomeEntry) : State :=
  if e.account = account ∧ e.state ≠ .moving ∧ e.cutoffSent = false then
    let s1 := if s.classOneFits then s.setHome (s.home.modEntry e.handle (fun x => { x with cutoffSent := true })) else s
    offerClassOne e.handle.station (.cutoff { handle := e.handle, account := account, balance := balance }) s1
  else s

/-- The cut-off check with the balance just written (R120). -/
def cutoffCheck (account : Nat) (balance : Int) (allowance : Nat) (s : State) : State :=
  if balance + allowance ≤ 0 then s.home.list.foldl (cutOne account balance) s else s

/-- The record after a debit (R117). -/
def Record.debit (r : Record) (credits : Nat) : Record :=
  { r with balance := debited r.balance credits, termCredits := holdAt Config.maxCredits (r.termCredits + credits) }

/-- Δ credits of a faulted record: to the held charges, or to the unbilled counter when the list was full (R117, R160). -/
def placeFaulted (kind : FaultKind) (account word : Nat) (handle : Handle) (credits : Nat) (s : State) : State :=
  match s.home.listingAnswer account with
  | .full => addUnbilled account (some handle) credits (listAccount kind account word s)
  | _ => addHeld account (some handle) credits (listAccount kind account word s)

/-- A CHARGE with Δ above 0 applied in its access to the record (R117, R118). -/
def applyToRecord (e : HomeEntry) (total : Nat) (final : Bool) (s : State) : State :=
  let credits := total - e.applied
  let index := s.home.index e.account
  let rd := s.store.readRecord index e.account
  let s := correctRecord index s
  match rd.outcome with
  | .uncorrectable w =>
    settleEntry e.handle total final (placeFaulted .storeUncorrectable e.account w e.handle credits s)
  | .tagMismatch w => settleEntry e.handle total final (placeFaulted .tagMismatch e.account w e.handle credits s)
  | _ =>
    if s.home.quarantined e.account then
      settleEntry e.handle total final (addHeld e.account (some e.handle) credits s)
    else if !rd.record.valid then
      settleEntry e.handle total final (addUnbilled e.account (some e.handle) credits s)
    else
      let r := rd.record.debit credits
      let s := addUnbilled e.account (some e.handle) (debitExcess rd.record.balance credits) (writeRecord index r s)
      let s := settleEntry e.handle total final s
      if final || decide (e.state = .moving) then s else cutoffCheck e.account r.balance r.allowance s

/-- The home's access for a CHARGE: the list is searched as it stands at the access (R114, R122). -/
def chargeAccess (handle : Handle) (account total : Nat) (final fromBacklog : Bool) (s : State) : State :=
  let s := s.setHome { s.home with
    work := none,
    backlog := if fromBacklog then s.home.backlog.filter (fun b => decide (b.handle ≠ handle)) else s.home.backlog }
  match s.home.find handle with
  | none => answerUnknown handle account total s
  | some e => if e.applied < total then applyToRecord e total final s else applyAside e total final s

/-! ### Host commands (R124 to R128, R146, R147) -/

/-- The record that ACCOUNT LOAD writes, with the balance given (R124). -/
def AccountLoad.record (l : AccountLoad) (balance : Int) : Record :=
  { balance := balance, acctClass := l.acctClass, limit := l.limit, valid := l.valid, locked := l.locked,
    digest := l.digest, failures := 0, allowance := l.allowance, tag := l.account % 65536, termCredits := l.termCredits }

/-- ACCOUNT LOAD (R124, R125): the record written whole, the held charges debited from the loaded balance, the account off
the quarantine list; UNBILLED, where the load brings it, comes before the RESULT (log entry 49). -/
def loadAccess (l : AccountLoad) (s : State) : State :=
  let held := s.home.heldOf l.account
  let excess := debitExcess l.balance held
  let s := writeRecord (s.home.index l.account) (l.record (debited l.balance held)) s
  let s := s.setHome { s.home with quarantine := s.home.quarantine.filter (fun q => decide (q.account ≠ l.account)) }
  let s := clearMark l.account (addUnbilled l.account none excess s)
  offerResult .accountLoad .done (bytesOf 3 held ++ bytesOf 3 excess) s

/-- The read outcome codes of ACCOUNT DATA (Enumerations). -/
def RecordOutcome.code : RecordOutcome → Nat
  | .clean => 0 | .corrected => 1 | .uncorrectable _ => 2 | .tagMismatch _ => 2

/-- The body of ACCOUNT DATA (R126). -/
def accountDataBody (account : Nat) (rd : RecordRead) (entries : Nat) : List Byte :=
  bytesOf 3 account ++ bytesOf 1 rd.outcome.code ++ flagByte rd.record.valid ++ balanceBytes rd.record.balance ++
    bytesOf 2 rd.record.allowance ++ bytesOf 1 rd.record.acctClass ++ bytesOf 1 rd.record.limit ++
    flagByte rd.record.locked ++ bytesOf 1 rd.record.failures ++ bytesOf 3 rd.record.termCredits ++ bytesOf 1 entries

/-- A faulted read of an account command lists the account (R123), before the command's reply (R159, log entry 49). -/
def listFaulted (account : Nat) (o : RecordOutcome) (s : State) : State :=
  match o with
  | .uncorrectable w => listAccount .storeUncorrectable account w s
  | .tagMismatch w => listAccount .tagMismatch account w s
  | _ => s

/-- ACCOUNT READ (R126). -/
def readAccess (account : Nat) (s : State) : State :=
  let index := s.home.index account
  let rd := s.store.readRecord index account
  let s := listFaulted account rd.outcome (correctRecord index s)
  offerReply .accountData (accountDataBody account rd (s.home.nonMoving account)) s

/-- DEPOSIT (R127). -/
def depositAccess (account amount : Nat) (s : State) : State :=
  let index := s.home.index account
  let rd := s.store.readRecord index account
  let s := listFaulted account rd.outcome (correctRecord index s)
  if rd.outcome.code = 2 then offerResult .deposit .recordFault [] s
  else if !rd.record.valid then offerResult .deposit .notFound [] s
  else
    let balance := min Config.maxBalance (rd.record.balance + amount)
    let added := (balance - rd.record.balance).toNat
    offerResult .deposit .done (balanceBytes balance ++ bytesOf 3 added)
      (clearMark account (writeRecord index { rd.record with balance := balance } s))

/-- UNLOCK (R128). -/
def unlockAccess (account : Nat) (s : State) : State :=
  let index := s.home.index account
  let rd := s.store.readRecord index account
  let s := listFaulted account rd.outcome (correctRecord index s)
  if rd.outcome.code = 2 then offerResult .unlock .recordFault [] s
  else if !rd.record.valid then offerResult .unlock .notFound [] s
  else offerResult .unlock .done [] (writeRecord index { rd.record with locked := false, failures := 0 } s)

/-- The outcome codes of PROBE DATA (Formats). -/
def WordOutcome.code : WordOutcome → Nat
  | .clean => 0 | .corrected => 1 | .uncorrectable => 2

/-- The body of PROBE DATA (R146, Formats). -/
def probeBody (t : Store) (w : Nat) : List Byte :=
  let r := t.decode w
  bytesOf 2 w ++ bytesOf 5 (t.words.read w).toNat ++ bytesOf 1 (spareCode (t.mapping w)) ++
    bytesOf 1 (syndromeOf r.code + (if oddParity r.code then 64 else 0)) ++ bytesOf 1 r.outcome.code

/-- STORE PROBE (R146). -/
def probeAccess (w : Nat) (s : State) : State := offerReply .probeData (probeBody s.store w) s

/-- STORE FLIP (R147). -/
def flipAccess (w : Nat) (mask : StoredWord) (s : State) : State :=
  offerResult .storeFlip .done (bytesOf 2 w)
    (s.setWords (s.store.words.write w (s.store.words.read w ^^^ mask)))

/-- The host-command path's access (R138). -/
def hostAccess (w : HostWork) (s : State) : State :=
  match w with
  | .accountLoad l => loadAccess l s
  | .accountRead a => readAccess a s
  | .deposit a n => depositAccess a n s
  | .unlock a => unlockAccess a s
  | .probe n => probeAccess n s
  | .flip n mask => flipAccess n mask s

/-! ### Scrub and migration steps (R145, R155, R156) -/

/-- A scrub step (R144 step 3, R145). -/
def scrubAccess (s : State) : State :=
  let w := s.store.scrubPointer
  let r := s.store.decode w
  let s := correctOnRead w r s
  let s := if r.outcome = .uncorrectable then reportUncorrectable w s else s
  s.setStore { s.store with scrubPointer := (w + 1) % Config.storeWords, scrubTimerRunning := true }

/-- The word a migration step works on. -/
def Migration.word (m : Migration) : Nat := 256 * m.segment.val + m.pointer

/-- The 40 bits that a migration step writes under the pending entry (R155, step 2). -/
def Migration.written (m : Migration) (r : WordRead) : StoredWord :=
  match r.outcome with
  | .uncorrectable => withSpare m.pendingEntry r.code
  | _ => freshCode m.pendingEntry r.data

/-- A migration completes (R156). Its RESULT comes after the listing or the fault of the step's own word (R159, log entry 49). -/
def completeMigration (m : Migration) (s : State) : State :=
  offerResult .spareSet .done (bytesOf 1 m.segment.val ++ bytesOf 1 (spareCode m.pendingEntry))
    (s.setStore { s.store with
      spareMap := s.store.spareMap.set m.segment m.pendingEntry,
      corrected := s.store.corrected.set m.segment 0,
      advised := s.store.advised.set m.segment false,
      migration := none })

/-- A migration step (R155). At the last step the listing of an uncorrectable word, or its fault, with the notice, comes before the
RESULT DONE (R156, R159, log entry 49). -/
def migrationAccess (m : Migration) (s : State) : State :=
  let w := m.word
  let r := readStored (perSegment s.store.spareMap none m.segment.val) (s.store.words.read w)
  let s := if r.outcome = .corrected then countCorrected w s else s
  let s := if r.outcome = .uncorrectable then reportUncorrectable w s else s
  let s := s.setWords (s.store.words.write w (m.written r))
  if m.pointer + 1 < 256 then
    s.setStore { s.store with migration := some { m with pointer := m.pointer + 1, timerRunning := true } }
  else completeMigration m s

/-! ### The access in progress -/

/-- The words that the access in progress touches, in its order (R138). -/
def State.accessWords (s : State) : List Nat :=
  match s.store.access with
  | none => []
  | some .home =>
    match s.home.work with
    | none => []
    | some (.claim c) => recordWords (s.home.index c.account)
    | some (.charge h a _ _ _) =>
      match s.home.find h with
      | some e => recordWords (s.home.index e.account)
      | none => recordWords (s.home.index a)
  | some .host =>
    match s.store.hostWork with
    | none => []
    | some (.accountLoad l) => recordWords (s.home.index l.account)
    | some (.accountRead a) => recordWords (s.home.index a)
    | some (.deposit a _) => recordWords (s.home.index a)
    | some (.unlock a) => recordWords (s.home.index a)
    | some (.probe w) => [w]
    | some (.flip w _) => [w]
  | some .migration =>
    match s.store.migration with
    | none => []
    | some m => [m.word]
  | some .scrub => [s.store.scrubPointer]

/-- The first word of the access in progress that the store does not have (R131). -/
def State.badWord (s : State) : Option Nat := s.accessWords.find? (fun w => decide (Config.storeWords ≤ w))

/-- The effect of the access in progress at its end, before the arbiter goes on. -/
def accessEffect (s : State) : State :=
  match s.store.access with
  | none => s
  | some .home =>
    match s.home.work with
    | none => s
    | some (.claim c) => claimAccess c s
    | some (.charge h a t f b) => chargeAccess h a t f b s
  | some .host =>
    match s.store.hostWork with
    | none => s
    | some w =>
      let s := hostAccess w s
      s.setStore { s.store with hostWork := none }
  | some .migration =>
    match s.store.migration with
    | none => s
    | some m => migrationAccess m s
  | some .scrub => scrubAccess s

/-- An access ends: its effect, then the arbiter (R139). A CLAIM's effect ends with the silence expiries it has put off, which
are thus taken before a PENDING hold is entered and its HOLDs are answered (R66, R73, log entry 42). So is every other frame and
fault of the effect, SPARE SET's RESULT DONE at a migration's last step among them (R141, R156, log entry 46). -/
def endAccess (s : State) : State :=
  let s := accessEffect s
  settleStore (s.setStore { s.store with access := none })

/-- The end of an access of the requester `r`: nothing when no such access is in progress, a fault on a word that does not
exist. -/
def finishAccess (r : Requester) (s : State) : Host.Outcome State Fault Refusal :=
  if s.inReset || decide (s.store.access ≠ some r) then .next s
  else
    match s.badWord with
    | some w => .fault (.noSuchWord w)
    | none => .next (endAccess s)

end Sys2Proof.Machine
end

