-- ==== Sys2Proof/Machine/HomeFrames.lean ====
section
/-! DEFINITION. The events of the account home: CLAIM (R58), DETACH (R65), TALLY (R67, R90), CHARGE (R114), the silence
timer (R66), the ends of its store accesses; and the age of the census entries (R90). -/

namespace Sys2Proof.Machine

/-- A CLAIM taken by the home (R58): an entry with its handle is removed, steps 1 and 2 are made, the store is requested. -/
def takeClaim (c : ClaimBody) (s : State) : State :=
  if s.home.inRange c.account then
    let s := match s.home.find c.handle with | some e => removeOrphan e s | none => s
    if s.store.hold = .held then denyClaim c .homeBusy s
    else if s.home.quarantined c.account then denyClaim c .recordFault s
    else settleStore (s.setHome { s.home with work := some (.claim c) })
  else s

/-- CLAIM (R55, R58). -/
def execClaim (c : ClaimBody) (s : State) : Answer := .next (takeHanded (.claim c) (takeClaim c) s)

/-- CLAIM_EVALUATION (R58 to R64). -/
def execClaimEvaluation (s : State) : Answer :=
  match s.home.work with
  | some (.claim _) => finishAccess .home s
  | _ => .next s

/-- An entry that hears a DETACH (R65). -/
def HomeEntry.detach (e : HomeEntry) : HomeEntry :=
  if e.state = .active then { e.heard with state := .detached } else e.heard

/-- A DETACH taken by the home (R65). -/
def takeDetach (d : DetachBody) (s : State) : State :=
  if s.home.inRange d.account then
    match s.home.find d.handle with
    | none => s
    | some e =>
      let h := s.home.modEntry d.handle HomeEntry.detach
      s.setHome (if e.state = .active then { h with detachOrder := h.detachOrder ++ [d.handle] } else h)
  else s

/-- DETACH (R55, R65). -/
def execDetach (d : DetachBody) (s : State) : Answer := .next (takeHanded (.detach d) (takeDetach d) s)

/-- A TALLY taken into the census table (R90). -/
def countTally (source : Nat) (t : TallyBody) (s : State) : State :=
  if 1 ≤ source ∧ source ≤ 15 ∧ source ≠ s.own then
    { s with bus := { s.bus with census :=
        s.bus.census.setIfInBounds source (some { count := holdAt 12 t.count, age := 35 }) } }
  else s

/-- A restart TALLY taken by the home: every entry that names the station is removed as an orphan (R67), in
the order of the list (log entry 41). -/
def clearStation (source : Nat) (s : State) : State :=
  (s.home.list.filter (fun e => decide (e.handle.station = source))).foldl (fun s e => removeOrphan e s) s

/-- A TALLY taken (R67, R90). -/
def takeTally (source : Nat) (t : TallyBody) (s : State) : State :=
  let s := countTally source t s
  if t.restart then clearStation source s else s

/-- TALLY (R55, R67, R90). -/
def execTally (source : Nat) (t : TallyBody) (s : State) : Answer :=
  .next (takeHanded (.tally source t) (takeTally source t) s)

/-- SILENCE_TIMER_EXPIRY (R66): while the home is taking a CLAIM the expiry is put off to its end. -/
def execSilenceTimerExpiry (h : Handle) (s : State) : Answer :=
  awake (fun s =>
    match s.home.find h with
    | none => s
    | some e =>
      if e.silence = 0 then
        match s.home.work with
        | some (.claim _) => s.setHome (s.home.modEntry h (fun x => { x with expiryPutOff := true }))
        | _ => removeOrphan e s
      else s) s

/-- CENSUS_AGE_EXPIRY (R90). -/
def execCensusAgeExpiry (a : Fin 16) (s : State) : Answer :=
  awake (fun s =>
    match s.bus.census[a] with
    | none => s
    | some e => if e.age = 0 then { s with bus := { s.bus with census := s.bus.census.set a none } } else s) s

/-- A CHARGE taken by the home (R114): no entry, HELD, or applied, at once or by a request for the store. -/
def takeCharge (c : ChargeBody) (s : State) : State :=
  if c.home = s.own ∧ s.home.inRange c.account then
    match s.home.find c.handle with
    | none => answerUnknown c.handle c.account c.total s
    | some e =>
      let s := noteCharge e c.endCause.isSome s
      if s.store.hold = .held then s.setHome (s.home.backlogged c.handle e.account c.total c.endCause.isSome)
      else if s.needsStore e c.total then
        settleStore (s.setHome { s.home with
          work := some (.charge c.handle e.account c.total c.endCause.isSome false) })
      else applyAside e c.total c.endCause.isSome s
  else s

/-- CHARGE (R55, R114). -/
def execCharge (c : ChargeBody) (s : State) : Answer := .next (takeHanded (.charge c) (takeCharge c) s)

/-- CHARGE_APPLICATION (R116 to R120). -/
def execChargeApplication (s : State) : Answer :=
  match s.home.work with
  | some (.charge _ _ _ _ _) => finishAccess .home s
  | _ => .next s

end Sys2Proof.Machine
end

