-- ==== Sys2Proof/Machine/HostCommands.lean ====
section
/-! DEFINITION. The host adapter's commands to the account records and the store: ACCOUNT LOAD, ACCOUNT READ, DEPOSIT, UNLOCK
(R123 to R128), HOLD and RELEASE (R141, R142), STORE PROBE and STORE FLIP (R146, R147), SPARE SET (R153), and the store's own
timed events (R143, R144, R148, R154). -/

namespace Sys2Proof.Machine

/-- The host-command path requests the store for a command (R138). -/
def requestHost (w : HostWork) (s : State) : State := settleStore (s.setStore { s.store with hostWork := some w })

/-- The checks of R123 on an account command, in their order; `listedFails` is the quarantine check, not made for
ACCOUNT LOAD. -/
def checkAccount (kind : CommandKind) (listedFails : Bool) (account : Option Nat) (go : State → State) (s : State) : State :=
  if !s.inService then offerResult kind .refusedState [] s
  else
    match account with
    | none => offerResult kind .badField [] s
    | some a =>
      if !s.home.inRange a then offerResult kind .notHome [] s
      else if listedFails && s.home.quarantined a then offerResult kind .recordFault [] s
      else go s

/-- The list holds entries for the account. -/
def Home.lists (h : Home) (account : Nat) : Bool := h.list.any (fun e => decide (e.account = account))

/-- ACCOUNT LOAD is refused IN_USE (R124). -/
def Home.inUse (h : Home) (l : AccountLoad) : Bool :=
  h.lists l.account && (!l.valid || decide (l.limit < h.nonMoving l.account))

/-- ACCOUNT LOAD taken (R123, R124). -/
def takeAccountLoad (body : List Byte) (s : State) : State :=
  match accountLoadOf body with
  | none => checkAccount .accountLoad false none id s
  | some l =>
    checkAccount .accountLoad false (some l.account)
      (fun s => if s.home.inUse l then offerResult .accountLoad .inUse [] s else requestHost (.accountLoad l) s) s

/-- ACCOUNT_LOAD (R123 to R125, R161). -/
def execAccountLoad (body : List Byte) (s : State) : Answer :=
  .next (takeHanded (.command .accountLoad body) (takeAccountLoad body) s)

/-- ACCOUNT READ taken (R123, R126). -/
def takeAccountRead (body : List Byte) (s : State) : State :=
  checkAccount .accountRead true (accountOf body) (requestHost (.accountRead ((accountOf body).getD 0))) s

/-- ACCOUNT_READ (R123, R126). -/
def execAccountRead (body : List Byte) (s : State) : Answer :=
  .next (takeHanded (.command .accountRead body) (takeAccountRead body) s)

/-- DEPOSIT taken (R123, R127). -/
def takeDeposit (body : List Byte) (s : State) : State :=
  checkAccount .deposit true ((depositOf body).map Prod.fst)
    (requestHost (.deposit ((depositOf body).getD (0, 0)).1 ((depositOf body).getD (0, 0)).2)) s

/-- DEPOSIT (R123, R127). -/
def execDeposit (body : List Byte) (s : State) : Answer :=
  .next (takeHanded (.command .deposit body) (takeDeposit body) s)

/-- UNLOCK taken (R123, R128). -/
def takeUnlock (body : List Byte) (s : State) : State :=
  checkAccount .unlock true (accountOf body) (requestHost (.unlock ((accountOf body).getD 0))) s

/-- UNLOCK (R123, R128). -/
def execUnlock (body : List Byte) (s : State) : Answer :=
  .next (takeHanded (.command .unlock body) (takeUnlock body) s)

/-- HOST_COMMAND_ACCESS_END (R138, R124 to R128, R146, R147). -/
def execHostCommandAccessEnd (s : State) : Answer :=
  if s.store.hostWork.isSome then finishAccess .host s else .next s

/-! ### Hold (R141 to R143) -/

/-- HOLD taken (R141). -/
def takeHold (body : List Byte) (s : State) : State :=
  if !s.inService then offerResult .hold .refusedState [] s
  else if body ≠ [] then offerResult .hold .badField [] s
  else if s.supply.state = .low then offerResult .hold .refusedState [] s
  else
    match s.store.hold with
    | .held => offerResult .hold .done [] s
    | .pending => s.setStore { s.store with waitingHolds := s.store.waitingHolds + 1 }
    | .notHeld =>
      if s.store.access.isSome then s.setStore { s.store with hold := .pending, waitingHolds := s.store.waitingHolds + 1 }
      else offerResult .hold .done [] (s.setStore { s.store with hold := .held, holdTimer := some 10 })

/-- HOLD (R141). -/
def execHold (body : List Byte) (s : State) : Answer := .next (takeHanded (.command .hold body) (takeHold body) s)

/-- RELEASE taken (R142). -/
def takeRelease (body : List Byte) (s : State) : State :=
  if !s.inService then offerResult .release .refusedState [] s
  else if body ≠ [] then offerResult .release .badField [] s
  else if s.store.hold = .held then offerResult .release .done [] (endHold s)
  else offerResult .release .refusedState [] s

/-- RELEASE (R142, R143). -/
def execRelease (body : List Byte) (s : State) : Answer :=
  .next (takeHanded (.command .release body) (takeRelease body) s)

/-- HOLD_TIMER_EXPIRY (R143). HOLD_EXPIRED is logged before the hold ends (log entry 35). -/
def execHoldTimerExpiry (s : State) : Answer :=
  awake (fun s =>
    if s.store.hold = .held ∧ due s.store.holdTimer then endHold (logFault .holdExpired Subject.blank s) else s) s

/-! ### Scrub, clear, sparing (R144, R145, R148, R153 to R156) -/

/-- SCRUB_TIMER_EXPIRY (R144): the scrub requests the store. -/
def execScrubTimerExpiry (s : State) : Answer :=
  awake (fun s =>
    if s.store.scrubTimerRunning then
      settleStore (s.setStore { s.store with scrubTimerRunning := false, scrubRequest := true })
    else s) s

/-- SCRUB_STEP (R145). -/
def execScrubStep (s : State) : Answer := finishAccess .scrub s

/-- STORE PROBE taken (R146). -/
def takeProbe (body : List Byte) (s : State) : State :=
  if !s.inService || decide (s.store.hold ≠ .held) then offerResult .storeProbe .refusedState [] s
  else
    match probeOf body with
    | none => offerResult .storeProbe .badField [] s
    | some w => requestHost (.probe w) s

/-- STORE_PROBE (R146). -/
def execStoreProbe (body : List Byte) (s : State) : Answer :=
  .next (takeHanded (.command .storeProbe body) (takeProbe body) s)

/-- STORE FLIP taken (R147). -/
def takeFlip (body : List Byte) (s : State) : State :=
  if !s.inService || decide (s.store.hold ≠ .held) then offerResult .storeFlip .refusedState [] s
  else
    match flipOf body with
    | none => offerResult .storeFlip .badField [] s
    | some (w, mask) => requestHost (.flip w mask) s

/-- STORE_FLIP (R147). -/
def execStoreFlip (body : List Byte) (s : State) : Answer :=
  .next (takeHanded (.command .storeFlip body) (takeFlip body) s)

/-- STORE_CLEAR_COMPLETE (R148, R189): every word is zero, the mark is set, the station passes to AWAITING_CONFIG. -/
def execStoreClearComplete (s : State) : Answer :=
  awake (fun s =>
    if s.station.state = .starting ∧ s.store.clearComplete = false then
      { s with store := { s.store with words := [], clearComplete := true },
               station := { s.station with state := .awaitingConfig } }
    else s) s

/-- SPARE SET taken (R153). -/
def takeSpareSet (body : List Byte) (s : State) : State :=
  if !s.inService then offerResult .spareSet .refusedState [] s
  else
    match spareSetOf body with
    | none => offerResult .spareSet .badField [] s
    | some (segment, position) =>
      if s.store.migration.isSome then offerResult .spareSet .busy [] s
      else
        s.setStore { s.store with
          migration := some { segment := segment, pendingEntry := position, pointer := 0, timerRunning := true } }

/-- SPARE_SET (R153). -/
def execSpareSet (body : List Byte) (s : State) : Answer :=
  .next (takeHanded (.command .spareSet body) (takeSpareSet body) s)

/-- MIGRATION_STEP_TIMER_EXPIRY (R154): migration requests the store. -/
def execMigrationStepTimerExpiry (s : State) : Answer :=
  awake (fun s =>
    match s.store.migration with
    | none => s
    | some m =>
      if m.timerRunning then
        settleStore (s.setStore { s.store with migration := some { m with timerRunning := false },
                                               migrationRequest := true })
      else s) s

/-- MIGRATION_STEP (R155, R156). -/
def execMigrationStep (s : State) : Answer := finishAccess .migration s

end Sys2Proof.Machine
end

