-- ==== Sys2Proof/Machine/Lines.lean ====
section
/-! DEFINITION. The events of a line from ring to speed lock and of its hang-up (01_lines_and_calls.md). An event whose
condition the line does not meet changes nothing (log entry 1). -/

namespace Sys2Proof.Machine

/-- The line answers (R5). The ring filter is held ABSENT from here on (R4). -/
def Line.answer (l : Line) : Line :=
  { l with terminalReady := true, ringCount := 0, carrierFilter := .absent, timer := some 30, state := .answering,
           ringFilter := .absent }

/-- A counted burst on an IDLE or RINGING line (R5). -/
def Line.burst (answerRings : Nat) (l : Line) : Line :=
  let count := if l.state = .ringing then l.ringCount + 1 else 1
  if answerRings ≤ count then l.answer
  else { l with state := .ringing, ringCount := count, timer := none, ringFilter := .present }

/-- A burst is counted: the filter passes from ABSENT to PRESENT in RINGING, or in IDLE with permission (R4). -/
def State.countsBurst (s : State) (l : Fin 8) : Bool :=
  decide (s.lines[l].ringFilter = .absent) &&
    (decide (s.lines[l].state = .ringing) || (decide (s.lines[l].state = .idle) && s.permission))

/-- RING_BURST (R4, R5). -/
def execRingBurst (l : Fin 8) (s : State) : Answer :=
  awake (fun s => if s.countsBurst l then s.modLine l (Line.burst s.answerRings) else s) s

/-- BURST_END (R4, R6). -/
def execBurstEnd (l : Fin 8) (s : State) : Answer :=
  awake (fun s =>
    if s.lines[l].state = .ringing ∧ s.lines[l].ringFilter = .present then
      s.modLine l (fun x => { x with ringFilter := .absent, timer := some 8 })
    else s) s

/-- RING_SERIES_TIMER_EXPIRY (R6). -/
def execRingSeriesTimerExpiry (l : Fin 8) (s : State) : Answer :=
  awake (fun s =>
    if s.lines[l].state = .ringing ∧ due s.lines[l].timer then
      s.modLine l (fun x => { x with state := .idle, ringCount := 0, timer := none })
    else s) s

/-- CARRIER_PRESENCE (R7, R8, R10). -/
def execCarrierPresence (l : Fin 8) (s : State) : Answer :=
  awake (fun s =>
    if s.lines[l].state = .disabled ∨ s.lines[l].carrierFilter = .present then s
    else if s.lines[l].state = .answering then
      s.modLine l (fun x => { x with carrierFilter := .present, state := .speedDetect, timer := some 20,
                                     receiver := .disarmed, dialogue := some Dialogue.opened })
    else s.modLine l (fun x => { x with carrierFilter := .present })) s

/-- ANSWER_TIMER_EXPIRY (R8, R18). -/
def execAnswerTimerExpiry (l : Fin 8) (s : State) : Answer :=
  awake (fun s => if s.lines[l].state = .answering ∧ due s.lines[l].timer then hangUpDirect l s else s) s

/-- The loss handed to the session table for the served slot of a line that was CLAIMING or ONLINE (R9, R51, R80, R83). -/
def sessionLosesLine (k : Fin 12) (s : State) : State :=
  match s.table.slots[k].session with
  | none => s
  | some x =>
    match x.state with
    | .claiming => s.modSession k (fun y => { y with abandoned := true, line := none })
    | .active => if 0 < s.detachGrace then detachSession k x s.detachGrace s else endSession k .carrierLost s
    | .cutoffGrace => endSession k .credit s
    | _ => s

/-- A carrier loss acts by the line's state (R9). -/
def carrierLost (l : Fin 8) (s : State) : State :=
  match s.lines[l].state with
  | .answering => hangUpDirect l s
  | .speedDetect => hangUpDirect l s
  | .signOn => hangUpDirect l s
  | .claiming =>
    match s.lines[l].servedSlot with
    | some k => sessionLosesLine k (hangUpDirect l s)
    | none => hangUpDirect l s
  | .online =>
    match s.lines[l].servedSlot with
    | some k => sessionLosesLine k (hangUpDirect l s)
    | none => hangUpDirect l s
  | .hangup .draining => s.modLine l Line.hold
  | _ => s

/-- CARRIER_LOSS (R7, R9). -/
def execCarrierLoss (l : Fin 8) (s : State) : Answer :=
  awake (fun s =>
    if s.lines[l].state = .disabled ∨ s.lines[l].carrierFilter = .absent then s
    else carrierLost l (s.modLine l (fun x => { x with carrierFilter := .absent }))) s

/-- HANG_UP_HOLD_TIMER_EXPIRY (R19). -/
def execHangUpHoldTimerExpiry (l : Fin 8) (s : State) : Answer :=
  awake (fun s =>
    if s.lines[l].state = .hangup .holding ∧ due s.lines[l].timer then
      s.modLine l (fun x => { x with state := .idle, timer := none })
    else s) s

/-- RECEIVER_ARMED (R10). -/
def execReceiverArmed (l : Fin 8) (s : State) : Answer :=
  awake (fun s =>
    if s.lines[l].state = .speedDetect ∧ s.lines[l].receiver = .disarmed then
      s.modLine l (fun x => { x with receiver := .armed })
    else s) s

/-- SPEED_INTERVAL_END (R10). -/
def execSpeedIntervalEnd (l : Fin 8) (micros : Nat) (s : State) : Answer :=
  awake (fun s =>
    if s.lines[l].state = .speedDetect ∧ s.lines[l].receiver = .armed then
      match speedClassOf micros with
      | some c => s.modLine l (fun x => { x with receiver := .decoding c })
      | none => failedAttempt l s
    else s) s

/-- The end of a decode at class `c` (R11, R36). -/
def decodeEnd (l : Fin 8) (c code : Nat) (stopMarking : Bool) (s : State) : State :=
  if code = 13 ∧ stopMarking then placeText l s.userPrompt (s.modLine l (Line.lock c)) else failedAttempt l s

/-- SPEED_DECODE_END (R11). -/
def execSpeedDecodeEnd (l : Fin 8) (code : Nat) (stopMarking : Bool) (s : State) : Answer :=
  awake (fun s =>
    if s.lines[l].state = .speedDetect then
      match s.lines[l].receiver with
      | .decoding c => decodeEnd l c code stopMarking s
      | _ => s
    else s) s

/-- SPEED_DETECT_TIMER_EXPIRY (R12). -/
def execSpeedDetectTimerExpiry (l : Fin 8) (s : State) : Answer :=
  awake (fun s => if s.lines[l].state = .speedDetect ∧ due s.lines[l].timer then hangUpDirect l s else s) s

end Sys2Proof.Machine
end

