-- ==== Sys2Proof/Machine/Metering.lean ====
section
/-! DEFINITION. The tick (R94), the posting (R106), the band flip (R96), TIME (R97) and TARIFF LOAD (R99). -/

namespace Sys2Proof.Machine

/-- A whole-second timer at a tick (R2). One that is due waits for its expiry to be taken. -/
def down (timer : Option Nat) : Option Nat := timer.map (fun n => n - 1)

/-- The meter's own work for a tick, in its order (R94); the sessions of each step are taken in slot order (log entry 43). -/
def meterTick (s : State) : State :=
  if s.inService then
    let s := allSlots.foldl (fun s k => chargeSecond k s) s
    let s := allSlots.foldl (fun s k => postSecond k s) s
    { s with meter := s.meter.countDown }
  else s

/-- The sign-on timer at a tick: it runs in ENTRY and SLOT_WAIT (R41). -/
def Dialogue.second (d : Dialogue) : Dialogue := if d.step = .claimed then d else { d with timer := down d.timer }

/-- A line's timers at a tick (R2, R41). -/
def Line.second (l : Line) : Line := { l with timer := down l.timer, dialogue := l.dialogue.map Dialogue.second }

/-- A slot's timers at a tick (R45, R79, R82). -/
def Slot.second (k : Slot) : Slot :=
  { k with claimTimer := down k.claimTimer, session := k.session.map (fun x => { x with grace := down x.grace }) }

/-- The timers of all blocks at a tick, and station time (R2, R57, R88, R90, R140, R177). -/
def timersTick (s : State) : State :=
  { s with
    lines := s.lines.map Line.second
    table := { s.table with slots := s.table.slots.map Slot.second, heartbeat := down s.table.heartbeat }
    home := { s.home with list := s.home.list.map (fun e => { e with silence := e.silence - 1 }) }
    store := { s.store with holdTimer := down s.store.holdTimer }
    bus := { s.bus with census := s.bus.census.map (Option.map (fun e => { e with age := e.age - 1 })) }
    faults := { s.faults with stationTime := holdAt Config.maxCredits (s.faults.stationTime + 1) } }

/-- TICK (R94): the meter's work, then the other blocks' timers (log entry 12). -/
def execTick (s : State) : Answer := awake (fun s => timersTick (meterTick s)) s

/-- POSTING (R106, R107): the post counter stands at 59, returns to 0 and a CHARGE is offered. -/
def execPosting (k : Fin 12) (s : State) : Answer :=
  awake (fun s =>
    match s.table.slots[k].session with
    | none => s
    | some x => if x.state.live ∧ x.postCounter = 59 then postSecond k s else s) s

/-- BAND_FLIP (R96): the running band timer's last second is counted, and the band flips. -/
def execBandFlip (s : State) : Answer :=
  awake (fun s => if s.meter.running ∧ s.meter.remaining = 1 then { s with meter := s.meter.countDown } else s) s

/-- TIME taken (R97). -/
def setTime (body : List Byte) (s : State) : State :=
  if !s.inService then offerResult .time .refusedState [] s
  else
    match timeOf body with
    | none => offerResult .time .badField [] s
    | some (band, seconds) =>
      offerResult .time .done (bytesOf 1 band.code ++ bytesOf 3 (clampSeconds seconds))
        { s with meter := { s.meter with band := band, remaining := clampSeconds seconds } }

/-- TIME (R97). -/
def execTime (body : List Byte) (s : State) : Answer := .next (takeHanded (.command .time body) (setTime body) s)

/-- An entry of a TARIFF LOAD that the table takes (R99). -/
def tariffFits (e : Nat × Nat × Nat) : Bool := decide (e.1 ≤ 63) && decide (e.2.1 ≤ 4095)

/-- The table after one entry (R99). -/
def Meter.load (m : Meter) (e : Nat × Nat × Nat) : Meter :=
  if tariffFits e then { m with tariffs := m.tariffs.setIfInBounds e.1 { rate := e.2.1, surcharge := e.2.2 } } else m

/-- TARIFF LOAD taken (R99). -/
def loadTariffs (body : List Byte) (s : State) : State :=
  match tariffLoadOf body with
  | none => offerResult .tariffLoad .badField [] s
  | some entries =>
    offerResult .tariffLoad .done
      (bytesOf 1 (entries.countP tariffFits) ++ bytesOf 1 (entries.countP (fun e => !tariffFits e)))
      { s with meter := entries.foldl Meter.load s.meter }

/-- TARIFF_LOAD (R99, R100). -/
def execTariffLoad (body : List Byte) (s : State) : Answer :=
  .next (takeHanded (.command .tariffLoad body) (loadTariffs body) s)

end Sys2Proof.Machine
end

