-- ==== Sys2Proof/Machine/Sessions.lean ====
section
/-! DEFINITION. The events of the session table: replies to claims (R45 to R53, R70), CUTOFF (R82), REFUSE (R85), FORCE OFF
(R84), the grace timers (R81, R83), DATA from the host adapter (R27 to R29), the TALLY heartbeat (R88). -/

namespace Sys2Proof.Machine

/-! ### GRANT and DENY (R46 to R53, R70) -/

/-- A late GRANT (R52). -/
def lateGrant (source : Nat) (g : GrantBody) (s : State) : State :=
  if (s.matched g.handle).isSome then s else offerZeroCharge source g .late s

/-- A duplicate reply's fault (R53). -/
def logDuplicate (first second : Nat) (h : Handle) (s : State) : State :=
  logFault .duplicateHome { Subject.blank with address := some first, address2 := some second, handle := some h } s

/-- The metered total at which a session starts (R47, R101). -/
def State.openingTotal (s : State) (g : GrantBody) (speedClass : Nat) : Nat :=
  match g.oldHandle with
  | none => (s.meter.tariff speedClass g.acctClass).surcharge
  | some _ => 0

/-- SESSION RESUMED after a GRANT REATTACH, once the line is bound (R47). -/
def resumedText (l : Fin 8) (g : GrantBody) (s : State) : State :=
  match g.oldHandle with
  | none => s
  | some _ => placeFixed l .sessionResumed s

/-- A GRANT makes the session of slot `k` live (R47, R101). -/
def bindSession (k : Fin 12) (x : Session) (source : Nat) (g : GrantBody) (s : State) : State :=
  let s := s.modSlot k (fun y =>
    { y with claimTimer := none,
             session := some { x with home := some source, acctClass := some g.acctClass, state := .active,
                                      postCounter := 0, total := s.openingTotal g x.speedClass, remainder := 0,
                                      saturated := false } })
  let s :=
    match x.line with
    | none => s
    | some l => resumedText l g (s.modLine l Line.bind)
  offerTally s

/-- A GRANT for an abandoned slot (R51). -/
def settleAbandoned (k : Fin 12) (x : Session) (source : Nat) (g : GrantBody) (s : State) : State :=
  offerFinal k (s.modSlot k (fun y =>
    { y with claimTimer := none,
             session := some (Session.ended .abandoned { x with home := some source, acctClass := some g.acctClass,
                                                                total := 0, remainder := 0 }) }))

/-- A GRANT for this station's claim (R46). -/
def settleGrant (source : Nat) (g : GrantBody) (s : State) : State :=
  match s.slotOf g.handle with
  | none => s
  | some k =>
    if s.table.slots[k].generation ≠ g.handle.generation then lateGrant source g s
    else
      match s.table.slots[k].replySource with
      | some first =>
        if first = source then lateGrant source g s
        else offerZeroCharge source g .duplicate (logDuplicate first source g.handle s)
      | none =>
        let s := s.modSlot k (fun y => { y with replySource := some source })
        match s.table.slots[k].session with
        | none => lateGrant source g s
        | some x =>
          if x.state = .claiming then
            if x.abandoned then settleAbandoned k x source g s else bindSession k x source g s
          else s

/-- The end cause of a queued final CHARGE of slot `k` changed to MOVED (R70, R171). -/
def Payload.madeMoved (k : Fin 12) : Payload → Payload
  | .charge c (some j) => if j = k then .charge { c with endCause := some .moved } (some j) else .charge c (some j)
  | p => p

/-- A GRANT REATTACH names an old session of this station (R70). -/
def settleOld (g : GrantBody) (s : State) : State :=
  match g.oldHandle with
  | none => s
  | some h =>
    match s.matched h with
    | none => s
    | some (k, x) =>
      match x.state with
      | .detached => endSession k .moved s
      | .ending =>
        if x.endCause = some .detachExpired ∧ x.finalStatus ≠ some .inFlight then
          (s.rewriteWaiting (Entry.chargesFor h) (Payload.madeMoved k)).modSession k
            (fun y => { y with endCause := some .moved })
        else s
      | _ => s

/-- GRANT (R46, R47, R51 to R53, R70): first the claim it answers, then the old handle it names (log entry 9). -/
def execGrant (source : Nat) (g : GrantBody) (s : State) : Answer :=
  .next (takeHanded (.grant source g) (fun s => settleOld g (settleGrant source g s)) s)

/-- The line goes back to the USER phase (R49, steps 2 to 5). -/
def resumeDialogue (l : Fin 8) (s : State) : State := placeText l s.userPrompt (s.modLine l Line.resume)

/-- A DENY that uses up an attempt (R50). -/
def failedSignOn (l : Fin 8) (s : State) : State :=
  let attempts := (match s.lines[l].dialogue with | some d => d.attempts | none => 0) + 1
  let s := s.modLine l (fun x => { x with dialogue := x.dialogue.map (fun d => { d with attempts := attempts }) })
  let s := placeFixed l .signOnFailed s
  if attempts < 3 then resumeDialogue l s else hangUp l s

/-- The caller's side of a DENY (R48 to R50). -/
def denyLine (l : Fin 8) (r : DenyReason) (s : State) : State :=
  match r with
  | .locked => hangUp l (placeFixed l .accountLocked s)
  | .limit => hangUp l (placeFixed l .sessionLimit s)
  | .credit => hangUp l (placeFixed l .noCredit s)
  | .recordFault => hangUp l (placeFixed l .accountFault s)
  | .homeFull => hangUp l (placeFixed l .systemFull s)
  | .homeBusy => resumeDialogue l (placeFixed l .tryAgain s)
  | .badDigest => failedSignOn l s
  | .noAccount => failedSignOn l s

/-- A DENY for this station's claim (R46, R48 to R53). -/
def settleDeny (source : Nat) (d : DenyBody) (s : State) : State :=
  match s.slotOf d.handle with
  | none => s
  | some k =>
    if s.table.slots[k].generation ≠ d.handle.generation then s
    else
      match s.table.slots[k].replySource with
      | some first => if first = source then s else logDuplicate first source d.handle s
      | none =>
        let s := s.modSlot k (fun y => { y with replySource := some source })
        match s.table.slots[k].session with
        | none => s
        | some x =>
          if x.state = .claiming then
            let s := freeSlot k s
            if x.abandoned then s
            else
              match x.line with
              | none => s
              | some l => denyLine l d.reason s
          else s

/-- DENY (R46, R48 to R53). -/
def execDeny (source : Nat) (d : DenyBody) (s : State) : Answer := .next (takeHanded (.deny source d) (settleDeny source d) s)

/-- CLAIM_TIMER_EXPIRY (R45). -/
def execClaimTimerExpiry (k : Fin 12) (s : State) : Answer :=
  awake (fun s =>
    match s.table.slots[k].session with
    | none => s
    | some x => if x.state = .claiming ∧ due s.table.slots[k].claimTimer then homeSilent k s else s) s

/-! ### CUTOFF, REFUSE and the grace timers (R81 to R85) -/

/-- A CUTOFF on the session it matches (R82). -/
def settleCutoff (c : CutoffBody) (s : State) : State :=
  match s.matched c.handle with
  | none => s
  | some (k, x) =>
    match x.state with
    | .active =>
      let s := match x.line with | none => s | some l => placeFixed l .creditExhausted s
      s.modSession k (fun y => { y with state := .cutoffGrace, grace := some 60 })
    | .detached => endSession k .credit s
    | _ => s

/-- CUTOFF (R82). -/
def execCutoff (c : CutoffBody) (s : State) : Answer := .next (takeHanded (.cutoff c) (settleCutoff c) s)

/-- DETACH_GRACE_EXPIRY (R81, R94). -/
def execDetachGraceExpiry (k : Fin 12) (s : State) : Answer :=
  awake (fun s =>
    match s.table.slots[k].session with
    | none => s
    | some x => if x.state = .detached ∧ graceDue x.grace then endSession k .detachExpired s else s) s

/-- CUTOFF_GRACE_EXPIRY (R83, R94). -/
def execCutoffGraceExpiry (k : Fin 12) (s : State) : Answer :=
  awake (fun s =>
    match s.table.slots[k].session with
    | none => s
    | some x =>
      if x.state = .cutoffGrace ∧ graceDue x.grace then
        endSession k .credit (match x.line with | none => s | some l => hangUp l s)
      else s) s

/-- CHARGE_REFUSED is logged with the REFUSE's fields (R85). -/
def logRefused (r : RefuseBody) (s : State) : State :=
  logFault .chargeRefused
    { Subject.blank with handle := some r.handle, account := some r.account, total := some r.total } s

/-- A REFUSE on the session it matches (R85). -/
def settleRefuse (r : RefuseBody) (s : State) : State :=
  match s.matched r.handle with
  | none => s
  | some (k, x) =>
    match x.state with
    | .active => endSession k .homeLost (hangUpWith x.line .accountFault (logRefused r s))
    | .cutoffGrace => endSession k .homeLost (hangUpWith x.line .accountFault (logRefused r s))
    | .detached => endSession k .homeLost (logRefused r s)
    | _ => s

/-- REFUSE (R85). -/
def execRefuse (r : RefuseBody) (s : State) : Answer := .next (takeHanded (.refuse r) (settleRefuse r) s)

/-! ### FORCE OFF (R84, R51) -/

/-- The effect of a FORCE OFF on the session its handle matches (R84). -/
def forceOffSession (k : Fin 12) (x : Session) (s : State) : State :=
  match x.state with
  | .active => endSession k .forced (hangUpWith x.line .forcedOff s)
  | .cutoffGrace => endSession k .forced (hangUpWith x.line .forcedOff s)
  | .detached => endSession k .forced s
  | .claiming =>
    if x.abandoned then s
    else hangUpWith x.line .forcedOff (s.modSession k (fun y => { y with abandoned := true, line := none }))
  | .ending => s

/-- FORCE OFF taken (R84). -/
def forceOff (body : List Byte) (s : State) : State :=
  if !s.inService then offerResult .forceOff .refusedState [] s
  else
    match forceOffOf body with
    | none => offerResult .forceOff .badField [] s
    | some h =>
      match s.matched h with
      | none => offerResult .forceOff .notFound [] s
      | some (k, x) => offerResult .forceOff .done [] (forceOffSession k x s)

/-- FORCE_OFF (R84). -/
def execForceOff (body : List Byte) (s : State) : Answer :=
  .next (takeHanded (.command .forceOff body) (forceOff body) s)

/-! ### DATA from the host adapter (R27 to R29) -/

/-- A DATA frame discarded for its handle is counted (R27). -/
def discardFrame (s : State) : State :=
  { s with station := { s.station with outputDiscards := holdAt 65535 (s.station.outputDiscards + 1) } }

/-- A DATA frame taken (R27 to R29). -/
def settleData (d : DataBody) (s : State) : State :=
  match s.matched d.handle with
  | none => discardFrame s
  | some (k, x) =>
    if x.state.metered then
      match x.line with
      | none => discardFrame s
      | some l =>
        let s := s.modLine l (Line.joinHost d.chars)
        if d.hangUpFlag then endSession k .normalHangup (hangUp l s) else s
    else discardFrame s

/-- DATA (R27 to R29). -/
def execData (d : DataBody) (s : State) : Answer := .next (takeHanded (.data d) (settleData d) s)

/-! ### The TALLY heartbeat (R88) -/

/-- TALLY_HEARTBEAT_EXPIRY (R88): a TALLY is offered; the heartbeat is restarted whether it is queued or not. -/
def execTallyHeartbeatExpiry (s : State) : Answer :=
  awake (fun s =>
    if s.inService ∧ due s.table.heartbeat then
      offerTally { s with table := { s.table with heartbeat := some 10 } }
    else s) s

end Sys2Proof.Machine
end

