-- ==== Sys2Proof/Machine/StationCommands.lean ====
section
/-! DEFINITION. CONFIGURE (R172), STATUS READ (R173) and the fault commands (R181 to R184). -/

namespace Sys2Proof.Machine

/-! ### CONFIGURE (R172) -/

/-- The settings of an accepted CONFIGURE stored, and the timers it starts (R172, steps 1 to 4; R54, R95, R144, R154).
A first account number above 999,999 is stored as it was carried, beside the count 0 (log entry 6). -/
def storeSettings (f : ConfigureFields) (s : State) : State :=
  { s with
    station := { s.station with settings := some f.settings }
    home := { s.home with first := f.homeFirst, count := f.homeCount }
    meter := { s.meter with band := .peak, remaining := f.peakLength, running := true, peakLength := some f.peakLength,
                            offPeakLength := some f.offPeakLength }
    store := { s.store with scrubInterval := some f.scrubInterval, scrubTimerRunning := decide (0 < f.scrubInterval),
                            migration := s.store.migration.map (fun m => { m with timerRunning := true }) } }

/-- The station enters IN_SERVICE; the restart TALLY joins the queue and the heartbeat starts (R172, steps 5 and 6; R89). -/
def enterService (s : State) : State := offerTally { s with station := { s.station with state := .inService } }

/-- CONFIGURE taken (R172). -/
def takeConfigure (body : List Byte) (s : State) : State :=
  if s.station.state ≠ .awaitingConfig then offerResult .configure .refusedState [] s
  else
    match configureOf body with
    | none => offerResult .configure .badField [] s
    | some f =>
      if s.bus.queue ≠ [] then offerResult .configure .busy [] s
      else offerResult .configure .done [] (enterService (storeSettings f s))

/-- CONFIGURE (R172). -/
def execConfigure (body : List Byte) (s : State) : Answer :=
  .next (takeHanded (.command .configure body) (takeConfigure body) s)

/-! ### STATUS READ (R173) -/

def StationState.code : StationState → Nat
  | .starting => 0 | .awaitingConfig => 1 | .inService => 2 | .strapFault => 3

def ResetKind.code : ResetKind → Nat
  | .powerOn => 0 | .brownout => 1 | .pin => 2 | .command => 3

def HoldState.code : HoldState → Nat
  | .notHeld => 0 | .pending => 1 | .held => 2

/-- The entry of a line in STATUS DATA (R20, Formats). -/
def Line.statusBytes (l : Line) : List Byte :=
  bytesOf 1 (l.state.code * 16 + l.speedClass % 4) ++ bytesOf 1 l.framingErrors ++ bytesOf 1 l.receiveOverruns ++
    bytesOf 1 l.outputDiscards

/-- The migration field of STATUS DATA (Formats). -/
def migrationField : Option Migration → Nat
  | none => 0
  | some m => 32768 + m.segment.val * 4096 + m.pointer % 512

/-- The body of STATUS DATA (R173, Formats). -/
def statusBody (part : Nat) (s : State) : List Byte :=
  bytesOf 1 part ++
    bytesOf 1 (s.station.state.code * 64 + s.station.resetCause.code * 16 + s.store.hold.code * 4 +
      (if s.supply.state = .low then 2 else 0)) ++
    bytesOf 1 (s.own % 16 + (if s.station.eightLines then 16 else 0)) ++
    bytesOf 1 s.census ++ bytesOf 1 s.tally ++ bytesOf 2 (migrationField s.store.migration) ++
    bytesOf 3 s.home.unbilled ++ bytesOf 2 s.meter.overflow ++ bytesOf 2 s.station.outputDiscards ++
    ((s.lines.toList.drop (4 * part)).take 4).flatMap Line.statusBytes

/-- STATUS READ taken (R173). -/
def takeStatusRead (body : List Byte) (s : State) : State :=
  match statusPartOf body with
  | none => offerResult .statusRead .badField [] s
  | some part => offerReply .statusData (statusBody part s) s

/-- STATUS_READ (R173). -/
def execStatusRead (body : List Byte) (s : State) : Answer :=
  .next (takeHanded (.command .statusRead body) (takeStatusRead body) s)

/-! ### The fault commands (R181 to R184) -/

/-- FAULT READ taken (R182). -/
def takeFaultRead (body : List Byte) (s : State) : State :=
  match faultReadOf body with
  | none => offerResult .faultRead .badField [] s
  | some sev => offerReply .faultData (faultDataBody sev (s.faults.severityLog sev) s.faults.count s.faults.overflow) s

/-- FAULT_READ (R182). -/
def execFaultRead (body : List Byte) (s : State) : Answer :=
  .next (takeHanded (.command .faultRead body) (takeFaultRead body) s)

/-- A severity emptied, if it is flagged (R183). -/
def SeverityLog.clearIf (flag : Bool) (l : SeverityLog) : SeverityLog :=
  if flag then { l with first := none, later := 0 } else l

/-- The log after a FAULT CLEAR (R183). -/
def FaultLog.clear (c : FaultClear) (f : FaultLog) : FaultLog :=
  { f with corrected := f.corrected.clearIf c.corrected, degraded := f.degraded.clearIf c.degraded,
           failing := f.failing.clearIf c.failing, count := if c.counter then 0 else f.count,
           overflow := if c.counter then false else f.overflow }

/-- FAULT CLEAR taken (R183, R180, R3). -/
def takeFaultClear (body : List Byte) (s : State) : State :=
  match faultClearOf body with
  | none => offerResult .faultClear .badField [] s
  | some c => offerResult .faultClear .done [] (settlePermission { s with faults := s.faults.clear c })

/-- FAULT_CLEAR (R183). -/
def execFaultClear (body : List Byte) (s : State) : Answer :=
  .next (takeHanded (.command .faultClear body) (takeFaultClear body) s)

/-- The log after a FAULT SETUP (R184). -/
def FaultLog.setup (c : FaultSetup) (f : FaultLog) : FaultLog :=
  { f with masks := c.masks, selected := c.selected, corrected := { f.corrected with action := c.corrected },
           degraded := { f.degraded with action := c.degraded }, failing := { f.failing with action := c.failing } }

/-- FAULT SETUP taken (R184, R180, R3). -/
def takeFaultSetup (body : List Byte) (s : State) : State :=
  match faultSetupOf body with
  | none => offerResult .faultSetup .badField [] s
  | some c => offerResult .faultSetup .done [] (settlePermission { s with faults := s.faults.setup c })

/-- FAULT_SETUP (R184). -/
def execFaultSetup (body : List Byte) (s : State) : Answer :=
  .next (takeHanded (.command .faultSetup body) (takeFaultSetup body) s)

end Sys2Proof.Machine
end

