-- ==== Sys2Proof/Machine/SupplyReset.lean ====
section
/-! DEFINITION. The supply monitor (R186) and the resets (R187 to R189): what each kind clears and keeps, the strap latch,
and the events that begin and end them. -/

namespace Sys2Proof.Machine

/-! ### Supply (R186) -/

/-- The checkpoint of the meter (R109): the sessions in slot order. -/
def checkpointSlot (s : State) (k : Fin 12) : State :=
  if s.table.slots[k].live then offerCharge k (s.modSession k (fun x => { x with postCounter := 0 })) else s

def checkpoint (s : State) : State := allSlots.foldl checkpointSlot s

/-- A HELD store is released, and a PENDING hold cancelled with REFUSED_STATE for every HOLD that waits (R143, R141). -/
def dropHold (s : State) : State :=
  match s.store.hold with
  | .held => endHold s
  | .pending =>
    answerHolds .refusedState s.store.waitingHolds (s.setStore { s.store with hold := .notHeld, waitingHolds := 0 })
  | .notHeld => s

/-- The change from NORMAL to LOW (R186): POWER_LOW, permission withdrawn, the checkpoint, the hold. -/
def supplyFalls (s : State) : State :=
  let s := logFault .powerLow Subject.blank { s with supply := { s.supply with state := .low } }
  dropHold (checkpoint (settlePermission s))

/-- SUPPLY_BELOW_WARN (R186). -/
def execSupplyBelowWarn (s : State) : Answer :=
  let low := { s with supply := { s.supply with recoveryRunning := false, aboveWarn := false } }
  .next (if s.inReset || decide (s.supply.state = .low) then low else supplyFalls low)

/-- SUPPLY_ABOVE_WARN (R186): in LOW the recovery timer starts. During a reset the monitor is held; its timer starts at the
reset's end if the supply is above WARN then (log entry 3). -/
def execSupplyAboveWarn (s : State) : Answer :=
  .next { s with supply := { s.supply with
    aboveWarn := true,
    recoveryRunning := if s.inReset || decide (s.supply.state = .normal) then s.supply.recoveryRunning else true } }

/-- RECOVERY_TIMER_EXPIRY (R186). -/
def execRecoveryTimerExpiry (s : State) : Answer :=
  awake (fun s =>
    if s.supply.state = .low ∧ s.supply.recoveryRunning then
      settlePermission { s with supply := { s.supply with state := .normal, recoveryRunning := false } }
    else s) s

/-! ### What a reset clears and keeps -/

/-- The line units in the state that the line-count strap gives (R21). -/
def linesAfterReset (eightLines : Bool) : Vector Line 8 :=
  Vector.ofFn (fun l : Fin 8 => Line.afterReset (if eightLines ∨ l.val < 4 then .idle else .disabled))

/-- The session table after a PIN or COMMAND reset: the generations are kept (R92, R93). -/
def SessionTable.kept (t : SessionTable) : SessionTable :=
  { SessionTable.cleared with slots := t.slots.map (fun k => { Slot.cleared with generation := k.generation }) }

/-- The meter after a PIN or COMMAND reset: tariffs and overflow count are kept (R112). -/
def Meter.kept (m : Meter) : Meter := { Meter.cleared with tariffs := m.tariffs, overflow := m.overflow }

/-- The home after a PIN or COMMAND reset: the unbilled counter is kept (R75, R130, R158). -/
def Home.kept (h : Home) : Home := { Home.cleared with unbilled := h.unbilled }

/-- A PIN or COMMAND reset cuts off the access in progress: the first words it writes are written, as many as the free value
says, each whole; a migration step is made whole or not at all (R139, R157; log entry 7). -/
def cutAccess (s : State) : State :=
  if s.store.access.isNone then s
  else
    let ws := s.accessWords.filter (fun w => decide (w < Config.storeWords))
    let n := Config.cutWords s.freeDraws % (ws.length + 1)
    let full := (accessEffect s).store
    let words := (ws.take n).foldl (fun m w => m.write w (full.words.read w)) s.store.words
    let moved := decide (s.store.access = some .migration) && decide (0 < n)
    { s with
      freeDraws := s.freeDraws + 1
      store := { s.store with
        words := words
        migration := if moved then full.migration else s.store.migration
        spareMap := if moved then full.spareMap else s.store.spareMap
        corrected := if moved && full.migration.isNone then full.corrected else s.store.corrected
        advised := if moved && full.migration.isNone then full.advised else s.store.advised } }

/-- The store after a PIN or COMMAND reset (R149, R157). -/
def Store.kept (t : Store) : Store :=
  { Store.cleared with
    words := t.words, clearComplete := t.clearComplete, spareMap := t.spareMap, corrected := t.corrected,
    advised := t.advised, scrubPointer := t.scrubPointer,
    migration := t.migration.map (fun m => { m with timerRunning := false }) }

/-- The values in force during a reset that are the same for every kind: the station at rest, the supply LOW. -/
def Station.resetting (t : Station) : Station := { t with state := .starting, settings := none }

/-- The blocks at the values of a PIN or COMMAND reset. -/
def resetKept (s : State) : State :=
  let c := cutAccess s
  { c with
    lines := linesAfterReset s.station.eightLines, table := s.table.kept, meter := s.meter.kept, home := s.home.kept,
    store := c.store.kept, bus := Bus.cleared, faults := { s.faults with stationTime := 0 },
    supply := { s.supply with state := .low, recoveryRunning := false }, station := s.station.resetting }

/-- The blocks at the values of a POWER_ON or BROWNOUT reset. The words stand until the store clear has run (R148). -/
def resetCleared (s : State) : State :=
  { s with
    lines := linesAfterReset s.station.eightLines, table := SessionTable.cleared, meter := Meter.cleared,
    home := Home.cleared, store := { Store.cleared with words := s.store.words }, bus := Bus.cleared,
    faults := FaultLog.cleared, supply := { state := .low, recoveryRunning := false, aboveWarn := false },
    station := { s.station.resetting with outputDiscards := 0 } }

/-! ### The end of a reset (R187 to R189) -/

/-- The station state at the end of a reset (R188, R189). -/
def stateAfterReset (address : Nat) (clearComplete : Bool) : StationState :=
  if address = 0 then .strapFault else if clearComplete then .awaitingConfig else .starting

/-- The reset cause recorded at the end of a reset of overlapping kinds (R187). -/
def ResetForce.cause (f : ResetForce) : ResetKind :=
  if f.powerOnBegan then .powerOn else if f.brownoutBegan then .brownout else .pin

/-- A reset ends: straps latched, cause recorded, station state entered; the recovery timer starts if the supply is above
WARN (R186 to R189). The four address straps spell 0 to 15. -/
def finishReset (cause : ResetKind) (p : Straps) (s : State) : State :=
  { s with
    lines := linesAfterReset p.eightLines
    supply := { s.supply with recoveryRunning := s.supply.aboveWarn }
    station := { s.station with state := stateAfterReset (p.address % 16) s.store.clearComplete, address := p.address % 16,
                                eightLines := p.eightLines, resetCause := cause, force := ResetForce.clear } }

/-- The kinds in force have changed; the reset ends when none is left (R187). -/
def leaveReset (f : ResetForce) (p : Straps) (s : State) : State :=
  let s := { s with station := { s.station with force := f } }
  if s.inReset then s else finishReset f.cause p s

/-! ### The events (R174, R187) -/

/-- STATION RESET taken (R174): a COMMAND reset, which ends at once. -/
def takeStationReset (p : Straps) (s : State) : State := finishReset .command p (resetKept s)

/-- STATION_RESET (R174). -/
def execStationReset (body : List Byte) (p : Straps) (s : State) : Answer :=
  .next (takeHanded (.command .stationReset body) (takeStationReset p) s)

/-- SUPPLY_BELOW_RESET (R186, R187): a BROWNOUT reset begins. -/
def execSupplyBelowReset (s : State) : Answer :=
  let s := resetCleared s
  .next { s with station := { s.station with force := { s.station.force with brownout := true, brownoutBegan := true } } }

/-- POWER_APPLIED (R187): a POWER_ON reset begins. -/
def execPowerApplied (s : State) : Answer :=
  let s := resetCleared s
  .next { s with station := { s.station with force := { s.station.force with powerOn := true, powerOnBegan := true } } }

/-- SUPPLY_ABOVE_RESET (R187): POWER_ON and BROWNOUT are no longer in force. -/
def execSupplyAboveReset (p : Straps) (s : State) : Answer :=
  .next (if s.station.force.powerOn || s.station.force.brownout then
    leaveReset { s.station.force with powerOn := false, brownout := false } p s else s)

/-- RESET_PIN_ASSERTED (R187): a PIN reset begins. -/
def execResetPinAsserted (s : State) : Answer :=
  let s := resetKept s
  .next { s with station := { s.station with force := { s.station.force with pin := true } } }

/-- RESET_PIN_RELEASED (R187). -/
def execResetPinReleased (p : Straps) (s : State) : Answer :=
  .next (if s.station.force.pin then leaveReset { s.station.force with pin := false } p s else s)

end Sys2Proof.Machine
end

