-- ==== Sys2Proof/Machine/Dispatch.lean ====
section
/-! DEFINITION. The meaning of each command: one arm per row of the table, each one call. -/

namespace Sys2Proof.Machine

def exec (i : Instr) (s : State) : Host.Outcome State Fault Refusal :=
  match i with
  | .ringBurst line => Sys2Proof.Machine.execRingBurst line s
  | .burstEnd line => Sys2Proof.Machine.execBurstEnd line s
  | .ringSeriesTimerExpiry line => Sys2Proof.Machine.execRingSeriesTimerExpiry line s
  | .carrierPresence line => Sys2Proof.Machine.execCarrierPresence line s
  | .answerTimerExpiry line => Sys2Proof.Machine.execAnswerTimerExpiry line s
  | .carrierLoss line => Sys2Proof.Machine.execCarrierLoss line s
  | .hangUpHoldTimerExpiry line => Sys2Proof.Machine.execHangUpHoldTimerExpiry line s
  | .receiverArmed line => Sys2Proof.Machine.execReceiverArmed line s
  | .speedIntervalEnd line micros => Sys2Proof.Machine.execSpeedIntervalEnd line micros s
  | .speedDecodeEnd line code stopMarking => Sys2Proof.Machine.execSpeedDecodeEnd line code stopMarking s
  | .speedDetectTimerExpiry line => Sys2Proof.Machine.execSpeedDetectTimerExpiry line s
  | .character line code => Sys2Proof.Machine.execCharacter line code s
  | .framingError line => Sys2Proof.Machine.execFramingError line s
  | .lineBreak line => Sys2Proof.Machine.execLineBreak line s
  | .dataTriggerAge line => Sys2Proof.Machine.execDataTriggerAge line s
  | .signOnTimerExpiry line => Sys2Proof.Machine.execSignOnTimerExpiry line s
  | .transmitCharacter line => Sys2Proof.Machine.execTransmitCharacter line s
  | .claimTimerExpiry slot => Sys2Proof.Machine.execClaimTimerExpiry slot s
  | .grant source g => Sys2Proof.Machine.execGrant source g s
  | .deny source d => Sys2Proof.Machine.execDeny source d s
  | .claim c => Sys2Proof.Machine.execClaim c s
  | .claimEvaluation => Sys2Proof.Machine.execClaimEvaluation s
  | .detach d => Sys2Proof.Machine.execDetach d s
  | .tally source t => Sys2Proof.Machine.execTally source t s
  | .silenceTimerExpiry handle => Sys2Proof.Machine.execSilenceTimerExpiry handle s
  | .detachGraceExpiry slot => Sys2Proof.Machine.execDetachGraceExpiry slot s
  | .cutoff c => Sys2Proof.Machine.execCutoff c s
  | .cutoffGraceExpiry slot => Sys2Proof.Machine.execCutoffGraceExpiry slot s
  | .refuse r => Sys2Proof.Machine.execRefuse r s
  | .forceOff body => Sys2Proof.Machine.execForceOff body s
  | .tallyHeartbeatExpiry => Sys2Proof.Machine.execTallyHeartbeatExpiry s
  | .censusAgeExpiry address => Sys2Proof.Machine.execCensusAgeExpiry address s
  | .tick => Sys2Proof.Machine.execTick s
  | .posting slot => Sys2Proof.Machine.execPosting slot s
  | .bandFlip => Sys2Proof.Machine.execBandFlip s
  | .time body => Sys2Proof.Machine.execTime body s
  | .tariffLoad body => Sys2Proof.Machine.execTariffLoad body s
  | .charge c => Sys2Proof.Machine.execCharge c s
  | .chargeApplication => Sys2Proof.Machine.execChargeApplication s
  | .accountLoad body => Sys2Proof.Machine.execAccountLoad body s
  | .accountRead body => Sys2Proof.Machine.execAccountRead body s
  | .deposit body => Sys2Proof.Machine.execDeposit body s
  | .unlock body => Sys2Proof.Machine.execUnlock body s
  | .hostCommandAccessEnd => Sys2Proof.Machine.execHostCommandAccessEnd s
  | .hold body => Sys2Proof.Machine.execHold body s
  | .release body => Sys2Proof.Machine.execRelease body s
  | .holdTimerExpiry => Sys2Proof.Machine.execHoldTimerExpiry s
  | .scrubTimerExpiry => Sys2Proof.Machine.execScrubTimerExpiry s
  | .scrubStep => Sys2Proof.Machine.execScrubStep s
  | .storeProbe body => Sys2Proof.Machine.execStoreProbe body s
  | .storeFlip body => Sys2Proof.Machine.execStoreFlip body s
  | .storeClearComplete => Sys2Proof.Machine.execStoreClearComplete s
  | .spareSet body => Sys2Proof.Machine.execSpareSet body s
  | .migrationStepTimerExpiry => Sys2Proof.Machine.execMigrationStepTimerExpiry s
  | .migrationStep => Sys2Proof.Machine.execMigrationStep s
  | .frameReceived bytes broken => Sys2Proof.Machine.execFrameReceived bytes broken s
  | .busIdle => Sys2Proof.Machine.execBusIdle s
  | .transmissionStart slot => Sys2Proof.Machine.execTransmissionStart slot s
  | .frameSent => Sys2Proof.Machine.execFrameSent s
  | .readBackMismatch => Sys2Proof.Machine.execReadBackMismatch s
  | .data d => Sys2Proof.Machine.execData d s
  | .configure body => Sys2Proof.Machine.execConfigure body s
  | .statusRead body => Sys2Proof.Machine.execStatusRead body s
  | .stationReset body straps => Sys2Proof.Machine.execStationReset body straps s
  | .faultRead body => Sys2Proof.Machine.execFaultRead body s
  | .faultClear body => Sys2Proof.Machine.execFaultClear body s
  | .faultSetup body => Sys2Proof.Machine.execFaultSetup body s
  | .supplyBelowWarn => Sys2Proof.Machine.execSupplyBelowWarn s
  | .supplyAboveWarn => Sys2Proof.Machine.execSupplyAboveWarn s
  | .recoveryTimerExpiry => Sys2Proof.Machine.execRecoveryTimerExpiry s
  | .supplyBelowReset => Sys2Proof.Machine.execSupplyBelowReset s
  | .powerApplied => Sys2Proof.Machine.execPowerApplied s
  | .supplyAboveReset straps => Sys2Proof.Machine.execSupplyAboveReset straps s
  | .resetPinAsserted => Sys2Proof.Machine.execResetPinAsserted s
  | .resetPinReleased straps => Sys2Proof.Machine.execResetPinReleased straps s
  | .trainStart => Sys2Proof.Machine.execTrainStart s

end Sys2Proof.Machine
end

