-- ==== Sys2Proof/WellFormed.lean ====
section
/-! DEFINITION. Well-formed commands: those whose operands the part's leads, pins and frames can spell. Lines, slots and
addresses are bounded by their types. -/

namespace Sys2Proof

/-- A handle that three bytes can carry (10_rack_bus.md, Formats). -/
def Handle.wf (h : Handle) : Bool := h.station < 256 && h.slot < 256 && h.generation < 256

/-- A number that three bytes can carry. -/
def wf24 (n : Nat) : Bool := n < 16777216

/-- A balance that three bytes in two's complement can carry. -/
def wfBalance (b : Int) : Bool := decide (-8388608 ≤ b) && decide (b ≤ 8388607)

/-- A body that a frame can carry: at most 40 bytes (R164). -/
def wfBody (b : List Byte) : Bool := b.length ≤ 40

/-- A seven-bit character code (R13). -/
def wfChar (c : Nat) : Bool := c < 128

/-- A source that a frame which has cleared the checks can name (R164). -/
def wfSource (a : Nat) : Bool := a < 16

def ClaimBody.wf (c : ClaimBody) : Bool :=
  c.handle.wf && wf24 c.account && wf24 c.digest && decide (c.speedClass < 256) && decide (c.line < 256)

/-- R164 refuses an account class above 7. -/
def GrantBody.wf (g : GrantBody) : Bool :=
  g.handle.wf && wf24 g.account && decide (g.acctClass ≤ 7) && (match g.oldHandle with | none => true | some h => h.wf)

def DenyBody.wf (d : DenyBody) : Bool := d.handle.wf && wf24 d.account

def ChargeBody.wf (c : ChargeBody) : Bool :=
  c.handle.wf && wf24 c.account && decide (c.home < 256) && wf24 c.total

def CutoffBody.wf (c : CutoffBody) : Bool := c.handle.wf && wf24 c.account && wfBalance c.balance

def RefuseBody.wf (r : RefuseBody) : Bool := r.handle.wf && wf24 r.account && wf24 r.total

def DetachBody.wf (d : DetachBody) : Bool := d.handle.wf && wf24 d.account

def TallyBody.wf (t : TallyBody) : Bool := t.count < 256

/-- At most 32 characters of seven bits (R164, formats: DATA has 4 to 36 bytes). -/
def DataBody.wf (d : DataBody) : Bool := d.handle.wf && decide (d.chars.length ≤ 32) && d.chars.all wfChar

/-- Four address straps (R188). -/
def Straps.wf (p : Straps) : Bool := p.address < 16

/-- A command that can be spelled. -/
def Instr.wf : Instr → Bool
  | .ringBurst _ => true
  | .burstEnd _ => true
  | .ringSeriesTimerExpiry _ => true
  | .carrierPresence _ => true
  | .answerTimerExpiry _ => true
  | .carrierLoss _ => true
  | .hangUpHoldTimerExpiry _ => true
  | .receiverArmed _ => true
  | .speedIntervalEnd _ _ => true
  | .speedDecodeEnd _ code _ => wfChar code
  | .speedDetectTimerExpiry _ => true
  | .character _ code => wfChar code
  | .framingError _ => true
  | .lineBreak _ => true
  | .dataTriggerAge _ => true
  | .signOnTimerExpiry _ => true
  | .transmitCharacter _ => true
  | .claimTimerExpiry _ => true
  | .grant source g => wfSource source && g.wf
  | .deny source d => wfSource source && d.wf
  | .claim c => c.wf
  | .claimEvaluation => true
  | .detach d => d.wf
  | .tally source t => wfSource source && t.wf
  | .silenceTimerExpiry h => h.wf
  | .detachGraceExpiry _ => true
  | .cutoff c => c.wf
  | .cutoffGraceExpiry _ => true
  | .refuse r => r.wf
  | .forceOff b => wfBody b
  | .tallyHeartbeatExpiry => true
  | .censusAgeExpiry a => decide (a ≠ 0)
  | .tick => true
  | .posting _ => true
  | .bandFlip => true
  | .time b => wfBody b
  | .tariffLoad b => wfBody b
  | .charge c => c.wf
  | .chargeApplication => true
  | .accountLoad b => wfBody b
  | .accountRead b => wfBody b
  | .deposit b => wfBody b
  | .unlock b => wfBody b
  | .hostCommandAccessEnd => true
  | .hold b => wfBody b
  | .release b => wfBody b
  | .holdTimerExpiry => true
  | .scrubTimerExpiry => true
  | .scrubStep => true
  | .storeProbe b => wfBody b
  | .storeFlip b => wfBody b
  | .storeClearComplete => true
  | .spareSet b => wfBody b
  | .migrationStepTimerExpiry => true
  | .migrationStep => true
  | .frameReceived _ _ => true
  | .busIdle => true
  | .transmissionStart _ => true
  | .frameSent => true
  | .readBackMismatch => true
  | .data d => d.wf
  | .configure b => wfBody b
  | .statusRead b => wfBody b
  | .stationReset b p => wfBody b && p.wf
  | .faultRead b => wfBody b
  | .faultClear b => wfBody b
  | .faultSetup b => wfBody b
  | .supplyBelowWarn => true
  | .supplyAboveWarn => true
  | .recoveryTimerExpiry => true
  | .supplyBelowReset => true
  | .powerApplied => true
  | .supplyAboveReset p => p.wf
  | .resetPinAsserted => true
  | .resetPinReleased p => p.wf
  | .trainStart => true

end Sys2Proof
end

