-- ==== Sys2Proof/Safety.lean ====
section
/-! DEFINITION. What the statements about every step speak of: the conditions that the manual says always hold of the
station, each as a predicate of a state on its own. A run is safe when each of them holds of every state it reaches and no
step of it ends in a fault. -/

namespace Sys2Proof.Machine

/-- The record store's words are in their canonical form. -/
def State.wordsCanonical (s : State) : Prop := s.store.words.wf = true

/-- The transmit queue holds at most 24 entries (R169). -/
def State.queueFits (s : State) : Prop := s.bus.queue.length ≤ 24

/-- At most one entry of the transmit queue is IN_FLIGHT (R167, R169). -/
def State.oneInFlight (s : State) : Prop := s.bus.queue.countP (fun e => e.inFlight) ≤ 1

/-- A line is RINGING only while the station has answering permission (R3). -/
def State.ringingPermitted (s : State) : Prop := ∀ l : Fin 8, s.lines[l].state = .ringing → s.permission = true

/-- The line states in which the line timer may run (R1). -/
def LineState.timed : LineState → Bool
  | .ringing => true | .answering => true | .speedDetect => true | .hangup .holding => true | _ => false

/-- The line states in which the line has a served slot (R1). -/
def LineState.served : LineState → Bool
  | .claiming => true | .online => true | _ => false

/-- The line states in which the line has a dialogue context (R35). -/
def LineState.inDialogue : LineState → Bool
  | .speedDetect => true | .signOn => true | .claiming => true | _ => false

/-- A line unit has what its state gives it: a served slot exactly in CLAIMING and ONLINE, a dialogue context exactly in
SPEED_DETECT, SIGNON and CLAIMING, and a line timer only in the states that use one (R1, R35). -/
def Line.shaped (l : Line) : Prop :=
  (l.servedSlot.isSome = l.state.served) ∧ (l.dialogue.isSome = l.state.inDialogue) ∧
    (l.timer.isSome = true → l.state.timed = true)

/-- Every line unit has what its state gives it (R1, R35). -/
def State.linesShaped (s : State) : Prop := ∀ l : Fin 8, s.lines[l].shaped

/-- A receive ring holds at most 32 characters and a transmit ring at most 64 (R22, R30). -/
def State.ringsFit (s : State) : Prop := ∀ l : Fin 8, s.lines[l].rxRing.length ≤ 32 ∧ s.lines[l].txCount ≤ 64

/-- While a password is typed the running digest is the digest of the characters in the entry buffer (R39). -/
def State.digestsAgree (s : State) : Prop :=
  ∀ (l : Fin 8) (d : Dialogue), s.lines[l].dialogue = some d → d.phase = .password → d.step = .entry →
    d.digest = digestOf d.entry

/-- The home session list holds at most 48 entries and the quarantine list at most 8 (R56, R158). -/
def State.homeFits (s : State) : Prop := s.home.list.length ≤ 48 ∧ s.home.quarantine.length ≤ 8

/-- The census entries of address 0 and of the own address stay absent (R90), and during a reset, at whose end the own address
is latched, every entry is absent (R93, R188). -/
def State.ownCensusAbsent (s : State) : Prop :=
  s.bus.census[0] = none ∧ (∀ a : Fin 16, a.val = s.own → s.bus.census[a] = none) ∧
    (s.inReset = true → ∀ a : Fin 16, s.bus.census[a] = none)

/-- The selected-fault counter is at most 127 (R178). -/
def State.faultCountFits (s : State) : Prop := s.faults.count ≤ 127

/-- The transmit queue holds at most one CHARGE for a handle, one TALLY, and one DATA entry for a line (R169). -/
def State.queueUnrepeated (s : State) : Prop :=
  (∀ h : Handle, s.bus.queue.countP (Entry.chargesFor h) ≤ 1) ∧ s.bus.queue.countP Entry.isTally ≤ 1 ∧
    ∀ l : Fin 8, s.bus.queue.countP (Entry.dataOn l) ≤ 1

/-- A session record in this state is bound to a line: CLAIMING and not abandoned, ACTIVE or CUTOFF_GRACE (R44, R51, R78). -/
def Session.holdsLine (x : Session) : Prop :=
  x.state = .claiming ∧ x.abandoned = false ∨ x.state = .active ∨ x.state = .cutoffGrace

/-- Lines and sessions are bound to each other (R78): a line's served slot holds the session that is bound to it, CLAIMING on a
CLAIMING line and ACTIVE or CUTOFF_GRACE on an ONLINE one; a session bound to a line is the one that line serves; the sessions
that hold a line, and no others, are bound to one. -/
def State.linesAndSessionsBound (s : State) : Prop :=
  (∀ (l : Fin 8) (k : Fin 12), s.lines[l].servedSlot = some k →
    ∃ x : Session, s.table.slots[k].session = some x ∧ x.line = some l ∧
      (s.lines[l].state = .claiming ∧ x.state = .claiming ∨
        s.lines[l].state = .online ∧ (x.state = .active ∨ x.state = .cutoffGrace))) ∧
  (∀ (k : Fin 12) (x : Session), s.table.slots[k].session = some x →
    (∀ l : Fin 8, x.line = some l → s.lines[l].servedSlot = some k) ∧ (x.line ≠ none ↔ x.holdsLine))

/-- The serving detach order lists the slots of the DETACHED sessions, each once (R79). -/
def State.detachOrderExact (s : State) : Prop :=
  s.table.detachOrder.Nodup ∧ ∀ k : Fin 12, k ∈ s.table.detachOrder ↔
    ∃ x : Session, s.table.slots[k].session = some x ∧ x.state = .detached

/-- A context waits for a slot only on a line in SIGNON (R35, R43); a final CHARGE queued for a slot is that of the ENDING session
in it (R87); and during a reset the session table and the transmit queue are empty (R92, R175). -/
def State.waitsAndFinalsPlaced (s : State) : Prop :=
  (∀ (l : Fin 8) (d : Dialogue), s.lines[l].dialogue = some d → d.step = .slotWait → s.lines[l].state = .signOn) ∧
  (∀ e ∈ s.bus.queue, ∀ (c : ChargeBody) (k : Fin 12), e.payload = .charge c (some k) →
    c.handle = s.handleAt k ∧ ∃ x : Session, s.table.slots[k].session = some x ∧ x.state = .ending) ∧
  (s.inReset = true → s.bus.queue = [] ∧ ∀ k : Fin 12, s.table.slots[k].session = none)

/-- The entries of the home session list have distinct handles, the home's detach order lists those of its DETACHED entries, each
once, and its MOVING entries have a successor (R56); and the CLAIM that the home is taking has the handle of no entry (R58). -/
def State.homeListConsistent (s : State) : Prop :=
  s.home.list.Pairwise (fun x y => x.handle ≠ y.handle) ∧ s.home.detachOrder.Nodup ∧
    (∀ h : Handle, h ∈ s.home.detachOrder ↔ ∃ e ∈ s.home.list, e.handle = h ∧ e.state = .detached) ∧
    (∀ e ∈ s.home.list, e.successor.isSome = true ↔ e.state = .moving) ∧
    ∀ c : ClaimBody, s.home.work = some (.claim c) → ∀ e ∈ s.home.list, e.handle ≠ c.handle

/-- The tariff entries, the sessions' totals, remainders and post counters and the meter overflow count keep their ranges (R98,
R102, R103, R106). -/
def State.meterFits (s : State) : Prop :=
  (∀ i : Fin 64, s.meter.tariffs[i].rate ≤ 4095 ∧ s.meter.tariffs[i].surcharge ≤ 255) ∧ s.meter.overflow ≤ 65535 ∧
    ∀ (k : Fin 12) (x : Session), s.table.slots[k].session = some x →
      x.total ≤ 16777215 ∧ x.remainder ≤ 999 ∧ x.postCounter ≤ 59

/-- Every account and word that the home, the host-command path, migration and scrub work on lies in the home range and the record
store (R54, R114, R123, R131, R144, R146, R147, R154); outside IN_SERVICE, and during a reset, the home has neither range nor
work (R75, R130). -/
def State.withinStore (s : State) : Prop :=
  s.home.count ≤ 512 ∧ s.store.scrubPointer < 2048 ∧ (∀ m : Migration, s.store.migration = some m → m.pointer < 256) ∧
  (s.station.state ≠ .inService ∨ s.inReset = true → s.home.count = 0 ∧ s.home.list = [] ∧ s.home.backlog = [] ∧ s.home.work = none ∧
    s.store.hostWork = none) ∧
  (∀ e ∈ s.home.list, s.home.inRange e.account = true) ∧ (∀ b ∈ s.home.backlog, s.home.inRange b.account = true) ∧
  (∀ c : ClaimBody, s.home.work = some (.claim c) → s.home.inRange c.account = true) ∧
  (∀ h a total final drained, s.home.work = some (.charge h a total final drained) → s.home.inRange a = true) ∧
  (∀ w : HostWork, s.store.hostWork = some w → match w with
    | .accountLoad l => s.home.inRange l.account = true
    | .accountRead a => s.home.inRange a = true
    | .deposit a _ => s.home.inRange a = true
    | .unlock a => s.home.inRange a = true
    | .probe n => n < 2048
    | .flip n _ => n < 2048)

/-- What the lines, the sessions and the queue's final CHARGEs keep of each other (R1, R35, R78, R79, R87, R169). -/
def State.callsConsistent (s : State) : Prop :=
  s.linesShaped ∧ s.linesAndSessionsBound ∧ s.detachOrderExact ∧ s.waitsAndFinalsPlaced ∧ s.queueUnrepeated

/-- The frame that a command hands to its block (R165), if the command is the taking of a frame. -/
def carried : Instr → Option Handed
  | .grant a g => some (.grant a g)
  | .deny a d => some (.deny a d)
  | .claim c => some (.claim c)
  | .detach d => some (.detach d)
  | .tally a t => some (.tally a t)
  | .cutoff c => some (.cutoff c)
  | .refuse r => some (.refuse r)
  | .charge c => some (.charge c)
  | .data d => some (.data d)
  | .forceOff b => some (.command .forceOff b)
  | .time b => some (.command .time b)
  | .tariffLoad b => some (.command .tariffLoad b)
  | .accountLoad b => some (.command .accountLoad b)
  | .accountRead b => some (.command .accountRead b)
  | .deposit b => some (.command .deposit b)
  | .unlock b => some (.command .unlock b)
  | .hold b => some (.command .hold b)
  | .release b => some (.command .release b)
  | .storeProbe b => some (.command .storeProbe b)
  | .storeFlip b => some (.command .storeFlip b)
  | .spareSet b => some (.command .spareSet b)
  | .configure b => some (.command .configure b)
  | .statusRead b => some (.command .statusRead b)
  | .stationReset b _ => some (.command .stationReset b)
  | .faultRead b => some (.command .faultRead b)
  | .faultClear b => some (.command .faultClear b)
  | .faultSetup b => some (.command .faultSetup b)
  | _ => none

/-- The block can take the frame at this event: the station serves it (R165), and neither a frame before it nor the block's
own work makes it wait (R55, R138, R167). -/
def State.takesNow (s : State) (f : Handed) : Prop := s.serves f = true ∧ s.mustWait f = false

/-- The state in which the block takes the frame: it has left the frames handed over. -/
def State.taking (s : State) (f : Handed) : State := { s with bus := { s.bus with handed := s.bus.handed.erase f } }

/-- The state with a frame joined to the transmit queue, WAITING behind every entry there. -/
def State.queued (s : State) (destination : Nat) (p : Payload) : State :=
  s.setQueue (s.bus.queue ++ [{ destination := destination, payload := p, inFlight := false, mismatches := 0 }])

/-- The state with a RESULT joined to the transmit queue (10_rack_bus.md, Formats). -/
def State.answered (s : State) (kind : CommandKind) (code : ResultCode) (data : List Byte) : State :=
  s.queued 0 (.reply .result (resultBody kind code data))

/-- The account of a session closed: the total after rounding half up (R105). -/
def finalTotal (x : Session) : Nat :=
  if x.remainder < 500 then x.total else if x.total < Config.maxCredits then x.total + 1 else x.total

/-- The state with an entry of the home session list removed as an orphan and its fault logged (R66); the rewrite of R69 for
a MOVING entry is not in it. -/
def State.orphaned (s : State) (e : HomeEntry) : State :=
  logFault .orphanExpired { Subject.blank with handle := some e.handle, account := some e.account, total := some e.applied }
    { s with home := { s.home with list := s.home.list.filter (fun x => decide (x.handle ≠ e.handle)),
                                   detachOrder := s.home.detachOrder.filter (fun h => decide (h ≠ e.handle)) } }

/-- The state with the waiting GRANTs REATTACH for a successor handle made kind NEW, without their old handle, whichever it is (R69,
R171, log entry 47). -/
def State.grantsMadeNew (s : State) (successor : Option Handle) : State :=
  s.setQueue (s.bus.queue.map (fun e =>
    match e.payload with
    | .grant g => if successor = some g.handle ∧ e.inFlight = false then
        { e with payload := .grant { g with oldHandle := none } } else e
    | _ => e))

/-- The state with an entry of the home session list removed as an orphan, whole (R66, R69). -/
def State.orphanGone (s : State) (e : HomeEntry) : State :=
  if e.state = .moving then (s.orphaned e).grantsMadeNew e.successor else s.orphaned e

/-- The state after an access whose effect left `v`: no access in progress, then the arbiter at work (R139). -/
def State.accessOver (v : State) : State := settleStore { v with store := { v.store with access := none } }

/-- The state after the access of the host-command path whose effect left `v` (R138, R139). -/
def State.hostOver (v : State) : State := { v with store := { v.store with hostWork := none } }.accessOver

/-- The code position at which the decode takes a stored column under a mapping (R134, step 1): the spare column is taken
for the position that the mapping names, and that position's own column is ignored. -/
def columnTaken (mapping : Option Nat) (column : Nat) : Option Nat :=
  match mapping with
  | none => if column = 39 then none else some column
  | some p => if column = 39 then some p else if column = p then none else some column

/-- What a PIN or COMMAND reset leaves of the blocks beside the lines, the supply and the station's own fields: the generations,
the tariffs and the overflow count, the unbilled counter, the fault log but for station time, and the store with its spare
map, its counters and flags and its suspended migration (R93, R112, R130, R149, R157, R175, R185). An access that the reset
cuts off leaves each of its words as it was or as the access writes it, the written ones being its first, and no other word
changes (R139); a step of migration is made whole, but for its counting (log entry 7), or not at all (R157). -/
def State.keptAcross (s t : State) : Prop :=
  t.table = { SessionTable.cleared with slots := s.table.slots.map (fun k => { Slot.cleared with generation := k.generation }) } ∧
  t.meter = { Meter.cleared with tariffs := s.meter.tariffs, overflow := s.meter.overflow } ∧
  t.home = { Home.cleared with unbilled := s.home.unbilled } ∧
  t.bus = Bus.cleared ∧ t.faults = { s.faults with stationTime := 0 } ∧ t.pending = s.pending ∧
  t.store = { Store.cleared with
    words := t.store.words, clearComplete := s.store.clearComplete, spareMap := t.store.spareMap,
    corrected := t.store.corrected, advised := t.store.advised, scrubPointer := s.store.scrubPointer,
    migration := t.store.migration } ∧
  (s.store.access ≠ some .migration →
    t.store.migration = s.store.migration.map (fun m => { m with timerRunning := false }) ∧
    t.store.spareMap = s.store.spareMap ∧ t.store.corrected = s.store.corrected ∧ t.store.advised = s.store.advised) ∧
  (s.store.access = none → t.store.words = s.store.words ∧ t.freeDraws = s.freeDraws) ∧
  (s.wordsCanonical → ∀ n : Nat, t.store.words.read n = s.store.words.read n ∨
    n ∈ s.accessWords ∧ t.store.words.read n = (accessEffect s).store.words.read n) ∧
  (s.wordsCanonical → (∀ n ∈ s.accessWords, n < 2048) → ∃ written : Nat, ∀ n : Nat,
    t.store.words.read n = if n ∈ s.accessWords.take written then (accessEffect s).store.words.read n
                           else s.store.words.read n) ∧
  (∀ (m : Migration) (n : Nat), s.store.access = some .migration → s.store.migration = some m → m.pointer < 256 →
    n = 256 * m.segment.val + m.pointer →
    (t.store.words = s.store.words ∧ t.store.migration = some { m with timerRunning := false } ∧
      t.store.spareMap = s.store.spareMap ∧ t.store.corrected = s.store.corrected ∧ t.store.advised = s.store.advised) ∨
    (t.store.words = s.store.words.write n ((accessEffect s).store.words.read n) ∧
      (m.pointer < 255 → t.store.migration = some { m with pointer := m.pointer + 1, timerRunning := false } ∧
        t.store.spareMap = s.store.spareMap ∧ t.store.corrected = s.store.corrected ∧ t.store.advised = s.store.advised) ∧
      (m.pointer = 255 → t.store.migration = none ∧
        t.store.spareMap = s.store.spareMap.set m.segment m.pendingEntry ∧
        t.store.corrected = s.store.corrected.set m.segment 0 ∧
        t.store.advised = s.store.advised.set m.segment false)))

end Sys2Proof.Machine
end

