-- ==== Sys2Proof/Certificates/Slice0/Obligations.lean ====
section
/-! DEFINITION. The statements for the provers. A statement says what a command answers as the next state written out: what
that state does not name is as before. Where a rule leaves an outcome to another rule, the statement names the shared
operation that the other rule's own statement is about. -/

open Sys2Proof Sys2Proof.Machine

/-! ### The block -/

/-- A step runs the command at the front of the queue with the queue's rest; on an empty queue the block idles (log entry 1). -/
def Obligations.StepRunsTheFrontCommand : Prop :=
  ∀ s : State,
    (∀ (c : Instr) (rest : List Instr), s.pending = c :: rest → step s = exec c { s with pending := rest }) ∧
    (s.pending = [] → step s = .next s)

/-! ### Lines and calls -/

/-- R5, with R4 for the bursts that are not counted; R3: without permission an IDLE line counts no burst; R4: outside IDLE and
RINGING ring indication has no effect. That a burst with the filter PRESENT changes nothing is the model's reading (log
entry 1). -/
def Obligations.RingBurstCountsAndAnswers : Prop :=
  (∀ (l : Fin 8) (s : State) (x : Settings) (n : Nat), s.inReset = false → s.station.settings = some x →
    (s.lines[l].state = .idle ∧ s.permission = true ∧ n = 1 ∨
      s.lines[l].state = .ringing ∧ n = s.lines[l].ringCount + 1) →
    (s.lines[l].ringFilter = .absent → n < x.answerRings →
      exec (.ringBurst l) s = .next (s.setLine l
        { s.lines[l] with state := .ringing, ringCount := n, timer := none, ringFilter := .present })) ∧
    (s.lines[l].ringFilter = .absent → x.answerRings ≤ n →
      exec (.ringBurst l) s = .next (s.setLine l
        { s.lines[l] with state := .answering, ringCount := 0, timer := some 30, ringFilter := .absent,
                          terminalReady := true, carrierFilter := .absent })) ∧
    (s.lines[l].ringFilter = .present → exec (.ringBurst l) s = .next s)) ∧
  (∀ (l : Fin 8) (s : State),
    (s.lines[l].state = .idle ∧ s.permission = false ∨ (s.lines[l].state ≠ .idle ∧ s.lines[l].state ≠ .ringing)) →
    exec (.ringBurst l) s = .next s)

/-- R6; R8; R12 for the speed-detect timer; R19 for the hang-up hold timer, whose expiry changes nothing else of the
line. A timer at 0 is one whose expiry is due, and the event without one changes nothing (log entries 4, 1). -/
def Obligations.LineTimersAndCarrierPresence : Prop :=
  (∀ (l : Fin 8) (s : State), s.inReset = false → s.lines[l].state = .ringing →
    (s.lines[l].ringFilter = .present →
      exec (.burstEnd l) s = .next (s.setLine l { s.lines[l] with ringFilter := .absent, timer := some 8 })) ∧
    (s.lines[l].timer = some 0 →
      exec (.ringSeriesTimerExpiry l) s = .next (s.setLine l
        { s.lines[l] with state := .idle, ringCount := 0, timer := none })) ∧
    (s.lines[l].timer ≠ some 0 → exec (.ringSeriesTimerExpiry l) s = .next s)) ∧
  (∀ (l : Fin 8) (s : State), s.inReset = false → s.lines[l].state = .hangup .holding →
    (s.lines[l].timer = some 0 →
      exec (.hangUpHoldTimerExpiry l) s = .next (s.setLine l { s.lines[l] with state := .idle, timer := none })) ∧
    (s.lines[l].timer ≠ some 0 → exec (.hangUpHoldTimerExpiry l) s = .next s)) ∧
  (∀ (l : Fin 8) (s : State), s.inReset = false →
    (s.lines[l].state = .answering → s.lines[l].carrierFilter = .absent →
      exec (.carrierPresence l) s = .next (s.setLine l
        { s.lines[l] with carrierFilter := .present, state := .speedDetect, timer := some 20, receiver := .disarmed,
                          dialogue := some { phase := .user, step := .entry, entry := [], userNumber := none, digest := 0,
                                             attempts := 0, speedAttempts := 0, timer := none, awaitedSlot := none } })) ∧
    (s.lines[l].state ≠ .answering → s.lines[l].state ≠ .disabled →
      exec (.carrierPresence l) s = .next (s.setLine l { s.lines[l] with carrierFilter := .present })) ∧
    (s.lines[l].timer = some 0 → s.lines[l].state = .answering →
      exec (.answerTimerExpiry l) s = .next (hangUpDirect l s)) ∧
    (s.lines[l].timer = some 0 → s.lines[l].state = .speedDetect →
      exec (.speedDetectTimerExpiry l) s = .next (hangUpDirect l s)))

/-- R18, R19, R26: what the two ways into HANGUP leave, whole: the line, and the DATA entry that the line has queued. One that
waits is withdrawn, and its place is offered (R171), which may drop an owed TALLY, log that fault (R88) and so send RINGING lines
to IDLE (R3); one in flight goes on as it was filled, marked as one whose ring has been cleared. A RINGING line is never hung up.
The order of the offer and the line's change is the model's choice (log entry 34). -/
def Obligations.HangUpDrainsOrHolds : Prop :=
  ∀ (l : Fin 8) (s : State) (holding draining : Line), s.lines[l].state ≠ .ringing →
    holding = { s.lines[l] with state := .hangup .holding, terminalReady := false, ringCount := 0, timer := some 2,
                                servedSlot := none, dialogue := none, receiver := .idle, sending := none, rxRing := [],
                                pendingBreak := none, txStation := [], txHost := [] } →
    draining = { s.lines[l] with state := .hangup .draining, servedSlot := none, dialogue := none, receiver := .idle,
                                 rxRing := [], pendingBreak := none } →
    (∀ t : State, (t = hangUpDirect l s ∨ t = hangUp l s) →
      t = { s with lines := t.lines, table := t.table, bus := t.bus, faults := t.faults } ∧
      (∀ m : Fin 8, m ≠ l → s.lines[m].state ≠ .ringing → t.lines[m] = s.lines[m]) ∧
      (s.bus.queue.any (Entry.dataOn l) = false → t = s.setLine l t.lines[l])) ∧
    (∀ t : State, (t = hangUpDirect l s ∨
        t = hangUp l s ∧ (s.lines[l].state = .signOn ∨ s.lines[l].state = .claiming ∨ s.lines[l].state = .online)) →
      ∀ (before after : List Entry) (e : Entry), s.bus.queue = before ++ e :: after → Entry.dataOn l e = true →
        (∀ y ∈ before ++ after, Entry.dataOn l y = false) →
        (e.inFlight = false →
          t = (offerFreed ((s.setLine l { s.lines[l] with rxRing := [], pendingBreak := none }).setQueue
            (before ++ after))).setLine l t.lines[l]) ∧
        (∀ (h : Handle) (f : DataFill), e.inFlight = true → e.payload = .data l h (some f) →
          t = (s.setQueue (before ++ { e with payload := .data l h (some { f with ringCleared := true }) } :: after)).setLine l
            t.lines[l])) ∧
    (hangUpDirect l s).lines[l] = holding ∧
    (s.lines[l].state = .signOn ∨ s.lines[l].state = .claiming ∨ s.lines[l].state = .online →
      (hangUp l s).lines[l] = if s.lines[l].txStation = [] ∧ s.lines[l].txHost = [] then holding else draining) ∧
    (s.lines[l].state ≠ .signOn ∧ s.lines[l].state ≠ .claiming ∧ s.lines[l].state ≠ .online → hangUp l s = s)

/-- R10 to R12: the receiver's arming, the classes of intervals, the lock, and the failed attempts before the fifth. -/
def Obligations.SpeedDetection : Prop :=
  ∀ (l : Fin 8) (s : State) (d : Dialogue), s.inReset = false → s.lines[l].state = .speedDetect →
    s.lines[l].dialogue = some d →
    (s.lines[l].receiver = .disarmed →
      exec (.receiverArmed l) s = .next (s.setLine l { s.lines[l] with receiver := .armed })) ∧
    (∀ micros c : Nat, s.lines[l].receiver = .armed →
      (6000 ≤ micros ∧ c = 0 ∨ 2500 ≤ micros ∧ micros < 6000 ∧ c = 1 ∨ 1250 ≤ micros ∧ micros < 2500 ∧ c = 2 ∨
        600 ≤ micros ∧ micros < 1250 ∧ c = 3) →
      exec (.speedIntervalEnd l micros) s = .next (s.setLine l { s.lines[l] with receiver := .decoding c })) ∧
    (∀ c : Nat, s.lines[l].receiver = .decoding c →
      exec (.speedDecodeEnd l 13 true) s = .next (s.setLine l (Line.place s.userPrompt
        { s.lines[l] with state := .signOn, speedClass := c, timer := none, receiver := .framing,
                          dialogue := some { d with phase := .user, step := .entry, entry := [], timer := some 60 } }))) ∧
    (∀ i : Instr,
      ((∃ micros, micros < 600 ∧ s.lines[l].receiver = .armed ∧ i = .speedIntervalEnd l micros) ∨
        (∃ c code stop, s.lines[l].receiver = .decoding c ∧ (code ≠ 13 ∨ stop = false) ∧
          i = .speedDecodeEnd l code stop)) →
      d.speedAttempts + 1 < 5 →
      exec i s = .next (s.setLine l
        { s.lines[l] with receiver := .disarmed, dialogue := some { d with speedAttempts := d.speedAttempts + 1 } })) ∧
    (∀ i : Instr,
      ((∃ micros, micros < 600 ∧ s.lines[l].receiver = .armed ∧ i = .speedIntervalEnd l micros) ∨
        (∃ c code stop, s.lines[l].receiver = .decoding c ∧ (code ≠ 13 ∨ stop = false) ∧
          i = .speedDecodeEnd l code stop)) →
      5 ≤ d.speedAttempts + 1 →
      exec i s = .next (hangUpDirect l s))

/-- R9, with R51, R80 and R83 for the session's side. -/
def Obligations.CarrierLossByLineState : Prop :=
  ∀ (l : Fin 8) (s u : State), s.inReset = false → s.lines[l].carrierFilter = .present →
    u = s.setLine l { s.lines[l] with carrierFilter := .absent } →
    (s.lines[l].state = .idle ∨ s.lines[l].state = .ringing ∨ s.lines[l].state = .hangup .holding →
      exec (.carrierLoss l) s = .next u) ∧
    (s.lines[l].state = .answering ∨ s.lines[l].state = .speedDetect ∨ s.lines[l].state = .signOn →
      exec (.carrierLoss l) s = .next (hangUpDirect l u)) ∧
    (s.lines[l].state = .hangup .draining →
      exec (.carrierLoss l) s = .next (s.setLine l
        { s.lines[l] with carrierFilter := .absent, state := .hangup .holding, terminalReady := false, txStation := [],
                          txHost := [], ringCount := 0, timer := some 2, sending := none })) ∧
    (∀ (k : Fin 12) (x : Session), s.lines[l].servedSlot = some k → s.table.slots[k].session = some x →
      (s.lines[l].state = .claiming → x.state = .claiming →
        exec (.carrierLoss l) s = .next
          ((hangUpDirect l u).modSession k (fun y => { y with abandoned := true, line := none }))) ∧
      (s.lines[l].state = .online → x.state = .active → 0 < s.detachGrace →
        exec (.carrierLoss l) s = .next (detachSession k x s.detachGrace (hangUpDirect l u))) ∧
      (s.lines[l].state = .online → x.state = .active → s.detachGrace = 0 →
        exec (.carrierLoss l) s = .next (endSession k .carrierLost (hangUpDirect l u))) ∧
      (s.lines[l].state = .online → x.state = .cutoffGrace →
        exec (.carrierLoss l) s = .next (endSession k .credit (hangUpDirect l u))))

/-! ### Character paths -/

/-- R22 and R24: a character of an ONLINE line joins its receive ring or is counted as overrun, and in CLAIMING it is
discarded; the offer of R24 is `offerData`, whose effect is stated here too. R13 to R15 and R23: framing errors and
breaks of a locked line, and that no other line takes characters. The receiver's state after a break and the renewed
offer are the model's choices (log entries 24, 31). -/
def Obligations.CharactersErrorsAndBreaks : Prop :=
  (∀ (l : Fin 8) (s : State) (c : Nat), s.inReset = false →
    (s.lines[l].state = .online → s.lines[l].rxRing.length < 32 →
      exec (.character l c) s = .next (offerData l (s.setLine l
        { s.lines[l] with receiver := .framing, rxRing := s.lines[l].rxRing ++ [{ code := c, aged := false }] }))) ∧
    (s.lines[l].state = .online → 32 ≤ s.lines[l].rxRing.length →
      exec (.character l c) s = .next (offerData l (s.setLine l
        { s.lines[l] with receiver := .framing, receiveOverruns := min 255 (s.lines[l].receiveOverruns + 1) }))) ∧
    (s.lines[l].state = .claiming →
      exec (.character l c) s = .next (s.setLine l { s.lines[l] with receiver := .framing })) ∧
    (∀ (rest : List RxChar), s.lines[l].state = .online → s.lines[l].rxRing = { code := c, aged := false } :: rest →
      exec (.dataTriggerAge l) s = .next (offerData l (s.setLine l
        { s.lines[l] with rxRing := { code := c, aged := true } :: rest }))) ∧
    (∀ k : Fin 12, s.lines[l].servedSlot = some k →
      (s.lines[l].state = .online → s.bus.queue.length < 24 → (∀ e ∈ s.bus.queue, Entry.dataOn l e = false) →
        (16 ≤ s.lines[l].rxRing.length ∨ s.lines[l].pendingBreak ≠ none ∨
          ∃ (x : RxChar) (rest : List RxChar), s.lines[l].rxRing = x :: rest ∧ x.aged = true) →
        offerData l s = s.setQueue (s.bus.queue ++
          [{ destination := 0, payload := .data l (s.handleAt k) none, inFlight := false, mismatches := 0 }])) ∧
      (s.lines[l].state ≠ .online ∨ 24 ≤ s.bus.queue.length ∨ (∃ e ∈ s.bus.queue, Entry.dataOn l e = true) ∨
          (s.lines[l].rxRing.length < 16 ∧ s.lines[l].pendingBreak = none ∧
            ∀ (x : RxChar) (rest : List RxChar), s.lines[l].rxRing = x :: rest → x.aged = false) →
        offerData l s = s))) ∧
  (∀ (l : Fin 8) (s : State), s.inReset = false →
    (s.lines[l].state = .signOn ∨ s.lines[l].state = .claiming ∨ s.lines[l].state = .online →
      exec (.framingError l) s = .next (s.setLine l
        { s.lines[l] with receiver := .framing, framingErrors := min 255 (s.lines[l].framingErrors + 1) })) ∧
    (s.lines[l].state = .signOn ∨ s.lines[l].state = .claiming →
      exec (.lineBreak l) s = .next (s.setLine l { s.lines[l] with receiver := .inBreak })) ∧
    (s.lines[l].state = .online → s.lines[l].pendingBreak = none →
      exec (.lineBreak l) s = .next (offerData l (s.setLine l
        { s.lines[l] with receiver := .inBreak, pendingBreak := some s.lines[l].rxRing.length }))) ∧
    (s.lines[l].state = .online → s.lines[l].pendingBreak ≠ none →
      exec (.lineBreak l) s = .next (offerData l (s.setLine l
        { s.lines[l] with receiver := .inBreak, receiveOverruns := min 255 (s.lines[l].receiveOverruns + 1) }))) ∧
    (s.lines[l].state ≠ .signOn ∧ s.lines[l].state ≠ .claiming ∧ s.lines[l].state ≠ .online →
      ∀ c : Nat, exec (.framingError l) s = .next s ∧ exec (.lineBreak l) s = .next s ∧
        exec (.character l c) s = .next s))

/-- R16, R18, R30: the transmitter takes STATION characters before HOST characters, in DRAINING to the ring's last one; what
finds the ring empty is the end of the last character, which brings a line in DRAINING to HOLDING. The table gives that end no
event of its own: this one is the model's choice (log entry 13). R16: the bits of the character being sent, marking as true. -/
def Obligations.TransmitterTakesStationFirst : Prop :=
  (∀ (l : Fin 8) (s : State), s.inReset = false →
    (s.lines[l].state = .signOn ∨ s.lines[l].state = .claiming ∨ s.lines[l].state = .online ∨
        s.lines[l].state = .hangup .draining →
      ∀ (c : Nat) (rest : List Nat),
        (s.lines[l].txStation = c :: rest →
          exec (.transmitCharacter l) s = .next (s.setLine l { s.lines[l] with txStation := rest, sending := some c })) ∧
        (s.lines[l].txStation = [] → s.lines[l].txHost = c :: rest →
          exec (.transmitCharacter l) s = .next (s.setLine l { s.lines[l] with txHost := rest, sending := some c }))) ∧
    (s.lines[l].txStation = [] → s.lines[l].txHost = [] →
      (s.lines[l].state = .signOn ∨ s.lines[l].state = .claiming ∨ s.lines[l].state = .online →
        exec (.transmitCharacter l) s = .next (s.setLine l { s.lines[l] with sending := none })) ∧
      (s.lines[l].state = .hangup .draining →
        exec (.transmitCharacter l) s = .next (s.setLine l
          { s.lines[l] with state := .hangup .holding, terminalReady := false, txStation := [], txHost := [],
                            ringCount := 0, timer := some 2, sending := none }))) ∧
    (s.lines[l].state ≠ .signOn ∧ s.lines[l].state ≠ .claiming ∧ s.lines[l].state ≠ .online ∧
        s.lines[l].state ≠ .hangup .draining →
      exec (.transmitCharacter l) s = .next s)) ∧
  (∀ x : Line, (x.sending = none → x.leadBits = []) ∧
    (∀ c : Nat, x.sending = some c → ∃ (data : List Bool) (parity : Bool),
      x.leadBits = false :: data ++ parity :: List.replicate (if x.speedClass = 0 then 2 else 1) true ∧
      data.length = 7 ∧ (∀ i : Nat, i < 7 → data[i]? = some (c.testBit i)) ∧ (parity :: data).count true % 2 = 0))

/-- R31, the whole of it: where a station text goes, what it removes, and that it changes nothing but its line. -/
def Obligations.StationTextPlaced : Prop :=
  ∀ (l : Fin 8) (s : State) (text : List Nat),
    (s.lines[l].state ≠ .signOn ∧ s.lines[l].state ≠ .claiming ∧ s.lines[l].state ≠ .online → placeText l text s = s) ∧
    (s.lines[l].state = .signOn ∨ s.lines[l].state = .claiming ∨ s.lines[l].state = .online →
      s.lines[l].txStation.length + s.lines[l].txHost.length ≤ 64 →
      ∃ kept dropped : List Nat, ∃ d : Nat,
        placeText l text s = s.setLine l
          { s.lines[l] with
            txStation := if s.lines[l].txStation.length + text.length ≤ 64 then s.lines[l].txStation ++ text
                         else s.lines[l].txStation,
            txHost := kept, outputDiscards := if d = 0 then s.lines[l].outputDiscards
                                              else min 255 (s.lines[l].outputDiscards + d) } ∧
        s.lines[l].txHost = kept ++ dropped ∧
        (s.lines[l].txStation.length + s.lines[l].txHost.length + text.length ≤ 64 → dropped = [] ∧ d = 0) ∧
        (64 < s.lines[l].txStation.length + s.lines[l].txHost.length + text.length →
          s.lines[l].txStation.length + text.length ≤ 64 →
          d = dropped.length ∧ s.lines[l].txStation.length + text.length + kept.length = 64) ∧
        (64 < s.lines[l].txStation.length + text.length → dropped = [] ∧ d = text.length))

/-- R27 to R29: a DATA frame from the host adapter that its station serves and that waits behind nothing. -/
def Obligations.HostDataToTheTerminal : Prop :=
  ∀ (s u : State) (d : DataBody), s.takesNow (.data d) → u = s.taking (.data d) →
    (∀ (k : Fin 12) (x : Session) (l : Fin 8), d.handle = s.handleAt k → s.table.slots[k].session = some x →
      (x.state = .active ∨ x.state = .cutoffGrace) → x.line = some l →
      ∀ (free : Nat) (v : State), free = 64 - (s.lines[l].txStation.length + s.lines[l].txHost.length) →
        v = u.setLine l { s.lines[l] with
              txHost := s.lines[l].txHost ++ d.chars.take free,
              outputDiscards := if d.chars.length ≤ free then min 255 s.lines[l].outputDiscards
                                else min 255 (s.lines[l].outputDiscards + (d.chars.length - free)) } →
        (d.hangUpFlag = false → exec (.data d) s = .next v) ∧
        (d.hangUpFlag = true → exec (.data d) s = .next (endSession k .normalHangup (hangUp l v)))) ∧
    ((∀ (k : Fin 12) (x : Session), d.handle = s.handleAt k → s.table.slots[k].session = some x →
        x.state ≠ .active ∧ x.state ≠ .cutoffGrace) →
      exec (.data d) s = .next
        { u with station := { s.station with outputDiscards := min 65535 (s.station.outputDiscards + 1) } })

/-! ### Signing on -/

/-- R37 to R40, with the echo of R33: every character of the USER phase and of the PASSWORD phase. The claim of a completed
PASSWORD entry is `claimFor`. That a receiver in a break leaves it with the next character is the model's choice (log entry
24). -/
def Obligations.SignOnEntriesEdited : Prop :=
  (∀ (l : Fin 8) (s : State) (d : Dialogue) (x : Line) (c : Nat), s.inReset = false → s.lines[l].state = .signOn →
    s.lines[l].dialogue = some d → d.phase = .user → d.step = .entry → x = { s.lines[l] with receiver := .framing } →
    (48 ≤ c → c ≤ 57 → d.entry.length < 6 →
      exec (.character l c) s = .next (s.setLine l
        (Line.place [c] { x with dialogue := some { d with entry := d.entry ++ [c] } }))) ∧
    (48 ≤ c → c ≤ 57 → 6 ≤ d.entry.length → exec (.character l c) s = .next (s.setLine l x)) ∧
    (c = 8 ∨ c = 127 → d.entry ≠ [] →
      exec (.character l c) s = .next (s.setLine l
        (Line.place [8, 32, 8] { x with dialogue := some { d with entry := d.entry.dropLast } }))) ∧
    (c = 8 ∨ c = 127 → d.entry = [] → exec (.character l c) s = .next (s.setLine l x)) ∧
    (c = 13 → d.entry = [] →
      exec (.character l c) s = .next (s.setLine l (Line.place s.userPrompt (Line.place [13, 10] x)))) ∧
    (c = 13 → d.entry ≠ [] →
      exec (.character l c) s = .next (s.setLine l (Line.place s.passwordPrompt (Line.place [13, 10]
        { x with dialogue := some { d with userNumber := some (d.entry.foldl (fun a e => 10 * a + (e - 48)) 0),
                                           entry := [], digest := 0, phase := .password } })))) ∧
    (c ≠ 8 → c ≠ 13 → c ≠ 127 → (c < 48 ∨ 57 < c) → exec (.character l c) s = .next (s.setLine l x))) ∧
  (∀ (l : Fin 8) (s : State) (d : Dialogue) (x : Line) (c : Nat), s.inReset = false → s.lines[l].state = .signOn →
    s.lines[l].dialogue = some d → d.phase = .password → d.step = .entry → x = { s.lines[l] with receiver := .framing } →
    (32 ≤ c → c ≤ 126 → d.entry.length < 12 →
      exec (.character l c) s = .next (s.setLine l
        { x with dialogue := some { d with entry := d.entry ++ [c], digest := (33 * d.digest + c) % 16777216 } })) ∧
    (32 ≤ c → c ≤ 126 → 12 ≤ d.entry.length → exec (.character l c) s = .next (s.setLine l x)) ∧
    (c = 8 ∨ c = 127 → d.entry ≠ [] →
      exec (.character l c) s = .next (s.setLine l
        { x with dialogue := some { d with entry := d.entry.dropLast,
                                           digest := d.entry.dropLast.foldl (fun a e => (33 * a + e) % 16777216) 0 } })) ∧
    (c = 8 ∨ c = 127 → d.entry = [] → exec (.character l c) s = .next (s.setLine l x)) ∧
    (c = 13 → d.entry = [] →
      exec (.character l c) s = .next (s.setLine l (Line.place s.passwordPrompt (Line.place [13, 10] x)))) ∧
    (c = 13 → d.entry ≠ [] →
      exec (.character l c) s = .next (claimFor l d (s.setLine l
        (Line.place [13, 10] { x with dialogue := some { d with entry := [] } })))) ∧
    (c ≠ 8 → c ≠ 13 → c < 32 → exec (.character l c) s = .next (s.setLine l x)))

/-- R41: the sign-on timer's expiry, in ENTRY and SLOT_WAIT. R45: the claim timer's expiry frees the slot; a slot that
is not abandoned has its line told and hung up. A timer at 0 is one whose expiry is due, and the event without one changes
nothing (log entries 4, 1). -/
def Obligations.SignOnAndClaimTimeOut : Prop :=
  (∀ (l : Fin 8) (s : State) (d : Dialogue), s.inReset = false → s.lines[l].dialogue = some d →
    (s.lines[l].state = .signOn → d.step = .entry ∨ d.step = .slotWait → d.timer = some 0 →
      exec (.signOnTimerExpiry l) s = .next (hangUp l (placeText l FixedText.timeOut.chars s))) ∧
    (d.timer ≠ some 0 ∨ d.step = .claimed → exec (.signOnTimerExpiry l) s = .next s)) ∧
  (∀ (k : Fin 12) (s u : State) (x : Session), s.inReset = false → s.table.slots[k].session = some x →
    s.table.slots[k].claimTimer = some 0 → x.state = .claiming →
    u = s.setSlot k { s.table.slots[k] with claimTimer := none, session := none } →
    (x.abandoned = true → exec (.claimTimerExpiry k) s = .next u) ∧
    (∀ l : Fin 8, x.abandoned = false → x.line = some l →
      exec (.claimTimerExpiry k) s = .next (hangUp l (placeText l FixedText.noResponse.chars u))))

/-- R42 to R44: the census check and slot reservation of a completed PASSWORD entry, in every case. `d` is the context as the
entry was completed, `c` as the line holds it. The suspended sign-on timer's 1 for one that is due is the model's reading
(log entry 4). -/
def Obligations.ClaimReservesASlot : Prop :=
  ∀ (l : Fin 8) (s : State) (d c : Dialogue) (x : Settings), s.lines[l].state = .signOn → s.lines[l].dialogue = some c →
    s.station.settings = some x →
    (x.sessionCap ≤ s.census → claimFor l d s = hangUp l (placeText l FixedText.systemFull.chars s)) ∧
    (s.census < x.sessionCap →
      (∀ k : Fin 12, s.table.slots[k].session = none → (∀ j : Fin 12, j < k → s.table.slots[j].session ≠ none) →
        claimFor l d s = reserveSlot k l d s) ∧
      ((∀ k : Fin 12, s.table.slots[k].session ≠ none) →
        (∀ (k : Fin 12) (rest : List (Fin 12)), s.table.detachOrder = k :: rest →
          claimFor l d s = endSession k .detachEvicted (s.setLine l
            { s.lines[l] with dialogue := some { c with step := .slotWait, awaitedSlot := some k } })) ∧
        (s.table.detachOrder = [] →
          claimFor l d s = hangUp l (placeText l FixedText.systemFull.chars s)))) ∧
    (∀ (k : Fin 12) (u : State),
      u = s.setSlot k { generation := (s.table.slots[k].generation + 1) % 256, replySource := none, claimTimer := none,
                        session := some { account := d.userNumber.getD 0, home := none, line := some l, state := .claiming,
                                          abandoned := false, acctClass := none, speedClass := s.lines[l].speedClass,
                                          total := 0, remainder := 0, postCounter := 0, grace := none, endCause := none,
                                          finalStatus := none, saturated := false } } →
      (s.bus.queue.length < 24 →
        reserveSlot k l d s = (u.queued 255 (.claim
          { handle := { station := s.own, slot := k, generation := (s.table.slots[k].generation + 1) % 256 },
            account := d.userNumber.getD 0, digest := d.digest, speedClass := s.lines[l].speedClass, line := l })).setLine l
          { s.lines[l] with state := .claiming, servedSlot := some k,
                            dialogue := some { c with step := .claimed, awaitedSlot := none,
                                                      timer := c.timer.map (fun n => max n 1) } }) ∧
      (24 ≤ s.bus.queue.length →
        reserveSlot k l d s = hangUp l (placeText l FixedText.noResponse.chars
          (u.setSlot k { u.table.slots[k] with session := none }))))

/-- R46, R47, R101: a GRANT that settles a claim makes its session ACTIVE. R70's last paragraph: where the same GRANT REATTACH
names an old session of this station, that session is then ended, by `settleOld`, which GrantReattachEndsTheOldSession states;
that the claim is settled first is the model's choice (log entry 9). -/
def Obligations.GrantMakesTheSessionLive : Prop :=
  ∀ (source : Nat) (g : GrantBody) (k : Fin 12) (l : Fin 8) (x : Session) (s u v : State),
    s.takesNow (.grant source g) → u = s.taking (.grant source g) →
    g.handle = s.handleAt k → s.table.slots[k].replySource = none → s.table.slots[k].session = some x →
    x.state = .claiming → x.abandoned = false → x.line = some l → s.lines[l].state = .claiming →
    v = (u.setSlot k
          { s.table.slots[k] with
            replySource := some source, claimTimer := none,
            session := some { x with home := some source, acctClass := some g.acctClass, state := .active, remainder := 0,
                                     postCounter := 0, saturated := false,
                                     total := if g.oldHandle = none then
                                                (s.meter.tariff x.speedClass g.acctClass).surcharge else 0 } }).setLine l
          (if g.oldHandle = none then { s.lines[l] with state := .online, dialogue := none }
           else Line.place FixedText.sessionResumed.chars { s.lines[l] with state := .online, dialogue := none }) →
    ((∀ (h : Handle) (y : Fin 12 × Session), g.oldHandle = some h → s.matched h ≠ some y) →
      exec (.grant source g) s = .next (offerTally v)) ∧
    (∀ (h : Handle) (j : Fin 12) (y : Session), g.oldHandle = some h → s.matched h = some (j, y) →
      (y.state = .detached → exec (.grant source g) s = .next (endSession j .moved (offerTally v))) ∧
      (y.state ≠ .detached → exec (.grant source g) s = .next (settleOld g (offerTally v))))

/-- R46, R48 to R50: a DENY that settles a claim which is not abandoned, for each of its eight reasons. -/
def Obligations.DenySettlesTheClaim : Prop :=
  ∀ (source : Nat) (d : DenyBody) (k : Fin 12) (l : Fin 8) (x : Session) (c : Dialogue) (s u : State),
    s.takesNow (.deny source d) → d.handle = s.handleAt k → s.table.slots[k].replySource = none →
    s.table.slots[k].session = some x → x.state = .claiming → x.abandoned = false → x.line = some l →
    s.lines[l].state = .claiming → s.lines[l].dialogue = some c →
    u = (s.taking (.deny source d)).setSlot k
          { s.table.slots[k] with replySource := some source, claimTimer := none, session := none } →
    (∀ t : FixedText,
      (d.reason = .locked ∧ t = .accountLocked ∨ d.reason = .limit ∧ t = .sessionLimit ∨
        d.reason = .credit ∧ t = .noCredit ∨ d.reason = .recordFault ∧ t = .accountFault ∨
        d.reason = .homeFull ∧ t = .systemFull) →
      exec (.deny source d) s = .next (hangUp l (placeText l t.chars u))) ∧
    (∀ (attempts : Nat) (t : FixedText),
      (d.reason = .homeBusy ∧ t = .tryAgain ∧ attempts = c.attempts ∨
        (d.reason = .badDigest ∨ d.reason = .noAccount) ∧ t = .signOnFailed ∧ attempts = c.attempts + 1 ∧ attempts < 3) →
      exec (.deny source d) s = .next (u.setLine l (Line.place s.userPrompt
        { Line.place t.chars s.lines[l] with
          state := .signOn, servedSlot := none,
          dialogue := some { c with attempts := attempts, phase := .user, step := .entry, entry := [], userNumber := none,
                                    digest := 0, awaitedSlot := none } }))) ∧
    ((d.reason = .badDigest ∨ d.reason = .noAccount) → 3 ≤ c.attempts + 1 →
      exec (.deny source d) s = .next (hangUp l (placeText l FixedText.signOnFailed.chars (u.setLine l
        { s.lines[l] with dialogue := some { c with attempts := c.attempts + 1 } }))))

/-- R46 and R51 to R53: replies to abandoned slots, late replies and duplicates. `zero` is the offer of the zero CHARGE: made in
IN_SERVICE alone, and refused by a full queue or by a CHARGE queued for the handle. The account class of an abandoned slot
and the post counter's 0 in ENDING are the model's (log entries 33, 26). -/
def Obligations.AbandonedLateAndDuplicateReplies : Prop :=
  ∀ (source : Nat) (g : GrantBody) (d : DenyBody) (k : Fin 12) (s u w : State) (zero : EndCause → State → State),
    s.takesNow (.grant source g) → s.takesNow (.deny source d) → g.handle = d.handle → g.oldHandle = none →
    u = s.taking (.grant source g) → w = s.taking (.deny source d) →
    (∀ (cause : EndCause) (v : State), zero cause v =
      if v.station.state = .inService ∧ v.bus.queue.length < 24 ∧
          (∀ e ∈ v.bus.queue, Entry.chargesFor g.handle e = false) then
        v.queued source (.charge
          { handle := g.handle, account := g.account, home := source, total := 0, endCause := some cause } none)
      else v) →
    (∀ x : Session, g.handle = s.handleAt k → s.table.slots[k].replySource = none → s.table.slots[k].session = some x →
      x.state = .claiming → x.abandoned = true →
      (s.bus.queue.length < 24 → (∀ e ∈ s.bus.queue, Entry.chargesFor g.handle e = false) →
        exec (.grant source g) s = .next (((u.setSlot k
          { s.table.slots[k] with
            replySource := some source, claimTimer := none,
            session := some { x with home := some source, acctClass := some g.acctClass, state := .ending, line := none,
                                     abandoned := false, total := 0, remainder := 0, postCounter := 0, grace := none,
                                     endCause := some .abandoned, finalStatus := some .queued } }).queued source
            (.charge { handle := g.handle, account := x.account, home := source, total := 0, endCause := some .abandoned }
              (some k))))) ∧
      exec (.deny source d) s = .next (w.setSlot k
        { s.table.slots[k] with replySource := some source, claimTimer := none, session := none })) ∧
    (g.handle.station = s.own → g.handle.slot = k.val → g.handle.generation ≠ s.table.slots[k].generation →
      exec (.grant source g) s = .next (zero .late u) ∧ exec (.deny source d) s = .next w) ∧
    (g.handle = s.handleAt k → s.table.slots[k].replySource = none → s.table.slots[k].session = none → ∀ x : Slot,
      x = { s.table.slots[k] with replySource := some source } →
      exec (.grant source g) s = .next (zero .late (u.setSlot k x)) ∧ exec (.deny source d) s = .next (w.setSlot k x)) ∧
    (g.handle = s.handleAt k → s.table.slots[k].replySource = some source →
      (s.table.slots[k].session = none → exec (.grant source g) s = .next (zero .late u)) ∧
      (s.table.slots[k].session ≠ none → exec (.grant source g) s = .next u) ∧
      exec (.deny source d) s = .next w) ∧
    (∀ (first : Nat) (fault : Subject), g.handle = s.handleAt k → s.table.slots[k].replySource = some first → first ≠ source →
      fault = { Subject.blank with address := some first, address2 := some source, handle := some g.handle } →
      exec (.grant source g) s = .next (zero .duplicate (logFault .duplicateHome fault u)) ∧
      exec (.deny source d) s = .next (logFault .duplicateHome fault w)) ∧
    (g.handle.station ≠ s.own ∨ 11 < g.handle.slot → exec (.grant source g) s = .next u ∧ exec (.deny source d) s = .next w)

/-- R70: what a GRANT REATTACH does to the session that its old handle matches, by `settleOld`; and that at a station to which the
new handle does not belong the GRANT does nothing else. -/
def Obligations.GrantReattachEndsTheOldSession : Prop :=
  (∀ (source : Nat) (g : GrantBody) (s : State), s.takesNow (.grant source g) → g.handle.station ≠ s.own →
    exec (.grant source g) s = .next (settleOld g (s.taking (.grant source g)))) ∧
  (∀ (g : GrantBody) (h : Handle) (u : State), g.oldHandle = some h →
    (u.matched h = none → settleOld g u = u) ∧
    (∀ (k : Fin 12) (x : Session), u.matched h = some (k, x) →
      (x.state = .detached → settleOld g u = endSession k .moved u) ∧
      (x.state = .ending → x.endCause = some .detachExpired →
        (x.finalStatus = some .waiting ∨ x.finalStatus = some .queued) →
        settleOld g u = (u.setSlot k
            { u.table.slots[k] with session := some { x with endCause := some .moved } }).setQueue
          (u.bus.queue.map (fun e =>
            match e.payload with
            | .charge c j => if c.handle = h ∧ e.inFlight = false ∧ j = some k then
                { e with payload := .charge { c with endCause := some .moved } j } else e
            | _ => e))) ∧
      (x.state = .claiming ∨ x.state = .active ∨ x.state = .cutoffGrace ∨
          x.state = .ending ∧ (x.endCause ≠ some .detachExpired ∨ x.finalStatus = some .inFlight) →
        settleOld g u = u)))

/-! ### Sessions -/

/-- R86, R87, R105: what entering ENDING leaves of a session, with the credit that a total at its top cannot take and its fault
METER_SATURATED, logged once; and the final CHARGE of one whose remainder is below 500, when the queue has room and holds no
CHARGE for its handle. R79: what a detach leaves; the DETACH is refused by a
full queue. R87: the offer of a final CHARGE, in each case of what the queue holds for its handle. The post counter's 0 in
ENDING, what the rewritten entry keeps, and that a LATE or DUPLICATE CHARGE of the handle is not rewritten (R104) are the
model's choices (log entries 26, 28, 40). -/
def Obligations.EndingAndDetaching : Prop :=
  (∀ (k : Fin 12) (cause : EndCause) (x : Session) (s t : State), s.table.slots[k].session = some x →
    t = endSession k cause s →
    (∃ y : Session, t.table.slots[k].session = some y ∧
      y = { x with state := .ending, line := none, abandoned := false, grace := none, postCounter := 0, remainder := 0,
                   total := finalTotal x, endCause := some cause, finalStatus := y.finalStatus, saturated := y.saturated } ∧
      (y.finalStatus = some .waiting ∨ y.finalStatus = some .queued)) ∧
    t.table.detachOrder = s.table.detachOrder.filter (fun j => decide (j ≠ k)) ∧
    (∀ j : Fin 12, j ≠ k → t.table.slots[j] = s.table.slots[j]) ∧
    t = { s with lines := t.lines, table := t.table, bus := t.bus, faults := t.faults,
                 meter := { s.meter with overflow := t.meter.overflow } } ∧
    (∀ (marked : Bool → State) (v w : State),
      (∀ b : Bool, marked b = { s with table := { s.table with
        slots := s.table.slots.set k { s.table.slots[k] with
          session := some { x with state := .ending, line := none, abandoned := false, grace := none, postCounter := 0,
                                   remainder := 0, total := finalTotal x, endCause := some cause,
                                   finalStatus := some .waiting, saturated := b } },
        detachOrder := s.table.detachOrder.filter (fun j => decide (j ≠ k)) } }) →
      v = { marked true with meter := { s.meter with overflow := min 65535 (s.meter.overflow + 1) } } →
      ((x.remainder < 500 ∨ x.total < 16777215) ∧ w = marked x.saturated ∨
       500 ≤ x.remainder ∧ 16777215 ≤ x.total ∧ x.saturated = true ∧ w = v ∨
       500 ≤ x.remainder ∧ 16777215 ≤ x.total ∧ x.saturated = false ∧ w = logFault .meterSaturated
         { Subject.blank with handle := some (s.handleAt k), account := some x.account } v) →
      (x.state = .active ∨ x.state = .cutoffGrace ∨ x.state = .detached → t = offerTally (offerFinal k w)) ∧
      (x.state = .claiming ∨ x.state = .ending → t = offerFinal k w)) ∧
    (x.remainder < 500 → s.bus.queue.length < 24 → (∀ e ∈ s.bus.queue, Entry.chargesFor (s.handleAt k) e = false) →
      ∃ rest : List Entry, t.bus.queue = s.bus.queue ++
        { destination := x.home.getD 0,
          payload := .charge { handle := s.handleAt k, account := x.account, home := x.home.getD 0, total := x.total,
                               endCause := some cause } (some k),
          inFlight := false, mismatches := 0 } :: rest)) ∧
  (∀ (k : Fin 12) (x : Session) (grace : Nat) (s u : State), s.table.slots[k].session = some x →
    u = { s with table := { s.table with
            slots := s.table.slots.set k
              { s.table.slots[k] with session := some { x with state := .detached, line := none, grace := some grace } },
            detachOrder := s.table.detachOrder ++ [k] } } →
    (s.bus.queue.length < 24 →
      detachSession k x grace s =
        u.queued (x.home.getD 0) (.detach { handle := s.handleAt k, account := x.account })) ∧
    (24 ≤ s.bus.queue.length → detachSession k x grace s = u)) ∧
  (∀ (k : Fin 12) (x : Session) (cause : EndCause) (s u : State), s.table.slots[k].session = some x →
    u = s.setSlot k { s.table.slots[k] with session := some { x with finalStatus := some .queued } } →
    (x.state ≠ .ending ∨ x.finalStatus ≠ some .waiting → offerFinal k s = s) ∧
    (x.state = .ending → x.finalStatus = some .waiting → x.endCause = some cause →
      (∀ (before after : List Entry) (e : Entry) (c : ChargeBody) (o : Option (Fin 12)), s.bus.queue = before ++ e :: after →
        (∀ y ∈ before ++ after, Entry.chargesFor (s.handleAt k) y = false) → e.payload = .charge c o →
        c.handle = s.handleAt k →
        (e.inFlight = true ∨ o = none ∧ c.endCause ≠ none → offerFinal k s = s) ∧
        (e.inFlight = false → o ≠ none ∨ c.endCause = none →
          offerFinal k s = u.setQueue (before ++
            { e with payload := .charge { c with total := x.total, endCause := some cause } (some k) } :: after))) ∧
      ((∀ e ∈ s.bus.queue, Entry.chargesFor (s.handleAt k) e = false) →
        (s.bus.queue.length < 24 → offerFinal k s = u.queued (x.home.getD 0)
          (.charge { handle := s.handleAt k, account := x.account, home := x.home.getD 0, total := x.total,
                     endCause := some cause } (some k))) ∧
        (24 ≤ s.bus.queue.length → offerFinal k s = s))))

/-- R82: CUTOFF, for every state of the session its handle finds. R81 and the first row of R83: the two grace timers, whose
expiry may be taken where it is due (0) and, as R94's table lets it, before the meter's work for the tick that brings it to 0
(1); at any other moment the event changes nothing. The three readings are the model's (log entries 4, 12, 1). -/
def Obligations.CutoffAndGraceExpiries : Prop :=
  (∀ (c : CutoffBody) (s u : State), s.takesNow (.cutoff c) → u = s.taking (.cutoff c) →
    (∀ (k : Fin 12) (x : Session), s.matched c.handle = some (k, x) →
      (∀ l : Fin 8, x.state = .active → x.line = some l →
        exec (.cutoff c) s = .next ((placeText l FixedText.creditExhausted.chars u).setSlot k
          { s.table.slots[k] with session := some { x with state := .cutoffGrace, grace := some 60 } })) ∧
      (x.state = .detached → exec (.cutoff c) s = .next (endSession k .credit u)) ∧
      (x.state = .cutoffGrace ∨ x.state = .claiming ∨ x.state = .ending → exec (.cutoff c) s = .next u)) ∧
    (s.matched c.handle = none → exec (.cutoff c) s = .next u)) ∧
  (∀ (k : Fin 12) (x : Session) (s : State), s.inReset = false → s.table.slots[k].session = some x →
    (x.grace = some 0 ∨ x.grace = some 1 →
      (x.state = .detached → exec (.detachGraceExpiry k) s = .next (endSession k .detachExpired s)) ∧
      (∀ l : Fin 8, x.state = .cutoffGrace → x.line = some l →
        exec (.cutoffGraceExpiry k) s = .next (endSession k .credit (hangUp l s)))) ∧
    (x.grace ≠ some 0 ∧ x.grace ≠ some 1 →
      exec (.detachGraceExpiry k) s = .next s ∧ exec (.cutoffGraceExpiry k) s = .next s))

/-- R85: REFUSE, for every state of the session its handle finds. The account of the fault's subject is read as the
REFUSE's own (log entry 23). -/
def Obligations.RefuseEndsTheSession : Prop :=
  ∀ (r : RefuseBody) (s u v : State), s.takesNow (.refuse r) → u = s.taking (.refuse r) →
    v = logFault .chargeRefused
          { Subject.blank with handle := some r.handle, account := some r.account, total := some r.total } u →
    (∀ (k : Fin 12) (x : Session), s.matched r.handle = some (k, x) →
      (∀ l : Fin 8, x.state = .active ∨ x.state = .cutoffGrace → x.line = some l →
        exec (.refuse r) s = .next (endSession k .homeLost (hangUp l (placeText l FixedText.accountFault.chars v)))) ∧
      (x.state = .detached → exec (.refuse r) s = .next (endSession k .homeLost v)) ∧
      (x.state = .claiming ∨ x.state = .ending → exec (.refuse r) s = .next u)) ∧
    (s.matched r.handle = none → exec (.refuse r) s = .next u)

/-- R84: FORCE OFF, for every finding; the RESULT comes after the ending's own frames. -/
def Obligations.ForceOffFindings : Prop :=
  ∀ (b : List Byte) (s u : State), s.takesNow (.command .forceOff b) → u = s.taking (.command .forceOff b) →
    (s.station.state ≠ .inService → exec (.forceOff b) s = .next (offerResult .forceOff .refusedState [] u)) ∧
    (s.station.state = .inService →
      (b.length ≠ 3 → exec (.forceOff b) s = .next (offerResult .forceOff .badField [] u)) ∧
      (∀ h : Handle, b = h.bytes → h.wf = true →
        (s.matched h = none → exec (.forceOff b) s = .next (offerResult .forceOff .notFound [] u)) ∧
        (∀ (k : Fin 12) (x : Session), s.matched h = some (k, x) →
          (∀ l : Fin 8, x.state = .active ∨ x.state = .cutoffGrace → x.line = some l →
            exec (.forceOff b) s = .next (offerResult .forceOff .done []
              (endSession k .forced (hangUp l (placeText l FixedText.forcedOff.chars u))))) ∧
          (x.state = .detached →
            exec (.forceOff b) s = .next (offerResult .forceOff .done [] (endSession k .forced u))) ∧
          (∀ l : Fin 8, x.state = .claiming → x.abandoned = false → x.line = some l →
            exec (.forceOff b) s = .next (offerResult .forceOff .done [] (hangUp l (placeText l FixedText.forcedOff.chars
              (u.setSlot k { s.table.slots[k] with session := some { x with abandoned := true, line := none } }))))) ∧
          (x.state = .ending ∨ x.state = .claiming ∧ x.abandoned = true →
            exec (.forceOff b) s = .next (offerResult .forceOff .done [] u)))))

/-- R88: the four outcomes of an offer of a TALLY, and the heartbeat's expiry. R90, and R67 at a home whose list names no session
of the sender: a TALLY taken; and a census entry's age running out. The count a TALLY shows before its transmission starts,
0 as an expiry that is due, and an expiry that is not due are the model's choices (log entries 27, 4, 1). -/
def Obligations.TalliesOfferedAndCounted : Prop :=
  (∀ s : State, s.inService = true →
    ((∀ e ∈ s.bus.queue, Entry.isTally e = false) → s.bus.queue.length < 24 →
      offerTally s = { s.queued 255 (.tally { count := s.tally, restart := s.table.restartDue }) with
        table := { s.table with heartbeat := some 10, restartDue := false } }) ∧
    (∀ (before after : List Entry) (e : Entry), s.bus.queue = before ++ e :: after →
      (∀ x ∈ before, Entry.isTally x = false) → Entry.isTally e = true →
      offerTally s = if e.inFlight then { s with table := { s.table with tallyOwed := true } } else s) ∧
    ((∀ e ∈ s.bus.queue, Entry.isTally e = false) → 24 ≤ s.bus.queue.length →
      offerTally s = logFault .txQueueFull { Subject.blank with address := some 255 } s) ∧
    (s.inReset = false → s.table.heartbeat = some 0 →
      exec .tallyHeartbeatExpiry s = .next (offerTally { s with table := { s.table with heartbeat := some 10 } })) ∧
    (s.table.heartbeat ≠ some 0 → exec .tallyHeartbeatExpiry s = .next s)) ∧
  (∀ (source : Nat) (t : TallyBody) (s u : State), s.takesNow (.tally source t) → u = s.taking (.tally source t) →
    (t.restart = false ∨ (∀ e ∈ s.home.list, e.handle.station ≠ source)) →
    (∀ a : Fin 16, a.val = source → 1 ≤ source → source ≠ s.own →
      exec (.tally source t) s = .next { u with bus := { u.bus with
        census := s.bus.census.set a (some { count := min 12 t.count, age := 35 }) } }) ∧
    (source = 0 ∨ source = s.own → exec (.tally source t) s = .next u)) ∧
  (∀ (a : Fin 16) (e : CensusEntry) (s : State), s.inReset = false → s.bus.census[a] = some e →
    (e.age = 0 → exec (.censusAgeExpiry a) s = .next { s with bus := { s.bus with census := s.bus.census.set a none } }) ∧
    (e.age ≠ 0 → exec (.censusAgeExpiry a) s = .next s))

/-! ### Metering and tariffs -/

/-- R94, R2, R45, R57, R88, R90, R102, R103, R106, R140: what a tick in IN_SERVICE does to the sessions, to every whole-second
timer, to station time and to the band, and what it leaves. The queue, the meter overflow count and the fault log are those that
the twelve sessions' charges and then their posts leave, one after another, and each of the two is stated here too: a charge that
fits, one that saturates (the excess joins the overflow count, METER_SATURATED is logged while the mark is clear), a post that
counts, and one at 59, which is what POSTING does. A line whose ring series the tick's faults may end is left to R3. The order of
the meter's work and the other timers, that of the sessions, and 0 as an expiry that is due are the model's choices (log entries
4, 12, 43). -/
def Obligations.TickChargesAndCounts : Prop :=
  (∀ s : State, s.inReset = false → s.inService = true →
    ∃ t v : State, exec .tick s = .next t ∧
      v = (List.finRange 12).foldl (fun u k => postSecond k u) ((List.finRange 12).foldl (fun u k => chargeSecond k u) s) ∧
      t.bus.queue = v.bus.queue ∧ t.meter.overflow = v.meter.overflow ∧
      t.faults = { v.faults with stationTime := t.faults.stationTime } ∧
      (∀ k : Fin 12, t.table.slots[k].session =
        v.table.slots[k].session.map (fun x => { x with grace := x.grace.map (fun n => n - 1) })) ∧
      t = { s with lines := t.lines, table := { s.table with slots := t.table.slots,
                                                             heartbeat := s.table.heartbeat.map (fun n => n - 1) },
                   meter := { s.meter with band := t.meter.band, remaining := t.meter.remaining, overflow := t.meter.overflow },
                   home := { s.home with list := s.home.list.map (fun e => { e with silence := e.silence - 1 }) },
                   store := { s.store with holdTimer := s.store.holdTimer.map (fun n => n - 1) },
                   bus := { s.bus with queue := t.bus.queue,
                                       census := s.bus.census.map (fun x => x.map (fun e => { e with age := e.age - 1 })) },
                   faults := t.faults } ∧
      t.faults.stationTime = min 16777215 (s.faults.stationTime + 1) ∧
      (∀ l : Fin 8, s.lines[l].state ≠ .ringing →
        t.lines[l] = { s.lines[l] with
          timer := s.lines[l].timer.map (fun n => n - 1),
          dialogue := s.lines[l].dialogue.map (fun d =>
            if d.step = .claimed then d else { d with timer := d.timer.map (fun n => n - 1) }) }) ∧
      (∀ k : Fin 12, t.table.slots[k] = { s.table.slots[k] with
        claimTimer := s.table.slots[k].claimTimer.map (fun n => n - 1), session := t.table.slots[k].session } ∧
        (s.table.slots[k].session = none → t.table.slots[k].session = none)) ∧
      (∀ (k : Fin 12) (x : Session), s.table.slots[k].session = some x →
        ∃ y : Session, t.table.slots[k].session = some y ∧
          y = { x with total := y.total, remainder := y.remainder, postCounter := y.postCounter, saturated := y.saturated,
                       grace := x.grace.map (fun n => n - 1) } ∧
          (x.state = .active ∨ x.state = .cutoffGrace →
            ∀ m : Nat, m = x.remainder + (s.meter.tariff x.speedClass (x.acctClass.getD 0)).rate →
              (x.total + m / 1000 ≤ 16777215 → y.total = x.total + m / 1000 ∧ y.remainder = m % 1000) ∧
              (16777215 < x.total + m / 1000 → y.total = 16777215 ∧ y.remainder = 0)) ∧
          (x.state = .claiming ∨ x.state = .detached ∨ x.state = .ending → y.total = x.total ∧ y.remainder = x.remainder) ∧
          (x.state = .active ∨ x.state = .cutoffGrace ∨ x.state = .detached →
            y.postCounter = if x.postCounter < 59 then x.postCounter + 1 else 0) ∧
          (x.state = .claiming ∨ x.state = .ending → y.postCounter = x.postCounter)) ∧
      (t.meter.band, t.meter.remaining) =
        if s.meter.running = false then (s.meter.band, s.meter.remaining)
        else if 1 < s.meter.remaining then (s.meter.band, s.meter.remaining - 1)
        else match s.meter.band with
          | .peak => (.offPeak, s.meter.offPeakLength.getD 1)
          | .offPeak => (.peak, s.meter.peakLength.getD 1)) ∧
  (∀ (k : Fin 12) (s : State), s.table.slots[k].session = none → chargeSecond k s = s ∧ postSecond k s = s) ∧
  (∀ (k : Fin 12) (x : Session) (s : State), s.table.slots[k].session = some x →
    (x.state = .claiming ∨ x.state = .detached ∨ x.state = .ending → chargeSecond k s = s) ∧
    (x.state = .active ∨ x.state = .cutoffGrace →
      ∀ m : Nat, m = x.remainder + (s.meter.tariff x.speedClass (x.acctClass.getD 0)).rate →
        (x.total + m / 1000 ≤ 16777215 → chargeSecond k s = s.setSlot k { s.table.slots[k] with
          session := some { x with total := x.total + m / 1000, remainder := m % 1000 } }) ∧
        (16777215 < x.total + m / 1000 → ∀ u : State,
          u = { s.setSlot k { s.table.slots[k] with
                  session := some { x with total := 16777215, remainder := 0, saturated := true } } with
                meter := { s.meter with
                  overflow := min 65535 (s.meter.overflow + (x.total + m / 1000 - 16777215)) } } →
          (x.saturated = true → chargeSecond k s = u) ∧
          (x.saturated = false → chargeSecond k s = logFault .meterSaturated
            { Subject.blank with handle := some (s.handleAt k), account := some x.account } u))) ∧
    (x.state = .claiming ∨ x.state = .ending → postSecond k s = s) ∧
    (x.state = .active ∨ x.state = .cutoffGrace ∨ x.state = .detached →
      (x.postCounter < 59 → postSecond k s = s.setSlot k { s.table.slots[k] with
        session := some { x with postCounter := x.postCounter + 1 } }) ∧
      (x.postCounter = 59 → s.inReset = false → exec (.posting k) s = .next (postSecond k s))))

/-- R106, R107: a posting, in each case of what the queue holds for the handle; and R96's flip. When the two commands
have an effect apart from a tick, and that a posting which meets a LATE or DUPLICATE CHARGE of its handle is dropped, that
CHARGE keeping its total 0 (R104), are the model's choices (log entries 21, 40). -/
def Obligations.PostingAndBandFlip : Prop :=
  ∀ s : State, s.inReset = false →
    (∀ (k : Fin 12) (x : Session) (u : State), s.table.slots[k].session = some x →
      (x.state = .active ∨ x.state = .cutoffGrace ∨ x.state = .detached) → x.postCounter = 59 →
      u = s.setSlot k { s.table.slots[k] with session := some { x with postCounter := 0 } } →
      ((∀ e ∈ s.bus.queue, Entry.chargesFor (s.handleAt k) e = false) → s.bus.queue.length < 24 →
        exec (.posting k) s = .next (u.queued (x.home.getD 0)
          (.charge { handle := s.handleAt k, account := x.account, home := x.home.getD 0, total := x.total,
                     endCause := none } none))) ∧
      ((∀ e ∈ s.bus.queue, Entry.chargesFor (s.handleAt k) e = false) → 24 ≤ s.bus.queue.length →
        exec (.posting k) s = .next u) ∧
      (∀ (before after : List Entry) (e : Entry) (c : ChargeBody) (o : Option (Fin 12)),
        s.bus.queue = before ++ e :: after →
        (∀ y ∈ before ++ after, Entry.chargesFor (s.handleAt k) y = false) → e.payload = .charge c o →
        c.handle = s.handleAt k →
        exec (.posting k) s = .next (if e.inFlight = true ∨ o = none ∧ c.endCause ≠ none then u else
          u.setQueue (before ++ { e with payload := .charge { c with total := x.total } o } :: after)))) ∧
    (s.meter.running = true → s.meter.remaining = 1 →
      (s.meter.band = .peak → exec .bandFlip s = .next
        { s with meter := { s.meter with band := .offPeak, remaining := s.meter.offPeakLength.getD 1 } }) ∧
      (s.meter.band = .offPeak → exec .bandFlip s = .next
        { s with meter := { s.meter with band := .peak, remaining := s.meter.peakLength.getD 1 } }))

/-- R97 and R99: TIME and TARIFF LOAD, for every finding. The layouts of the bodies and of the RESULT's data are read
from the formats (log entry 14). -/
def Obligations.TimeAndTariffLoad : Prop :=
  ∀ (b : List Byte) (s : State),
    (s.takesNow (.command .time b) → ∀ u : State, u = s.taking (.command .time b) →
      (s.station.state ≠ .inService → exec (.time b) s = .next (offerResult .time .refusedState [] u)) ∧
      (∀ (band : Band) (n : Nat), s.station.state = .inService → n < 16777216 →
        b = bytesOf 1 band.code ++ bytesOf 3 n →
        exec (.time b) s = .next (offerResult .time .done (bytesOf 1 band.code ++ bytesOf 3 (max 1 (min 86400 n)))
          { u with meter := { s.meter with band := band, remaining := max 1 (min 86400 n) } })) ∧
      (s.station.state = .inService → b.length ≠ 4 ∨ 1 < fieldOf b 0 1 →
        exec (.time b) s = .next (offerResult .time .badField [] u))) ∧
    (s.takesNow (.command .tariffLoad b) → ∀ u : State, u = s.taking (.command .tariffLoad b) →
      (b = [] ∨ 8 < fieldOf b 0 1 ∨ b.length ≠ 1 + 4 * fieldOf b 0 1 →
        exec (.tariffLoad b) s = .next (offerResult .tariffLoad .badField [] u)) ∧
      (∀ entries : List (Nat × Nat × Nat), entries.length ≤ 8 →
        (∀ e ∈ entries, e.1 < 256 ∧ e.2.1 < 65536 ∧ e.2.2 < 256) →
        b = bytesOf 1 entries.length ++ entries.flatMap (fun e => bytesOf 1 e.1 ++ bytesOf 2 e.2.1 ++ bytesOf 1 e.2.2) →
        ∃ m : Meter,
          exec (.tariffLoad b) s = .next (offerResult .tariffLoad .done
            (bytesOf 1 (entries.countP (fun e => decide (e.1 ≤ 63 ∧ e.2.1 ≤ 4095))) ++
              bytesOf 1 (entries.countP (fun e => decide (¬ (e.1 ≤ 63 ∧ e.2.1 ≤ 4095))))) { u with meter := m }) ∧
          m = { s.meter with tariffs := m.tariffs } ∧
          (∀ i : Fin 64, m.tariffs[i] =
            (match (entries.filter (fun e => decide (e.1 = i.val ∧ e.2.1 ≤ 4095))).getLast? with
             | some e => { rate := e.2.1, surcharge := e.2.2 }
             | none => s.meter.tariffs[i]))))

/-! ### The account home -/

/-- R55, R58, R72: a CLAIM taken, up to its request for the store; an entry that already stands under its handle is removed as
an orphan first, in any of its states (R66, R69); which waiting GRANTs the rewrite of R69 reaches is the model's choice (log entry
47). -/
def Obligations.ClaimTakenByTheHome : Prop :=
  ∀ (c : ClaimBody) (s u v : State), s.takesNow (.claim c) → u = s.taking (.claim c) →
    (s.home.inRange c.account = false → exec (.claim c) s = .next u) ∧
    (s.home.inRange c.account = true →
      (s.home.find c.handle = none ∧ v = u ∨ ∃ e : HomeEntry, s.home.find c.handle = some e ∧ v = u.orphanGone e) →
      (s.store.hold = .held → exec (.claim c) s = .next (offerClassOne c.handle.station
        (.deny { handle := c.handle, account := c.account, reason := .homeBusy }) v)) ∧
      (s.store.hold ≠ .held → (∃ q ∈ s.home.quarantine, q.account = c.account) →
        exec (.claim c) s = .next (offerClassOne c.handle.station
          (.deny { handle := c.handle, account := c.account, reason := .recordFault }) v)) ∧
      (s.store.hold ≠ .held → (∀ q ∈ s.home.quarantine, q.account ≠ c.account) →
        exec (.claim c) s = .next (settleStore { v with home := { v.home with work := some (.claim c) } })))

/-- R58 to R64: the evaluation of a CLAIM in its access, step by step. `i` is the record's index, `rd` the record as
read, `w` the state after the read's own write-backs; `v` is what the evaluation leaves. The denial of an account that
was quarantined while the CLAIM waited is the model's reading of R63 (log entry 32); that the end of the CLAIM, with the
silence expiries it has put off and its reply, comes before the arbiter goes on is its choice (log entries 42, 46). Which DETACHED
entry of an account stands earliest is stated last (R62). -/
def Obligations.ClaimEvaluationSteps : Prop :=
  (∀ (c : ClaimBody) (s w v : State) (i : Nat) (rd : RecordRead) (r : Record), s.inReset = false →
    s.store.access = some .home → s.home.work = some (.claim c) → s.home.first ≤ c.account →
    i = c.account - s.home.first → i < 512 → rd = s.store.readRecord i c.account → r = rd.record →
    w = correctRecord i s →
    ((∃ n, rd.outcome = .uncorrectable n ∧ v = offerClassOne c.handle.station
        (.deny { handle := c.handle, account := c.account, reason := .recordFault })
        (listAccount .storeUncorrectable c.account n w)) ∨
     (∃ n, rd.outcome = .tagMismatch n ∧ v = offerClassOne c.handle.station
        (.deny { handle := c.handle, account := c.account, reason := .recordFault })
        (listAccount .tagMismatch c.account n w)) ∨
     ((rd.outcome = .clean ∨ rd.outcome = .corrected) ∧ w.home.quarantined c.account = true ∧ v = offerClassOne
        c.handle.station (.deny { handle := c.handle, account := c.account, reason := .recordFault }) w) ∨
     ((rd.outcome = .clean ∨ rd.outcome = .corrected) ∧ w.home.quarantined c.account = false ∧
      ((∃ reason : DenyReason, v = offerClassOne c.handle.station
          (.deny { handle := c.handle, account := c.account, reason := reason }) w ∧
          (r.valid = false ∧ reason = .noAccount ∨
           r.valid = true ∧ r.locked = true ∧ reason = .locked ∨
           r.valid = true ∧ r.locked = false ∧ c.digest = r.digest ∧
             (r.balance + r.allowance ≤ 0 ∧ reason = .credit ∨
              0 < r.balance + r.allowance ∧
               (48 ≤ s.home.list.length ∧ reason = .homeFull ∨
                s.home.list.length < 48 ∧ s.home.earliestDetached c.account = none ∧
                  r.limit ≤ s.home.nonMoving c.account ∧ reason = .limit)))) ∨
       (r.valid = true ∧ r.locked = false ∧ c.digest ≠ r.digest ∧
        v = offerClassOne c.handle.station (.deny { handle := c.handle, account := c.account, reason := .badDigest })
          (writeRecord i { r with failures := min 7 (r.failures + 1),
                                  locked := decide (5 ≤ min 7 (r.failures + 1)) } w)) ∨
       (r.valid = true ∧ r.locked = false ∧ c.digest = r.digest ∧ 0 < r.balance + r.allowance ∧ s.home.list.length < 48 ∧
        ∃ x : State, x = (if r.failures = 0 then w else writeRecord i { r with failures := 0 } w) ∧
          (s.home.earliestDetached c.account = none ∧ s.home.nonMoving c.account < r.limit ∧
            v = offerClassOne c.handle.station
              (.grant { handle := c.handle, account := c.account, acctClass := r.acctClass, oldHandle := none })
              { x with home := { x.home with list := s.home.list ++
                [{ handle := c.handle, account := c.account, state := .active, applied := 0, silence := 180,
                   cutoffSent := false, successor := none, expiryPutOff := false }] } } ∨
           ∃ old : HomeEntry, s.home.earliestDetached c.account = some old ∧
            v = offerClassOne c.handle.station
              (.grant { handle := c.handle, account := c.account, acctClass := r.acctClass, oldHandle := some old.handle })
              { x with home := { x.home with
                  list := s.home.list.map (fun e => if e.handle = old.handle then
                      { e with state := .moving, successor := some c.handle, silence := 180, expiryPutOff := false } else e) ++
                    [{ handle := c.handle, account := c.account, state := .active, applied := 0, silence := 180,
                       cutoffSent := false, successor := none, expiryPutOff := false }],
                  detachOrder := s.home.detachOrder.filter (fun h => decide (h ≠ old.handle)) } }))))) →
    exec .claimEvaluation s = .next (finishClaim v).accessOver) ∧
  (∀ (h : Home) (account : Nat) (e : HomeEntry),
    (h.earliestDetached account = some e ↔
      ∃ (before after : List Handle) (x : Handle), h.detachOrder = before ++ x :: after ∧ h.find x = some e ∧
        e.account = account ∧ ∀ y ∈ before, ∀ other : HomeEntry, h.find y = some other → other.account ≠ account) ∧
    (h.earliestDetached account = none ↔
      ∀ y ∈ h.detachOrder, ∀ other : HomeEntry, h.find y = some other → other.account ≠ account))

/-- R65: DETACH, for every state of the entry its handle finds. -/
def Obligations.DetachTakenByTheHome : Prop :=
  ∀ (d : DetachBody) (s u : State), s.takesNow (.detach d) → u = s.taking (.detach d) →
    (s.home.inRange d.account = false ∨ s.home.find d.handle = none → exec (.detach d) s = .next u) ∧
    (∀ e : HomeEntry, s.home.inRange d.account = true → s.home.find d.handle = some e →
      exec (.detach d) s = .next { u with home := { s.home with
        list := s.home.list.map (fun x => if x.handle = d.handle then
          { x with state := if x.state = .active then .detached else x.state, silence := 180, expiryPutOff := false } else x),
        detachOrder := if e.state = .active then s.home.detachOrder ++ [d.handle] else s.home.detachOrder } })

/-- R67: a restart TALLY, after its count, takes every entry that names the sender off the list as an orphan, MOVING ones with
R69's rewrite; it leaves the other entries as they are and touches neither the store nor the quarantine list. R66, R69: a
silence timer's expiry, and `finishClaim`: at the end of a CLAIM the expiries it has put off are taken, while an entry that was
restarted meanwhile stays. What an orphan's removal does is `orphanGone`, stated here too. The order of several orphans is the
model's choice (log entries 41, 42); so are 0 as an expiry that is due and an expiry that is not (log entries 4, 1), and that the
rewrite of R69 reaches every waiting GRANT for the successor handle (log entry 47). -/
def Obligations.OrphansLeaveTheList : Prop :=
  (∀ (source : Nat) (a : Fin 16) (t : TallyBody) (s u : State), s.takesNow (.tally source t) → t.restart = true →
    a.val = source → u = (if 1 ≤ source ∧ source ≠ s.own then
      { s.taking (.tally source t) with bus := { (s.taking (.tally source t)).bus with
          census := s.bus.census.set a (some { count := min 12 t.count, age := 35 }) } }
      else s.taking (.tally source t)) →
    ∃ v : State, exec (.tally source t) s = .next v ∧
      v = (s.home.list.filter (fun e => decide (e.handle.station = source))).foldl State.orphanGone u ∧
      v.home.list = s.home.list.filter (fun e => decide (e.handle.station ≠ source)) ∧
      v.home.detachOrder.filter (fun h => decide (h.station ≠ source)) =
        s.home.detachOrder.filter (fun h => decide (h.station ≠ source)) ∧
      v.store = s.store ∧ v.home.quarantine = s.home.quarantine ∧ v.home.backlog = s.home.backlog) ∧
  (∀ (h : Handle) (e : HomeEntry) (s : State), s.inReset = false → s.home.find h = some e →
    (e.silence = 0 → (∀ c, s.home.work ≠ some (.claim c)) → exec (.silenceTimerExpiry h) s = .next (s.orphanGone e)) ∧
    (∀ c, e.silence = 0 → s.home.work = some (.claim c) →
      exec (.silenceTimerExpiry h) s = .next { s with home := { s.home with
        list := s.home.list.map (fun x => if x.handle = h then { x with expiryPutOff := true } else x) } }) ∧
    (e.silence ≠ 0 → exec (.silenceTimerExpiry h) s = .next s)) ∧
  (∀ (s : State) (due : HomeEntry → Bool), (∀ e : HomeEntry, due e = decide (e.expiryPutOff = true ∧ e.silence = 0)) →
    finishClaim s = (s.home.list.filter due).foldl State.orphanGone { s with home := { s.home with
      work := none, list := s.home.list.map (fun e => { e with expiryPutOff := false }) } } ∧
    (s.home.list.Pairwise (fun x y => x.handle ≠ y.handle) →
      (finishClaim s).home.list =
        (s.home.list.filter (fun e => !due e)).map (fun e => { e with expiryPutOff := false }))) ∧
  (∀ (e : HomeEntry) (s v : State),
    v = logFault .orphanExpired
      { Subject.blank with handle := some e.handle, account := some e.account, total := some e.applied }
      { s with home := { s.home with list := s.home.list.filter (fun x => decide (x.handle ≠ e.handle)),
                                     detachOrder := s.home.detachOrder.filter (fun h => decide (h ≠ e.handle)) } } →
    (e.state = .active ∨ e.state = .detached → s.orphanGone e = v) ∧
    (e.state = .moving → ∀ h : Handle, e.successor = some h → s.orphanGone e = v.setQueue (v.bus.queue.map (fun x =>
      match x.payload with
      | .grant g => if g.handle = h ∧ x.inFlight = false then { x with payload := .grant { g with oldHandle := none } } else x
      | _ => x))))

/-! ### Posting and credit -/

/-- R114 to R116, R118, R121: a CHARGE taken, in every case that makes no store access, and the request of the case
that makes one. R69: a final CHARGE that finds a MOVING entry asks for the rewrite of the waiting GRANT. R116: `settleEntry`,
the applied total that a CHARGE leaves, and the entry that a final one takes off the list and the detach order. That the cases
without a store access are settled at the taking is the model's reading (log entry 22); that the rewrite reaches every waiting
GRANT for the successor handle is its choice (log entry 47). -/
def Obligations.ChargeTakenByTheHome : Prop :=
  ∀ (c : ChargeBody) (s u : State), s.takesNow (.charge c) → u = s.taking (.charge c) →
    (c.home ≠ s.own ∨ s.home.inRange c.account = false → exec (.charge c) s = .next u) ∧
    (c.home = s.own → s.home.inRange c.account = true →
      (s.home.find c.handle = none →
        (c.total = 0 → exec (.charge c) s = .next u) ∧
        (0 < c.total → exec (.charge c) s = .next (offerClassOne c.handle.station
          (.refuse { handle := c.handle, account := c.account, total := c.total }) u))) ∧
      (∀ (e : HomeEntry) (heard v : State), s.home.find c.handle = some e →
        heard = { u with home := { s.home with list := s.home.list.map (fun x => if x.handle = e.handle then
              { x with silence := 180, expiryPutOff := false } else x) } } →
        v = (if e.state = .moving ∧ c.endCause ≠ none then heard.grantsMadeNew e.successor else heard) →
        (s.store.hold = .held → (∀ b ∈ s.home.backlog, b.handle ≠ c.handle) →
          exec (.charge c) s = .next { v with home := { v.home with backlog := s.home.backlog ++
            [{ handle := c.handle, account := e.account, total := c.total, final := c.endCause.isSome }] } }) ∧
        (s.store.hold = .held → (∃ b ∈ s.home.backlog, b.handle = c.handle) →
          exec (.charge c) s = .next { v with home := { v.home with backlog := s.home.backlog.map (fun b =>
            if b.handle = c.handle then
              { b with total := max b.total c.total, final := b.final || c.endCause.isSome } else b) } }) ∧
        (s.store.hold ≠ .held → c.total ≤ e.applied →
          exec (.charge c) s = .next (settleEntry c.handle c.total c.endCause.isSome v)) ∧
        (s.store.hold ≠ .held → e.applied < c.total → s.home.quarantined e.account = true →
          exec (.charge c) s = .next (settleEntry c.handle c.total c.endCause.isSome
            (addHeld e.account (some c.handle) (c.total - e.applied) v))) ∧
        (s.store.hold ≠ .held → e.applied < c.total → s.home.quarantined e.account = false →
          exec (.charge c) s = .next (settleStore { v with home := { v.home with
            work := some (.charge c.handle e.account c.total c.endCause.isSome false) } })))) ∧
    (∀ (h : Handle) (total : Nat) (v : State),
      settleEntry h total false v = { v with home := { v.home with
        list := v.home.list.map (fun e => if e.handle = h then { e with applied := max e.applied total } else e) } } ∧
      settleEntry h total true v = { v with home := { v.home with
        list := v.home.list.filter (fun e => decide (e.handle ≠ h)),
        detachOrder := v.home.detachOrder.filter (fun x => decide (x ≠ h)) } })

/-- R116, R117, R120, R122, R160: the application of a CHARGE in its access, directly or from the backlog, for each finding: an
entry that has gone meanwhile (R115), a total no longer above the applied one, and each outcome of the read. That what the
application queues and logs comes before the arbiter goes on is the model's choice (log entry 46). -/
def Obligations.ChargeApplicationCases : Prop :=
  ∀ (h : Handle) (a total : Nat) (final fromBacklog : Bool) (s base : State),
    s.inReset = false → s.store.access = some .home → s.home.work = some (.charge h a total final fromBacklog) →
    base = { s with home := { s.home with work := none, backlog :=
      if fromBacklog then s.home.backlog.filter (fun b => decide (b.handle ≠ h)) else s.home.backlog } } →
    (s.home.find h = none → a - s.home.first < 512 →
      (total = 0 → exec .chargeApplication s = .next base.accessOver) ∧
      (0 < total → exec .chargeApplication s = .next (State.accessOver
        (offerClassOne h.station (.refuse { handle := h, account := a, total := total }) base)))) ∧
    (∀ (delta i : Nat) (e : HomeEntry) (w v : State) (rd : RecordRead) (r : Record),
      s.home.find h = some e → s.home.first ≤ e.account → i = e.account - s.home.first → i < 512 →
      (total ≤ e.applied → exec .chargeApplication s = .next (settleEntry h total final base).accessOver) ∧
      (e.applied < total → delta = total - e.applied → rd = s.store.readRecord i e.account → r = rd.record →
        w = correctRecord i base →
        ((∃ (n : Nat) (kind : FaultKind),
            (rd.outcome = .uncorrectable n ∧ kind = .storeUncorrectable ∨ rd.outcome = .tagMismatch n ∧ kind = .tagMismatch) ∧
            (w.home.listingAnswer e.account = .full ∧
                v = settleEntry h total final (addUnbilled e.account (some h) delta (listAccount kind e.account n w)) ∨
             w.home.listingAnswer e.account ≠ .full ∧
                v = settleEntry h total final (addHeld e.account (some h) delta (listAccount kind e.account n w)))) ∨
         ((rd.outcome = .clean ∨ rd.outcome = .corrected) ∧ w.home.quarantined e.account = true ∧
          v = settleEntry h total final (addHeld e.account (some h) delta w)) ∨
         ((rd.outcome = .clean ∨ rd.outcome = .corrected) ∧ w.home.quarantined e.account = false ∧
          (r.valid = false ∧ v = settleEntry h total final (addUnbilled e.account (some h) delta w) ∨
           r.valid = true ∧ ∃ (x : State) (b : Int),
            b = max (-8388608) (r.balance - delta) ∧
            x = settleEntry h total final (addUnbilled e.account (some h) (-8388608 - (r.balance - delta)).toNat
              (writeRecord i { r with balance := b, termCredits := min 16777215 (r.termCredits + delta) } w)) ∧
            (final = true ∨ e.state = .moving ∨ 0 < b + r.allowance → v = x) ∧
            (final = false → e.state ≠ .moving → b + r.allowance ≤ 0 → v = cutoffCheck e.account b r.allowance x)))) →
        exec .chargeApplication s = .next v.accessOver))

/-- R120: the cut-off check queues a CUTOFF, in list order, for each entry of the account that is ACTIVE or DETACHED and has
its flag clear, and sets those flags: with room for them all, and, one entry after another, without. R118 and R119: credits
that join the held charges, credits that can be placed nowhere, and the clearing of an account's unbilled mark. R158: the held
charges of an account. R159, R160: the three answers of a listing. The subject of
UNBILLED where the counter cannot take all is the model's choice (log entry 44). -/
def Obligations.CutoffsQueuedAndCreditsPlaced : Prop :=
  (∀ (account allowance : Nat) (balance : Int) (s t : State) (cut : HomeEntry → Bool), balance + allowance ≤ 0 →
    (∀ e : HomeEntry, cut e = decide (e.account = account ∧ e.state ≠ .moving ∧ e.cutoffSent = false)) →
    s.bus.queue.length + s.home.list.countP cut ≤ 24 → s.home.list.Pairwise (fun x y => x.handle ≠ y.handle) →
    t = cutoffCheck account balance allowance s →
    t = { s with bus := { s.bus with queue := t.bus.queue }, home := { s.home with list := t.home.list } } ∧
      t.home.list = s.home.list.map (fun e => if cut e then { e with cutoffSent := true } else e) ∧
      t.bus.queue = s.bus.queue ++ (s.home.list.filter cut).map (fun e =>
        { destination := e.handle.station,
          payload := .cutoff { handle := e.handle, account := account, balance := balance },
          inFlight := false, mismatches := 0 })) ∧
  (∀ (account allowance : Nat) (balance : Int) (s : State),
    (0 < balance + allowance → cutoffCheck account balance allowance s = s) ∧
    (balance + allowance ≤ 0 → cutoffCheck account balance allowance s = s.home.list.foldl (fun u e =>
      if e.account = account ∧ e.state ≠ .moving ∧ e.cutoffSent = false then
        offerClassOne e.handle.station (.cutoff { handle := e.handle, account := account, balance := balance })
          (if u.bus.queue.length < 24 ∨ ∃ x ∈ u.bus.queue, Entry.isData x = true ∧ x.inFlight = false then
            { u with home := { u.home with list := u.home.list.map (fun x =>
              if x.handle = e.handle then { x with cutoffSent := true } else x) } }
           else u)
      else u) s)) ∧
  (∀ (account credits i : Nat) (h : Option Handle) (s u : State), i = account - s.home.first →
    u = { s with home := { s.home with unbilled := min 16777215 (s.home.unbilled + credits) } } →
    (addUnbilled account h 0 s = s) ∧
    (0 < credits → i ∈ s.home.unbilledMarks → addUnbilled account h credits s = u) ∧
    (0 < credits → i ∉ s.home.unbilledMarks → ∃ marks : List Nat, (∀ j, j ∈ marks ↔ j = i ∨ j ∈ s.home.unbilledMarks) ∧
      addUnbilled account h credits s = logFault .unbilled
        { Subject.blank with account := some account, handle := h, total := some credits }
        { u with home := { u.home with unbilledMarks := marks } }) ∧
    (∀ (before after : List QuarantineEntry) (held : Nat),
      s.home.quarantine = before ++ { account := account, held := held } :: after →
      (∀ q ∈ before ++ after, q.account ≠ account) →
      s.home.heldOf account = held ∧ addHeld account h credits s = addUnbilled account h (held + credits - 16777215)
        { s with home := { s.home with quarantine :=
          before ++ { account := account, held := min 16777215 (held + credits) } :: after } }) ∧
    ((∀ q ∈ s.home.quarantine, q.account ≠ account) → s.home.heldOf account = 0) ∧
    (∃ marks : List Nat, (∀ j, j ∈ marks ↔ j ≠ i ∧ j ∈ s.home.unbilledMarks) ∧
      clearMark account s = { s with home := { s.home with unbilledMarks := marks } })) ∧
  (∀ (kind : FaultKind) (account word : Nat) (subject : Subject) (s : State),
    subject = { Subject.blank with account := some account, word := some word } →
    ((∃ q ∈ s.home.quarantine, q.account = account) →
      s.home.listingAnswer account = .already ∧ listAccount kind account word s = logFault kind subject s) ∧
    ((∀ q ∈ s.home.quarantine, q.account ≠ account) →
      (s.home.quarantine.length < 8 → s.home.listingAnswer account = .listed ∧
        listAccount kind account word s = logFault kind subject { s with home := { s.home with
          quarantine := s.home.quarantine ++ [{ account := account, held := 0 }] } }) ∧
      (8 ≤ s.home.quarantine.length → s.home.listingAnswer account = .full ∧
        listAccount kind account word s = logFault .quarantineFull subject s)))

/-! ### The host adapter's commands to the records -/

/-- R123 and R124's refusal: the checks of the four account commands in their order, and the request for the store.
The bodies' layouts are read from the formats (log entry 14), and the moment of each check is the model's reading (log
entry 37). -/
def Obligations.AccountCommandChecks : Prop :=
  ∀ (s u : State) (i : Instr) (kind : CommandKind) (b : List Byte),
    s.takesNow (.command kind b) → u = s.taking (.command kind b) →
    (i = .accountLoad b ∧ kind = .accountLoad ∨ i = .accountRead b ∧ kind = .accountRead ∨
      i = .deposit b ∧ kind = .deposit ∨ i = .unlock b ∧ kind = .unlock) →
    (s.station.state ≠ .inService → exec i s = .next (offerResult kind .refusedState [] u)) ∧
    (s.station.state = .inService →
      (b.length ≠ (match kind with | .accountLoad => 18 | .deposit => 6 | _ => 3) ∨ 999999 < fieldOf b 0 3 ∨
          kind = .deposit ∧ (fieldOf b 3 3 = 0 ∨ 8388607 < fieldOf b 3 3) ∨
          kind = .accountLoad ∧ (1 < fieldOf b 3 1 ∨ 7 < fieldOf b 12 1 ∨ 3 < fieldOf b 13 1 ∨ 1 < fieldOf b 14 1) →
        exec i s = .next (offerResult kind .badField [] u)) ∧
      (∀ (a n : Nat) (l : AccountLoad) (work : HostWork), a ≤ 999999 → 1 ≤ n → n ≤ 8388607 →
        (i = .accountRead b ∧ b = bytesOf 3 a ∧ work = .accountRead a ∨
          i = .unlock b ∧ b = bytesOf 3 a ∧ work = .unlock a ∨
          i = .deposit b ∧ b = bytesOf 3 a ++ bytesOf 3 n ∧ work = .deposit a n ∨
          i = .accountLoad b ∧ b = l.bytes ∧ l.account = a ∧ work = .accountLoad l ∧
            (-8388608 ≤ l.balance ∧ l.balance ≤ 8388607 ∧ l.allowance < 65536 ∧ l.digest < 16777216 ∧ l.acctClass < 8 ∧
              l.limit < 4 ∧ l.termCredits < 16777216)) →
        (s.home.inRange a = false → exec i s = .next (offerResult kind .notHome [] u)) ∧
        (s.home.inRange a = true →
          (kind ≠ .accountLoad → s.home.quarantined a = true →
            exec i s = .next (offerResult kind .recordFault [] u)) ∧
          (kind ≠ .accountLoad → s.home.quarantined a = false →
            exec i s = .next (settleStore { u with store := { s.store with hostWork := some work } })) ∧
          (kind = .accountLoad → (∃ e ∈ s.home.list, e.account = a) → (l.valid = false ∨ l.limit < s.home.nonMoving a) →
            exec i s = .next (offerResult kind .inUse [] u)) ∧
          (kind = .accountLoad →
            (∀ e ∈ s.home.list, e.account ≠ a) ∨ (l.valid = true ∧ s.home.nonMoving a ≤ l.limit) →
            exec i s = .next (settleStore { u with store := { s.store with hostWork := some work } })))))

/-- R124 to R128: what each account command does in its access. `i` is the record's index, `rd` the record as read,
`w` the state after the read's write-backs and, for a faulted read, the listing of R123. The replies' layouts are read
from the formats (log entry 14); the order of the excess and the mark, and that the reply comes after the access's faults and
before the arbiter goes on, are the model's choices (log entries 10, 49, 46). -/
def Obligations.AccountCommandAccesses : Prop :=
  ∀ (s : State) (a i : Nat), s.inReset = false → s.store.access = some .host → i = a - s.home.first → i < 512 →
    (∀ (l : AccountLoad) (held excess : Nat), s.store.hostWork = some (.accountLoad l) → l.account = a →
      held = s.home.heldOf a → excess = (-8388608 - (l.balance - held)).toNat →
      exec .hostCommandAccessEnd s = .next (State.hostOver (offerResult .accountLoad .done
        (bytesOf 3 held ++ bytesOf 3 excess) (clearMark a (addUnbilled a none excess
          { writeRecord i { balance := max (-8388608) (l.balance - held), acctClass := l.acctClass, limit := l.limit,
                            valid := l.valid, locked := l.locked, digest := l.digest, failures := 0,
                            allowance := l.allowance, tag := a % 65536, termCredits := l.termCredits } s with
            home := { s.home with quarantine := s.home.quarantine.filter (fun q => decide (q.account ≠ a)) } }))))) ∧
    (∀ (rd : RecordRead) (w : State), rd = s.store.readRecord i a →
      w = (match rd.outcome with
           | .uncorrectable n => listAccount .storeUncorrectable a n (correctRecord i s)
           | .tagMismatch n => listAccount .tagMismatch a n (correctRecord i s)
           | _ => correctRecord i s) →
      (s.store.hostWork = some (.accountRead a) →
        exec .hostCommandAccessEnd s = .next (State.hostOver (offerReply .accountData
          (bytesOf 3 a ++ bytesOf 1 (match rd.outcome with | .clean => 0 | .corrected => 1 | _ => 2) ++
            flagByte rd.record.valid ++ balanceBytes rd.record.balance ++ bytesOf 2 rd.record.allowance ++
            bytesOf 1 rd.record.acctClass ++ bytesOf 1 rd.record.limit ++ flagByte rd.record.locked ++
            bytesOf 1 rd.record.failures ++ bytesOf 3 rd.record.termCredits ++ bytesOf 1 (s.home.nonMoving a)) w))) ∧
      (∀ n : Nat, s.store.hostWork = some (.deposit a n) →
        ((rd.outcome ≠ .clean ∧ rd.outcome ≠ .corrected) →
          exec .hostCommandAccessEnd s = .next (State.hostOver (offerResult .deposit .recordFault [] w))) ∧
        (rd.outcome = .clean ∨ rd.outcome = .corrected →
          (rd.record.valid = false →
            exec .hostCommandAccessEnd s = .next (State.hostOver (offerResult .deposit .notFound [] w))) ∧
          (∀ balance : Int, rd.record.valid = true → balance = min 8388607 (rd.record.balance + n) →
            exec .hostCommandAccessEnd s = .next (State.hostOver (offerResult .deposit .done
              (balanceBytes balance ++ bytesOf 3 (balance - rd.record.balance).toNat)
              (clearMark a (writeRecord i { rd.record with balance := balance } w))))))) ∧
      (s.store.hostWork = some (.unlock a) →
        ((rd.outcome ≠ .clean ∧ rd.outcome ≠ .corrected) →
          exec .hostCommandAccessEnd s = .next (State.hostOver (offerResult .unlock .recordFault [] w))) ∧
        (rd.outcome = .clean ∨ rd.outcome = .corrected →
          (rd.record.valid = false →
            exec .hostCommandAccessEnd s = .next (State.hostOver (offerResult .unlock .notFound [] w))) ∧
          (rd.record.valid = true →
            exec .hostCommandAccessEnd s = .next (State.hostOver (offerResult .unlock .done []
              (writeRecord i { rd.record with locked := false, failures := 0 } w)))))))

/-! ### The record store -/

/-- R131: an access to a word that the store does not have stops the machine, and no other command does; in a state whose home
and store work within their ranges, which StepsKeepBounds says every step keeps, nothing does. -/
def Obligations.OnlyMissingWordsFault : Prop :=
  (∀ (c : Instr) (s : State) (r : Fault), exec c s = .fault r →
    ∃ n : Nat, r = .noSuchWord n ∧ 2048 ≤ n ∧ n ∈ s.accessWords ∧
      (c = .claimEvaluation ∨ c = .chargeApplication ∨ c = .hostCommandAccessEnd ∨ c = .scrubStep ∨ c = .migrationStep)) ∧
  (∀ s : State, s.withinStore → (∀ (c : Instr) (r : Fault), exec c s ≠ .fault r) ∧ ∀ r : Fault, step s ≠ .fault r)

/-- R133, R134: a word read under the mapping it was written with is CLEAN; with one position wrong it is CORRECTED to the
data written; with two it is UNCORRECTABLE; a column that the decode does not take has no effect. R152: the mapping in force.
R135, R132: the outcome and the fields of a record read, and a record that reads back as written. R136: what a record read
writes back. That a word or a record that has been written reads back, and reads back CLEAN, is the model's choice: every column
of every segment holds what is written to it, which R161 does not promise (log entry 45). -/
def Obligations.CodeAndRecordsReadBack : Prop :=
  (∀ (d : DataWord) (mapping : Option Nat), (∀ p, mapping = some p → p ≤ 38) →
    (readStored mapping (freshCode mapping d)).outcome = .clean ∧ (readStored mapping (freshCode mapping d)).data = d ∧
    (∀ column : Nat, column < 40 →
      let r := readStored mapping (freshCode mapping d ^^^ positionBit column)
      r.data = d ∧ r.outcome = (if columnTaken mapping column = none then .clean else .corrected)) ∧
    (∀ c₁ c₂ : Nat, c₁ < 40 → c₂ < 40 → c₁ ≠ c₂ → columnTaken mapping c₁ ≠ none → columnTaken mapping c₂ ≠ none →
      (readStored mapping (freshCode mapping d ^^^ positionBit c₁ ^^^ positionBit c₂)).outcome = .uncorrectable)) ∧
  (∀ (t : Store) (w : Nat) (g : Fin 8), w / 256 = g.val →
    t.decode w = readStored (t.mapping w) (t.words.read w) ∧
    (∀ m : Migration, t.migration = some m → m.segment = g → w % 256 < m.pointer → t.mapping w = m.pendingEntry) ∧
    ((∀ m : Migration, t.migration = some m → m.segment ≠ g ∨ m.pointer ≤ w % 256) → t.mapping w = t.spareMap[g])) ∧
  (∀ (t : Store) (i account : Nat) (rd : RecordRead), rd = t.readRecord i account →
    rd.record = recordOf (t.decode (4 * i)).data (t.decode (4 * i + 1)).data (t.decode (4 * i + 2)).data
      (t.decode (4 * i + 3)).data ∧
    (∀ j < 4, (t.decode (4 * i + j)).outcome = .uncorrectable →
      (∀ k < j, (t.decode (4 * i + k)).outcome ≠ .uncorrectable) → rd.outcome = .uncorrectable (4 * i + j)) ∧
    ((∀ j < 4, (t.decode (4 * i + j)).outcome ≠ .uncorrectable) →
      (rd.record.valid = true → rd.record.tag ≠ account % 65536 → rd.outcome = .tagMismatch (4 * i + 2)) ∧
      (rd.record.valid = false ∨ rd.record.tag = account % 65536 →
        ((∃ j < 4, (t.decode (4 * i + j)).outcome = .corrected) → rd.outcome = .corrected) ∧
        ((∀ j < 4, (t.decode (4 * i + j)).outcome = .clean) → rd.outcome = .clean)))) ∧
  (∀ (i : Nat) (s : State) (word : Nat → State → State),
    (∀ (w : Nat) (u : State), word w u = if (u.store.decode w).outcome = .corrected then
      countCorrected w { u with store := { u.store with
        words := u.store.words.write w (freshCode (u.store.mapping w) (u.store.decode w).data) } } else u) →
    correctRecord i s = word (4 * i + 3) (word (4 * i + 2) (word (4 * i + 1) (word (4 * i) s)))) ∧
  (∀ (i account : Nat) (r : Record) (s t : State), i < 512 → s.wordsCanonical →
    (∀ w p, s.store.mapping w = some p → p ≤ 38) → t = writeRecord i r s →
    -8388608 ≤ r.balance → r.balance ≤ 8388607 → r.acctClass < 8 → r.limit < 4 → r.digest < 16777216 → r.failures < 8 →
    r.allowance < 65536 → r.tag < 65536 → r.termCredits < 16777216 →
    t = { s with store := { s.store with words := t.store.words } } ∧
    (∀ w : Nat, w / 4 ≠ i → t.store.words.read w = s.store.words.read w) ∧
    (∀ j < 4, (t.store.decode (4 * i + j)).outcome = .clean) ∧
    t.store.readRecord i account =
      { outcome := if r.valid = true ∧ r.tag ≠ account % 65536 then .tagMismatch (4 * i + 2) else .clean, record := r })

/-- R139: the arbiter grants the home before the host-command path, that before migration, and that before scrub; it
grants nothing while an access is in progress, and while HELD the host-command path alone. R141, R139, R58, R114, R122: a
PENDING hold is entered when no access is in progress, each waiting HOLD is answered with a RESULT of its own, and the home's work
that waits for the store is refused; the order of the two is the model's choice (log entry 35). R122: a drain under way takes
the backlog's entries in their order, while the home takes nothing else, and stops at an entry that finds the store HELD; what
it does is the whole of `settleStore` after that entry. That an entry which the drain finds at a HELD store has its silence timer
run on, while one whose request waited when HELD came has had it restarted, and which GRANTs a rewrite reaches, are the model's
choices (log entries 48, 47). -/
def Obligations.ArbiterGrantsInOrder : Prop :=
  (∀ s : State, (s.home.draining = false ∨ s.home.work ≠ none) →
    (∀ r : Requester, s.store.access = some r → s.store.hold ≠ .held → settleStore s = s) ∧
    (s.store.access = none → s.store.hold = .notHeld →
      (s.home.work ≠ none → settleStore s = { s with store := { s.store with access := some .home } }) ∧
      (s.home.work = none → s.store.hostWork ≠ none →
        settleStore s = { s with store := { s.store with access := some .host } }) ∧
      (s.home.work = none → s.store.hostWork = none → s.store.migrationRequest = true →
        settleStore s = { s with store := { s.store with access := some .migration, migrationRequest := false } }) ∧
      (s.home.work = none → s.store.hostWork = none → s.store.migrationRequest = false → s.store.scrubRequest = true →
        settleStore s = { s with store := { s.store with access := some .scrub, scrubRequest := false } }) ∧
      (s.home.work = none → s.store.hostWork = none → s.store.migrationRequest = false → s.store.scrubRequest = false →
        settleStore s = s)) ∧
    (s.store.hold = .held → s.home.work = none →
      (s.store.access = none → s.store.hostWork ≠ none →
        settleStore s = { s with store := { s.store with access := some .host } }) ∧
      (s.store.access ≠ none ∨ s.store.hostWork = none → settleStore s = s))) ∧
  (∀ s v : State, s.store.access = none → s.store.hold = .pending →
    v = answerHolds .done s.store.waitingHolds
      { s with store := { s.store with hold := .held, holdTimer := some 10, waitingHolds := 0 } } →
    (s.home.work = none → settleStore s = settleStore v) ∧
    (∀ c : ClaimBody, s.home.work = some (.claim c) →
      settleStore s = settleStore (finishClaim (offerClassOne c.handle.station
        (.deny { handle := c.handle, account := c.account, reason := .homeBusy }) v))) ∧
    (∀ (h : Handle) (a total : Nat) (final : Bool), s.home.work = some (.charge h a total final false) →
      ((∀ b ∈ s.home.backlog, b.handle ≠ h) →
        settleStore s = settleStore { v with home := { s.home with work := none, backlog := s.home.backlog ++
          [{ handle := h, account := a, total := total, final := final }] } }) ∧
      ((∃ b ∈ s.home.backlog, b.handle = h) →
        settleStore s = settleStore { v with home := { s.home with work := none, backlog := s.home.backlog.map (fun b =>
          if b.handle = h then { b with total := max b.total total, final := b.final || final } else b) } })) ∧
    (∀ (h : Handle) (a total : Nat) (final : Bool), s.home.work = some (.charge h a total final true) →
      settleStore s = settleStore { v with home := { s.home with work := none, draining := false } })) ∧
  (∀ s : State, s.home.draining = true → s.home.work = none → (s.store.hold ≠ .pending ∨ s.store.access ≠ none) →
    (∀ w : HostWork, s.store.hostWork = some w → (∀ n, w ≠ .probe n) → (∀ n mask, w ≠ .flip n mask) →
      s.store.access ≠ none → settleStore s = s) ∧
    (s.store.hostWork = none → ∀ (b : BacklogEntry) (rest : List BacklogEntry) (base : State),
      (s.home.backlog = [] → settleStore s = settleStore { s with home := { s.home with draining := false } }) ∧
      (s.home.backlog = b :: rest → base = { s with home := { s.home with backlog := rest } } →
        (s.home.find b.handle = none →
          (b.total = 0 → settleStore s = settleStore base) ∧
          (0 < b.total → settleStore s = settleStore (offerClassOne b.handle.station
            (.refuse { handle := b.handle, account := b.account, total := b.total }) base))) ∧
        (∀ (e : HomeEntry) (heard v : State), s.home.find b.handle = some e →
          heard = { s with home := { s.home with list := s.home.list.map (fun x => if x.handle = e.handle then
            { x with silence := 180, expiryPutOff := false } else x) } } →
          v = (if e.state = .moving ∧ b.final = true then heard.grantsMadeNew e.successor else heard) →
          (s.store.hold = .held → settleStore s = settleStore { s with home := { s.home with draining := false } }) ∧
          (s.store.hold ≠ .held → b.total ≤ e.applied → ∀ x : State, x = settleEntry b.handle b.total b.final v →
            settleStore s = settleStore { x with home := { x.home with backlog := rest } }) ∧
          (s.store.hold ≠ .held → e.applied < b.total → s.home.quarantined e.account = true → ∀ x : State,
            x = settleEntry b.handle b.total b.final
              (addHeld e.account (some b.handle) (b.total - e.applied) v) →
            settleStore s = settleStore { x with home := { x.home with backlog := rest } }) ∧
          (s.store.hold ≠ .held → e.applied < b.total → s.home.quarantined e.account = false →
            settleStore s = settleStore { v with home := { v.home with
              work := some (.charge b.handle e.account b.total b.final true) } }))))) ∧
  (∀ (code : ResultCode) (s : State), answerHolds code 0 s = s ∧
    ∀ n : Nat, answerHolds code (n + 1) s = answerHolds code n (offerResult .hold code [] s))

/-- R141, R142 and R143: HOLD, RELEASE and the hold timer's expiry, for every finding. The order of the RESULT or the fault and
what the hold's end brings, the reading of bodies that are not empty, and 0 as an expiry that is due are the model's
(log entries 35, 18, 4); so is that an expiry which is not due changes nothing (log entry 1). -/
def Obligations.HoldAndRelease : Prop :=
  ∀ s : State,
    (∀ (b : List Byte) (u : State), s.takesNow (.command .hold b) → u = s.taking (.command .hold b) →
      (s.station.state ≠ .inService → exec (.hold b) s = .next (offerResult .hold .refusedState [] u)) ∧
      (s.station.state = .inService → b ≠ [] → exec (.hold b) s = .next (offerResult .hold .badField [] u)) ∧
      (s.station.state = .inService → b = [] → s.supply.state = .low →
        exec (.hold b) s = .next (offerResult .hold .refusedState [] u)) ∧
      (s.station.state = .inService → b = [] → s.supply.state = .normal →
        (s.store.hold = .notHeld → s.store.access = none →
          exec (.hold b) s = .next (offerResult .hold .done []
            { u with store := { s.store with hold := .held, holdTimer := some 10 } })) ∧
        (s.store.hold = .notHeld ∧ s.store.access ≠ none ∨ s.store.hold = .pending →
          exec (.hold b) s = .next
            { u with store := { s.store with hold := .pending, waitingHolds := s.store.waitingHolds + 1 } }) ∧
        (s.store.hold = .held → exec (.hold b) s = .next (offerResult .hold .done [] u)))) ∧
    (∀ (b : List Byte) (u ended : State), s.takesNow (.command .release b) → u = s.taking (.command .release b) →
      ended = settleStore { u with store := { s.store with hold := .notHeld, holdTimer := none },
                                   home := { s.home with draining := !s.home.backlog.isEmpty } } →
      (s.station.state ≠ .inService → exec (.release b) s = .next (offerResult .release .refusedState [] u)) ∧
      (s.station.state = .inService → b ≠ [] → exec (.release b) s = .next (offerResult .release .badField [] u)) ∧
      (s.station.state = .inService → b = [] → s.store.hold ≠ .held →
        exec (.release b) s = .next (offerResult .release .refusedState [] u)) ∧
      (s.station.state = .inService → b = [] → s.store.hold = .held →
        exec (.release b) s = .next (offerResult .release .done [] ended))) ∧
    (∀ v : State, s.inReset = false → s.store.hold = .held → s.store.holdTimer = some 0 →
      v = logFault .holdExpired Subject.blank s →
      exec .holdTimerExpiry s = .next (settleStore
        { v with store := { s.store with hold := .notHeld, holdTimer := none },
                 home := { s.home with draining := !s.home.backlog.isEmpty } })) ∧
    (s.store.holdTimer ≠ some 0 → exec .holdTimerExpiry s = .next s)

/-- R144, R145: the scrub's request and its step, for each outcome. R136, R137: a word found CORRECTED is counted in
its segment, and SPARE_ADVISED is logged once, at the count of 8; the order of the two faults of one word is the
model's reading (log entry 39). R146, R147: STORE PROBE and STORE FLIP, for every finding, and their accesses; the layouts of
their bodies and of the RESULT's data are read from the formats (log entry 14), and that an access's replies and faults come before
the arbiter goes on is the model's choice (log entry 46). -/
def Obligations.ScrubProbeAndFlip : Prop :=
  (∀ (s v : State) (n : Nat) (r : WordRead), s.inReset = false → n = s.store.scrubPointer → n < 2048 → r = s.store.decode n →
    (s.store.scrubTimerRunning = true →
      exec .scrubTimerExpiry s = .next (settleStore
        { s with store := { s.store with scrubTimerRunning := false, scrubRequest := true } })) ∧
    (s.store.access = some .scrub →
      (r.outcome = .clean ∧ v = s ∨
       r.outcome = .corrected ∧ v = countCorrected n { s with store := { s.store with
         words := s.store.words.write n (freshCode (s.store.mapping n) r.data) } } ∨
       r.outcome = .uncorrectable ∧ n / 4 < s.home.count ∧
         v = listAccount .storeUncorrectable (s.home.first + n / 4) n s ∨
       r.outcome = .uncorrectable ∧ s.home.count ≤ n / 4 ∧
         v = logFault .storeUncorrectable { Subject.blank with segment := some (n / 256), word := some n } s) →
      exec .scrubStep s = .next (State.accessOver
        { v with store := { v.store with scrubPointer := (n + 1) % 2048, scrubTimerRunning := true } }))) ∧
  (∀ (n : Nat) (g : Fin 8) (s : State), n / 256 = g.val →
    ∀ (count : Nat) (u v : State), count = min 15 (s.store.corrected[g] + 1) →
      u = { s with store := { s.store with corrected := s.store.corrected.set g count } } →
      (s.store.corrected[g] < 8 ∧ count = 8 ∧ s.store.advised[g] = false ∧
          v = logFault .spareAdvised { Subject.blank with segment := some g.val }
                { u with store := { u.store with advised := s.store.advised.set g true } } ∨
        (8 ≤ s.store.corrected[g] ∨ count ≠ 8 ∨ s.store.advised[g] = true) ∧ v = u) →
      countCorrected n s = logFault .storeCorrected { Subject.blank with segment := some g.val, word := some n } v) ∧
  (∀ (s : State) (b : List Byte),
      (∀ (i : Instr) (kind : CommandKind) (u : State),
        (i = .storeProbe b ∧ kind = .storeProbe ∨ i = .storeFlip b ∧ kind = .storeFlip) →
        s.takesNow (.command kind b) → u = s.taking (.command kind b) →
        (s.station.state ≠ .inService ∨ s.store.hold ≠ .held →
          exec i s = .next (offerResult kind .refusedState [] u)) ∧
        (s.station.state = .inService → s.store.hold = .held →
          (b.length ≠ (match kind with | .storeProbe => 2 | _ => 7) ∨ 2047 < fieldOf b 0 2 →
            exec i s = .next (offerResult kind .badField [] u)) ∧
          (∀ (n : Nat) (mask : StoredWord), n < 2048 →
            (i = .storeProbe b → b = bytesOf 2 n →
              exec i s = .next (settleStore { u with store := { s.store with hostWork := some (.probe n) } })) ∧
            (i = .storeFlip b → b = bytesOf 2 n ++ bytesOf 5 mask.toNat →
              exec i s = .next (settleStore { u with store := { s.store with hostWork := some (.flip n mask) } }))))) ∧
      (∀ (n : Nat) (mask : StoredWord) (c : StoredWord), s.inReset = false → s.store.access = some .host → n < 2048 →
        c = takenCode (s.store.mapping n) (s.store.words.read n) →
        (s.store.hostWork = some (.probe n) →
          exec .hostCommandAccessEnd s = .next (State.hostOver (offerReply .probeData
            (bytesOf 2 n ++ bytesOf 5 (s.store.words.read n).toNat ++ bytesOf 1 ((s.store.mapping n).getD 255) ++
              bytesOf 1 (syndromeOf c + (if oddParity c then 64 else 0)) ++
              bytesOf 1 (match outcomeOf (syndromeOf c) (oddParity c) with
                | .clean => 0 | .corrected => 1 | .uncorrectable => 2)) s))) ∧
        (s.store.hostWork = some (.flip n mask) →
          exec .hostCommandAccessEnd s = .next (State.hostOver (offerResult .storeFlip .done (bytesOf 2 n)
            { s with store := { s.store with words := s.store.words.write n (s.store.words.read n ^^^ mask) } })))))

/-! ### Column sparing -/

/-- R153 and R154: SPARE SET, for every finding, and the migration's request. R155, R156: a migration step, for each outcome,
before the last word of the segment and at it. The widths of the RESULT's data are read from the formats (log entry 14); that
SPARE SET's RESULT DONE comes after the listing or fault of the last word, and before a PENDING hold is entered and its HOLDs are
answered, is the model's choice (log entries 49, 46). -/
def Obligations.SpareSetAndMigration : Prop :=
  (∀ (s : State),
    (∀ (b : List Byte) (u : State), s.takesNow (.command .spareSet b) → u = s.taking (.command .spareSet b) →
      (s.station.state ≠ .inService → exec (.spareSet b) s = .next (offerResult .spareSet .refusedState [] u)) ∧
      (s.station.state = .inService →
        (b.length ≠ 2 ∨ 7 < fieldOf b 0 1 ∨ 38 < fieldOf b 1 1 ∧ fieldOf b 1 1 ≠ 255 →
          exec (.spareSet b) s = .next (offerResult .spareSet .badField [] u)) ∧
        (∀ (g : Fin 8) (entry : Option Nat), (∀ p, entry = some p → p ≤ 38) →
          b = bytesOf 1 g.val ++ bytesOf 1 (entry.getD 255) →
          (s.store.migration ≠ none → exec (.spareSet b) s = .next (offerResult .spareSet .busy [] u)) ∧
          (s.store.migration = none → exec (.spareSet b) s = .next { u with store := { s.store with
            migration := some { segment := g, pendingEntry := entry, pointer := 0, timerRunning := true } } })))) ∧
    (∀ m : Migration, s.inReset = false → s.store.migration = some m → m.timerRunning = true →
      exec .migrationStepTimerExpiry s = .next (settleStore { s with store := { s.store with
        migration := some { m with timerRunning := false }, migrationRequest := true } }))) ∧
  (∀ (s v w : State) (m : Migration) (n : Nat) (r : WordRead) (stored : StoredWord), s.inReset = false →
    s.store.access = some .migration → s.store.migration = some m → m.pointer < 256 → n = 256 * m.segment.val + m.pointer →
    r = readStored s.store.spareMap[m.segment] (s.store.words.read n) →
    (r.outcome = .clean ∧ v = s ∧ stored = freshCode m.pendingEntry r.data ∨
     r.outcome = .corrected ∧ v = countCorrected n s ∧ stored = freshCode m.pendingEntry r.data ∨
     r.outcome = .uncorrectable ∧ stored = withSpare m.pendingEntry r.code ∧
       (n / 4 < s.home.count ∧ v = listAccount .storeUncorrectable (s.home.first + n / 4) n s ∨
        s.home.count ≤ n / 4 ∧
          v = logFault .storeUncorrectable { Subject.blank with segment := some m.segment.val, word := some n } s)) →
    w = { v with store := { v.store with words := s.store.words.write n stored } } →
    (m.pointer < 255 → exec .migrationStep s = .next (State.accessOver { w with store := { w.store with
      migration := some { m with pointer := m.pointer + 1, timerRunning := true } } })) ∧
    (m.pointer = 255 → exec .migrationStep s = .next (State.accessOver (offerResult .spareSet .done
      (bytesOf 1 m.segment.val ++ bytesOf 1 (m.pendingEntry.getD 255))
      { w with store := { w.store with
          migration := none, spareMap := s.store.spareMap.set m.segment m.pendingEntry,
          corrected := w.store.corrected.set m.segment 0, advised := w.store.advised.set m.segment false } }))))

/-! ### The rack bus -/

/-- R164: the findings on a train in their order, the check of the contents of a frame that has passed, and which contents
that check refuses; R163: a broken train leaves the receiver waiting for idle, and till then it takes no train. What is handed
over is R165's. -/
def Obligations.TrainsAndContentsChecked : Prop :=
  (∀ (bytes : List Byte) (broken : Bool) (n : Nat) (s u bad : State), s.inReset = false → n = fieldOf bytes 3 1 →
    u = { s with bus := { s.bus with idle := false, deferral := none } } → bad = logFault .busCheck Subject.blank u →
    (s.station.state = .strapFault → exec (.frameReceived bytes broken) s = .next s) ∧
    (s.station.state ≠ .strapFault → s.bus.awaitsIdle = true → exec (.frameReceived bytes broken) s = .next u) ∧
    (s.station.state ≠ .strapFault → s.bus.awaitsIdle = false →
      (broken = true → exec (.frameReceived bytes broken) s =
        .next (logFault .busCheck Subject.blank { u with bus := { u.bus with awaitsIdle := true } })) ∧
      (broken = false → bytes.length < 4 ∨ n ≤ 40 ∧ bytes.length < 6 + n →
        exec (.frameReceived bytes broken) s = .next u) ∧
      (broken = false → 4 ≤ bytes.length → 40 < n ∨ 6 + n < bytes.length ∨
          n ≤ 40 ∧ bytes.length = 6 + n ∧ fieldOf bytes (4 + n) 2 ≠ (frameCheck (bytes.take (4 + n))).toNat →
        exec (.frameReceived bytes broken) s = .next bad) ∧
      (broken = false → n ≤ 40 → bytes.length = 6 + n →
        fieldOf bytes (4 + n) 2 = (frameCheck (bytes.take (4 + n))).toNat →
        exec (.frameReceived bytes broken) s = .next
          (takePassed (fieldOf bytes 0 1) (fieldOf bytes 1 1) (fieldOf bytes 2 1) ((bytes.drop 4).take n) u)))) ∧
  (∀ (destination source kind : Nat) (body : List Byte) (s v : State),
    v = { s with bus := { s.bus with lastSender := source } } →
    (15 < source → takePassed destination source kind body s =
      logFault .busCheck { Subject.blank with address := some source } s) ∧
    (source ≤ 15 → (15 < destination ∧ destination ≠ 255) ∨ readContents source kind body = .bad →
      takePassed destination source kind body s = logFault .busCheck { Subject.blank with address := some source } v) ∧
    (source ≤ 15 → destination ≤ 15 ∨ destination = 255 →
      (readContents source kind body = .notTaken → takePassed destination source kind body s = v) ∧
      (∀ f : Handed, readContents source kind body = .frame f →
        takePassed destination source kind body s = handOver destination source f v))) ∧
  (∀ (source kind : Nat) (body : List Byte), readContents source kind body = .bad ↔
    ¬ (1 ≤ kind ∧ kind ≤ 9 ∨ 32 ≤ kind ∧ kind ≤ 49 ∨ 64 ≤ kind ∧ kind ≤ 69) ∨
    (kind = 1 ∧ body.length ≠ 11) ∨
    (kind = 2 ∧ (¬ (body.length = 8 ∧ fieldOf body 6 1 = 0 ∨ body.length = 11 ∧ fieldOf body 6 1 = 1) ∨
      7 < fieldOf body 7 1)) ∨
    (kind = 3 ∧ (body.length ≠ 7 ∨ 7 < fieldOf body 6 1)) ∨
    (kind = 4 ∧ ¬ (body.length = 11 ∧ fieldOf body 10 1 % 2 = 0 ∨
      body.length = 12 ∧ fieldOf body 10 1 % 2 = 1 ∧ fieldOf body 11 1 ≤ 10)) ∨
    ((kind = 5 ∨ kind = 6) ∧ body.length ≠ 9) ∨
    (kind = 7 ∧ body.length ≠ 6) ∨
    (kind = 8 ∧ body.length ≠ 2) ∨
    (kind = 9 ∧ (body.length < 4 ∨ 36 < body.length ∨ ∃ c ∈ body.drop 4, 127 < c.toNat)))

/-- R165: which frames are handed to the blocks, by the station state, the kind, the destination and the source; R167:
they wait there in bus order. That a frame which no block takes is not handed over is the model's reading (log entry
20). -/
def Obligations.FramesHandedToTheirBlocks : Prop :=
  ∀ (destination source : Nat) (f : Handed) (s h rejected : State),
    h = { s with bus := { s.bus with handed := s.bus.handed ++ [f] } } →
    rejected = logFault .commandRejected { Subject.blank with address := some source } s →
    (s.station.state = .strapFault → handOver destination source f s = s) ∧
    (s.station.state = .starting →
      ((∃ b, f = .command .statusRead b) → destination = s.own → source = 0 → handOver destination source f s = h) ∧
      ((∀ b, f ≠ .command .statusRead b) ∨ destination ≠ s.own ∨ source ≠ 0 → handOver destination source f s = s)) ∧
    (s.station.state = .awaitingConfig ∨ s.station.state = .inService →
      ((∃ d, f = .data d) ∨ (∃ k b, f = .command k b) →
        (destination ≠ s.own → destination ≠ 255 → handOver destination source f s = s) ∧
        (destination = s.own ∨ destination = 255 → source ≠ 0 → handOver destination source f s = rejected) ∧
        (destination = 255 → source = 0 →
          (∀ b, f ≠ .command .configure b ∧ f ≠ .command .time b ∧ f ≠ .command .tariffLoad b) →
          handOver destination source f s = rejected) ∧
        (source = 0 → (destination = s.own ∧ destination ≠ 255 ∨
            destination = 255 ∧ ∃ b, f = .command .configure b ∨ f = .command .time b ∨ f = .command .tariffLoad b) →
          handOver destination source f s = h)) ∧
      (∀ c, f = .claim c → handOver destination source f s = if s.home.inRange c.account then h else s) ∧
      (∀ d, f = .detach d → handOver destination source f s = if s.home.inRange d.account then h else s) ∧
      (∀ c, f = .charge c →
        handOver destination source f s = if c.home = s.own ∧ s.home.inRange c.account = true then h else s) ∧
      (∀ c, f = .cutoff c → handOver destination source f s = if c.handle.station = s.own then h else s) ∧
      (∀ r, f = .refuse r → handOver destination source f s = if r.handle.station = s.own then h else s) ∧
      ((∃ a g, f = .grant a g) ∨ (∃ a d, f = .deny a d) ∨ (∃ a t, f = .tally a t) → handOver destination source f s = h))

/-- R163, R166 and R169: the deferral count at an idle bus, whose coming ends the wait after a broken train, when a transmission
starts, which entry it takes and how that entry is filled (R25, R89), and when none starts. -/
def Obligations.TurnsAndTransmissionStarts : Prop :=
  (∀ s : State, s.inReset = false → s.bus.lastSender ≤ 15 →
    (s.station.state ≠ .strapFault → ∃ d : Nat, d ≤ 15 ∧ (d + s.bus.lastSender + 1) % 16 = s.own % 16 ∧
      exec .busIdle s = .next { s with bus := { s.bus with idle := true, awaitsIdle := false, deferral := some d } }) ∧
    exec .trainStart s = .next { s with bus := { s.bus with idle := false, deferral := none } }) ∧
  (∀ (slot : Nat) (s : State) (before after : List Entry) (e : Entry) (u : Payload → State), s.inReset = false →
    s.bus.idle = true → s.bus.deferral = some (slot % 16) → s.station.state ≠ .strapFault →
    s.bus.handed = [] → s.store.hostWork = none →
    (s.home.work = none ∨ ∃ h a t f, s.home.work = some (.charge h a t f true)) →
    (∀ x ∈ s.bus.queue, x.inFlight = false) → s.bus.queue = before ++ e :: after →
    (∀ x ∈ before, e.payload.class < x.payload.class) → (∀ x ∈ after, e.payload.class ≤ x.payload.class) →
    (∀ p : Payload, u p = { s with bus := { s.bus with
      queue := before ++ { e with inFlight := true, payload := p } :: after, idle := false, deferral := none } }) →
    (∀ (c : ChargeBody) (k : Fin 12), e.payload = .charge c (some k) →
      exec (.transmissionStart slot) s = .next ((u e.payload).setSlot k { s.table.slots[k] with
        session := s.table.slots[k].session.map (fun x => { x with finalStatus := some .inFlight }) })) ∧
    (∀ t : TallyBody, e.payload = .tally t →
      exec (.transmissionStart slot) s = .next
        { u (.tally { t with count := s.tally }) with table := { s.table with tallyOwed := false } }) ∧
    (∀ (l : Fin 8) (h : Handle) (f : Option DataFill), e.payload = .data l h f →
      (s.lines[l].pendingBreak = none →
        exec (.transmissionStart slot) s = .next (u (.data l h (some
          { chars := s.lines[l].rxRing.map RxChar.code, breakFlag := false, ringCleared := false })))) ∧
      (∀ p : Nat, s.lines[l].pendingBreak = some p →
        exec (.transmissionStart slot) s = .next (u (.data l h (some
          { chars := (s.lines[l].rxRing.take p).map RxChar.code, breakFlag := true, ringCleared := false }))))) ∧
    ((∀ c k, e.payload ≠ .charge c (some k)) → (∀ t, e.payload ≠ .tally t) → (∀ l h f, e.payload ≠ .data l h f) →
      exec (.transmissionStart slot) s = .next (u e.payload))) ∧
  (∀ (slot : Nat) (s : State),
    (s.bus.idle = false ∨ s.bus.deferral ≠ some (slot % 16) ∨ s.station.state = .strapFault ∨ s.bus.handed ≠ [] ∨
      s.store.hostWork ≠ none ∨ (∃ c, s.home.work = some (.claim c)) ∨
      (∃ h a t f, s.home.work = some (.charge h a t f false)) ∨ (∃ x ∈ s.bus.queue, x.inFlight = true) ∨
      s.bus.queue = []) →
    exec (.transmissionStart slot) s = .next s)

/-- R167 and R171: what is sent leaves the queue, its owner is told (R45, R87, R25), the freed place is offered, and the frame
is taken as a received one. R87, R43: a slot freed by its final CHARGE, and reserved at once for a context that awaits it;
that this comes before the offer of the freed place, and the check and hand-over of the own frame after it, are the model's
choices (log entry 11), as is that the event changes nothing with no entry in flight (log entry 1). -/
def Obligations.SentFramesLeaveTheQueue : Prop :=
  (∀ (s u v : State) (before after : List Entry) (e : Entry), s.inReset = false → s.bus.queue = before ++ e :: after →
    (∀ x ∈ before, x.inFlight = false) → e.inFlight = true →
    u = { s with bus := { s.bus with queue := before ++ after } } →
    ((∃ c k, e.payload = .charge c (some k) ∧ v = releaseSlot k u) ∨
      (∃ c k x, e.payload = .claim c ∧ s.matched c.handle = some (k, x) ∧ x.state = .claiming ∧
        v = u.setSlot k { s.table.slots[k] with claimTimer := some 2 }) ∨
      (∃ l h f, e.payload = .data l h (some f) ∧ f.ringCleared = false ∧
        v = u.setLine l { s.lines[l] with
              rxRing := s.lines[l].rxRing.drop f.chars.length,
              pendingBreak := if f.breakFlag then none
                              else s.lines[l].pendingBreak.map (fun p => p - f.chars.length) }) ∨
      ((∀ c k, e.payload ≠ .charge c (some k)) ∧
        (∀ c k x, e.payload = .claim c → s.matched c.handle = some (k, x) → x.state ≠ .claiming) ∧
        (∀ l h f, e.payload = .data l h (some f) → f.ringCleared = true) ∧ v = u)) →
    exec .frameSent s = .next (takePassed e.destination s.own e.payload.kindCode e.payload.body (offerFreed v))) ∧
  (∀ s : State, (∀ x ∈ s.bus.queue, x.inFlight = false) → exec .frameSent s = .next s) ∧
  (∀ (k : Fin 12) (s u : State), u = s.setSlot k { s.table.slots[k] with claimTimer := none, session := none } →
    ((∀ (l : Fin 8) (d : Dialogue), s.lines[l].dialogue = some d → d.step = .slotWait → d.awaitedSlot ≠ some k) → releaseSlot k s = u) ∧
    (∀ (l : Fin 8) (d : Dialogue), s.lines[l].dialogue = some d → d.step = .slotWait → d.awaitedSlot = some k →
      (∀ j : Fin 8, j < l → ∀ x : Dialogue, s.lines[j].dialogue = some x → x.step = .slotWait → x.awaitedSlot ≠ some k) →
      releaseSlot k s = reserveSlot k l d u))

/-- R168 and R171: a mismatch returns the entry in flight to WAITING in its place with one mismatch more, and at the
eighth the entry is dropped with BUS_JAM; the owner's part is R87's, R69's, R25's, R26's and R45's. The order of the
fault, the owner and the offer at a drop is the model's choice (log entry 11), as are that the event changes nothing with no
entry in flight (log entry 1) and that a stopped GRANT's MOVING entry is that of the old handle it names (log entry 47). -/
def Obligations.MismatchesStopOrDropTheEntry : Prop :=
  (∀ (s : State) (before after : List Entry) (e : Entry), s.inReset = false → s.bus.queue = before ++ e :: after →
    (∀ x ∈ before, x.inFlight = false) → e.inFlight = true →
    (e.mismatches + 1 < 8 → ∀ (p : Payload) (v : State),
      ((∃ g old, e.payload = .grant g ∧ g.oldHandle = some old ∧
          (∀ y ∈ s.home.list, y.handle = old → y.state = .moving → y.successor ≠ some g.handle) ∧
          p = .grant { g with oldHandle := none }) ∨
        (∃ g, e.payload = .grant g ∧ p = e.payload ∧ ∀ old, g.oldHandle = some old →
          ∃ y ∈ s.home.list, y.handle = old ∧ y.state = .moving ∧ y.successor = some g.handle) ∨
        (∃ l h f, e.payload = .data l h f ∧ p = .data l h none) ∨
        ((∀ g, e.payload ≠ .grant g) ∧ (∀ l h f, e.payload ≠ .data l h f) ∧ p = e.payload)) →
      v = { s with bus := { s.bus with queue :=
        before ++ { e with inFlight := false, mismatches := e.mismatches + 1, payload := p } :: after } } →
      (∀ c k, e.payload = .charge c (some k) →
        exec .readBackMismatch s = .next (v.setSlot k { s.table.slots[k] with
          session := s.table.slots[k].session.map (fun x => { x with finalStatus := some .queued }) })) ∧
      (∀ c, e.payload = .charge c none →
        (s.matched c.handle = none → exec .readBackMismatch s = .next v) ∧
        (∀ k x, s.matched c.handle = some (k, x) → exec .readBackMismatch s = .next (offerFinal k v))) ∧
      (∀ l h f, e.payload = .data l h (some f) → f.ringCleared = true → (∀ y ∈ before, Entry.dataOn l y = false) →
        exec .readBackMismatch s = .next (offerFreed { s with bus := { s.bus with queue := before ++ after } })) ∧
      ((∀ c k, e.payload ≠ .charge c k) → (∀ l h f, e.payload = .data l h (some f) → f.ringCleared = false) →
        exec .readBackMismatch s = .next v)) ∧
    (8 ≤ e.mismatches + 1 → ∀ u : State,
      u = logFault .busJam { Subject.blank with address := some e.destination }
            { s with bus := { s.bus with queue := before ++ after } } →
      (∀ c k, e.payload = .charge c (some k) → exec .readBackMismatch s = .next (offerFreed (releaseSlot k u))) ∧
      (∀ c k x, e.payload = .claim c → s.matched c.handle = some (k, x) → x.state = .claiming → ∀ w : State,
        w = u.setSlot k { s.table.slots[k] with claimTimer := none, session := none } →
        (x.abandoned = true → exec .readBackMismatch s = .next (offerFreed w)) ∧
        (∀ l, x.abandoned = false → x.line = some l →
          exec .readBackMismatch s = .next (offerFreed (hangUp l (placeText l FixedText.noResponse.chars w))))) ∧
      ((∀ c k, e.payload ≠ .charge c (some k)) →
        (∀ c k x, e.payload = .claim c → s.matched c.handle = some (k, x) → x.state ≠ .claiming) →
        exec .readBackMismatch s = .next (offerFreed u)))) ∧
  (∀ s : State, (∀ x ∈ s.bus.queue, x.inFlight = false) → exec .readBackMismatch s = .next s)

/-- R170: class-1 frames and replies offered with room, with a DATA entry to displace, and to a full queue. R171: with
one place free, the order in which it is offered; R88: an owed TALLY that finds no room is dropped with its fault. That a
displaced place is the class-1 frame's own before other offers, and the count a TALLY shows before its transmission starts,
are the model's choices (log entries 36, 27). -/
def Obligations.OffersAndFreedPlaces : Prop :=
  (∀ (destination : Nat) (p : Payload) (kind : ReplyKind) (body : List Byte) (s : State),
    (s.bus.queue.length < 24 →
      offerClassOne destination p s = s.queued destination p ∧ offerReply kind body s = s.queued 0 (.reply kind body)) ∧
    (24 ≤ s.bus.queue.length →
      offerReply kind body s = logFault .txQueueFull { Subject.blank with address := some 0 } s ∧
      ((∀ e ∈ s.bus.queue, Entry.isData e = true → e.inFlight = true) →
        offerClassOne destination p s = logFault .txQueueFull { Subject.blank with address := some destination } s) ∧
      (∀ (before after : List Entry) (e : Entry), s.bus.queue = before ++ e :: after → Entry.isData e = true →
        e.inFlight = false → (∀ x ∈ after, Entry.isData x = true → x.inFlight = true) →
        offerClassOne destination p s = offerFreed (s.setQueue (before ++ after ++
          [{ destination := destination, payload := p, inFlight := false, mismatches := 0 }]))))) ∧
  (∀ s : State, s.bus.queue.length = 23 →
    (∀ (k : Fin 12) (x : Session) (cause : EndCause), s.table.slots[k].session = some x → x.state = .ending →
      x.finalStatus = some .waiting → x.endCause = some cause →
      (∀ (j : Fin 12) (y : Session), j < k → s.table.slots[j].session = some y → y.state = .ending →
        y.finalStatus ≠ some .waiting) →
      (∀ e ∈ s.bus.queue, ∀ c o, e.payload ≠ .charge c o) →
      (offerFreed s).bus.queue = s.bus.queue ++
        [{ destination := x.home.getD 0,
           payload := .charge { handle := s.handleAt k, account := x.account, home := x.home.getD 0, total := x.total,
                                endCause := some cause } (some k),
           inFlight := false, mismatches := 0 }]) ∧
    ((∀ (j : Fin 12) (y : Session), s.table.slots[j].session = some y → y.state = .ending →
        y.finalStatus ≠ some .waiting) →
      (s.table.tallyOwed = true → s.inService = true → (∀ e ∈ s.bus.queue, Entry.isTally e = false) →
        (offerFreed s).bus.queue = s.bus.queue ++
          [{ destination := 255, payload := .tally { count := s.tally, restart := s.table.restartDue },
             inFlight := false, mismatches := 0 }]) ∧
      (s.table.tallyOwed = false → ∀ (l : Fin 8) (k : Fin 12), s.lines[l].trigger = true →
        s.lines[l].servedSlot = some k → (∀ e ∈ s.bus.queue, Entry.dataOn l e = false) →
        (∀ j : Fin 8, j < l → s.lines[j].trigger = false ∨ ∃ e ∈ s.bus.queue, Entry.dataOn j e = true) →
        offerFreed s = s.queued 0 (.data l (s.handleAt k) none)))) ∧
  (∀ s : State, 24 ≤ s.bus.queue.length → s.table.tallyOwed = true → s.inService = true →
    (∀ e ∈ s.bus.queue, Entry.isTally e = false) →
    (∀ (j : Fin 12) (y : Session), s.table.slots[j].session = some y → y.state = .ending →
      y.finalStatus ≠ some .waiting) →
    offerFreed s = logFault .txQueueFull { Subject.blank with address := some 255 }
      { s with table := { s.table with tallyOwed := false } })

/-- The formats of 10_rack_bus.md (section 10.5), both ways: a frame laid out as its formats say passes the check and reads
back as it was sent, for every well-formed body; R163: its train takes 60 bit times and 10 more for each byte of body. -/
def Obligations.FramesReadBackAsSent : Prop :=
  (∀ (destination source kind : Nat) (body bytes : List Byte), destination < 256 → source < 256 → kind < 256 →
    body.length ≤ 40 → bytes = frameBytes destination source kind body →
    findingOf bytes false = .passed ∧ fieldOf bytes 0 1 = destination ∧ fieldOf bytes 1 1 = source ∧
      fieldOf bytes 2 1 = kind ∧ (bytes.drop 4).take (fieldOf bytes 3 1) = body ∧
      (trainBits bytes).length = 60 + 10 * body.length) ∧
  (∀ source : Nat,
    (∀ c : ClaimBody, c.wf = true → readContents source 1 c.bytes = .frame (.claim c)) ∧
    (∀ g : GrantBody, g.wf = true → readContents source 2 g.bytes = .frame (.grant source g)) ∧
    (∀ d : DenyBody, d.wf = true → readContents source 3 d.bytes = .frame (.deny source d)) ∧
    (∀ c : ChargeBody, c.wf = true → readContents source 4 c.bytes = .frame (.charge c)) ∧
    (∀ c : CutoffBody, c.wf = true → readContents source 5 c.bytes = .frame (.cutoff c)) ∧
    (∀ r : RefuseBody, r.wf = true → readContents source 6 r.bytes = .frame (.refuse r)) ∧
    (∀ d : DetachBody, d.wf = true → readContents source 7 d.bytes = .frame (.detach d)) ∧
    (∀ t : TallyBody, t.wf = true → readContents source 8 t.bytes = .frame (.tally source t)) ∧
    (∀ d : DataBody, d.wf = true → readContents source 9 d.bytes = .frame (.data d)) ∧
    (∀ (k : CommandKind) (body : List Byte), readContents source k.code body = .frame (.command k body)))

/-- R55, R138, R165, R167: a frame that its station does not serve changes nothing, and one that must wait stands among the
frames handed over (log entry 19). One that no block of the station takes (a CLAIM, DETACH or CHARGE outside the range, a CHARGE
of another home, a CUTOFF or REFUSE of another station's handle) waits for nothing and has no effect (R55, R165, log entry 20). A command never changes the queue of the commands that wait (log entry 1). -/
def Obligations.FramesWaitTheirTurn : Prop :=
  (∀ (c : Instr) (f : Handed) (s : State), carried c = some f →
    (s.serves f = false → exec c s = .next s) ∧
    (s.serves f = true → s.mustWait f = true →
      (f ∈ s.bus.handed → exec c s = .next s) ∧
      (f ∉ s.bus.handed →
        exec c s = .next { s with bus := { s.bus with handed := s.bus.handed ++ [f] } })) ∧
    (s.serves f = true →
      (∃ x : ClaimBody, f = .claim x ∧ s.home.inRange x.account = false) ∨
        (∃ x : DetachBody, f = .detach x ∧ s.home.inRange x.account = false) ∨
        (∃ x : ChargeBody, f = .charge x ∧ (x.home ≠ s.own ∨ s.home.inRange x.account = false)) ∨
        (∃ x : CutoffBody, f = .cutoff x ∧ x.handle.station ≠ s.own) ∨
        (∃ x : RefuseBody, f = .refuse x ∧ x.handle.station ≠ s.own) →
      exec c s = .next (s.taking f))) ∧
  (∀ (c : Instr) (s t : State), exec c s = .next t → t.pending = s.pending)

/-! ### Station commands -/

/-- R172, with the formats of CONFIGURE: every finding, and what an accepted CONFIGURE stores, starts and queues. The count the
restart TALLY shows before its transmission starts, and a first account number above 999,999 as it is held, are the model's
choices (log entries 27, 6). -/
def Obligations.ConfigureFindings : Prop :=
  ∀ (b : List Byte) (s u : State), s.takesNow (.command .configure b) → u = s.taking (.command .configure b) →
    (s.station.state ≠ .awaitingConfig → exec (.configure b) s = .next (offerResult .configure .refusedState [] u)) ∧
    (s.station.state = .awaitingConfig →
      (b.length ≠ 40 → exec (.configure b) s = .next (offerResult .configure .badField [] u)) ∧
      (b.length = 40 → s.bus.queue ≠ [] → exec (.configure b) s = .next (offerResult .configure .busy [] u)) ∧
      (b.length = 40 → s.bus.queue = [] → ∀ (first count peak offPeak scrub : Nat) (prompt : Nat → List Byte → List Nat),
        first = fieldOf b 0 3 →
        count = (if 999999 < first then 0 else min (min (fieldOf b 3 2) 512) (1000000 - first)) →
        peak = max 1 (min 86400 (fieldOf b 8 3)) → offPeak = max 1 (min 86400 (fieldOf b 11 3)) → scrub = fieldOf b 14 1 →
        (∀ n bs, prompt n bs = ((bs.take (min n 12)).map BitVec.toNat).takeWhile
          (fun c => decide (32 ≤ c ∧ c ≤ 126))) →
        exec (.configure b) s = .next (offerResult .configure .done []
          (State.queued { u with
              station := { s.station with
                state := .inService,
                settings := some {
                  answerRings := max 1 (min 8 (fieldOf b 5 1)), detachGrace := min 150 (fieldOf b 6 1),
                  sessionCap := max 1 (fieldOf b 7 1), userPrompt := prompt (fieldOf b 15 1 / 16) (b.drop 16),
                  passwordPrompt := prompt (fieldOf b 15 1 % 16) (b.drop 28) } },
              home := { s.home with first := first, count := count },
              meter := { s.meter with band := .peak, remaining := peak, running := true, peakLength := some peak,
                                      offPeakLength := some offPeak },
              store := { s.store with scrubInterval := some scrub, scrubTimerRunning := decide (0 < scrub),
                                      migration := s.store.migration.map (fun m => { m with timerRunning := true }) },
              table := { s.table with heartbeat := some 10, restartDue := false } } 255
            (.tally { count := s.tally, restart := s.table.restartDue })))))

/-- R173, with the format of STATUS DATA: the reply, or BAD_FIELD; and what the 30 bytes of the reply hold, for a state whose
counts are in the ranges that their rules give them; no reply is sent in STRAP_FAULT, for which the formats give no code. -/
def Obligations.StatusDataLayout : Prop :=
  (∀ (b : List Byte) (s u : State), s.takesNow (.command .statusRead b) → u = s.taking (.command .statusRead b) →
    (b.length ≠ 1 ∨ 1 < fieldOf b 0 1 → exec (.statusRead b) s = .next (offerResult .statusRead .badField [] u)) ∧
    (∀ part : Nat, part ≤ 1 → b = bytesOf 1 part →
      exec (.statusRead b) s = .next (offerReply .statusData (statusBody part s) u))) ∧
  (∀ (part : Nat) (s : State) (d : List Byte), part ≤ 1 → s.station.state ≠ .strapFault → s.own ≤ 15 → s.census < 256 →
    s.home.unbilled < 16777216 → s.meter.overflow < 65536 → s.station.outputDiscards < 65536 → d = statusBody part s →
    d.length = 30 ∧ fieldOf d 0 1 = part ∧
    fieldOf d 1 1 =
      64 * (if s.station.state = .starting then 0 else if s.station.state = .awaitingConfig then 1 else 2) +
        16 * (match s.station.resetCause with | .powerOn => 0 | .brownout => 1 | .pin => 2 | .command => 3) +
        4 * (match s.store.hold with | .notHeld => 0 | .pending => 1 | .held => 2) +
        2 * (match s.supply.state with | .normal => 0 | .low => 1) ∧
    fieldOf d 2 1 = s.own + (if s.station.eightLines then 16 else 0) ∧
    fieldOf d 3 1 = s.census ∧ fieldOf d 4 1 = s.tally ∧
    (s.store.migration = none → fieldOf d 5 2 = 0) ∧
    (∀ m : Migration, s.store.migration = some m → m.pointer < 512 →
      fieldOf d 5 2 = 32768 + 4096 * m.segment.val + m.pointer) ∧
    fieldOf d 7 3 = s.home.unbilled ∧ fieldOf d 10 2 = s.meter.overflow ∧ fieldOf d 12 2 = s.station.outputDiscards ∧
    (∀ (j : Nat) (l : Fin 8), j < 4 → l.val = 4 * part + j → s.lines[l].speedClass < 4 →
      s.lines[l].framingErrors < 256 → s.lines[l].receiveOverruns < 256 → s.lines[l].outputDiscards < 256 →
      fieldOf d (14 + 4 * j) 1 = 16 * s.lines[l].state.code + s.lines[l].speedClass ∧
        fieldOf d (15 + 4 * j) 1 = s.lines[l].framingErrors ∧ fieldOf d (16 + 4 * j) 1 = s.lines[l].receiveOverruns ∧
        fieldOf d (17 + 4 * j) 1 = s.lines[l].outputDiscards))

/-! ### Faults, supply and start-up -/

/-- R177 to R180, and R3 for permission: a fault event masked, filling a FIRST record, and joining a LATER set; the
counter, the notice and the notice that meets a full queue; when permission holds, and what its re-evaluation does to the
lines. The ring filter of a line that loses permission is the model's reading (log entry 30). -/
def Obligations.FaultEventsLogged : Prop :=
  (∀ (k : FaultKind) (x : Subject) (s : State) (g : SeverityLog), g = s.faults.severityLog k.severity →
    (s.faults.masks.getLsbD k.code = true → s.ringingPermitted → logFault k x s = s) ∧
    (s.faults.masks.getLsbD k.code = false → ∀ (n : Nat) (o : Bool) (u : SeverityLog → State),
      (s.faults.selected.getLsbD k.code = false ∧ n = s.faults.count ∧ o = s.faults.overflow ∨
        s.faults.selected.getLsbD k.code = true ∧ s.faults.count < 127 ∧ n = s.faults.count + 1 ∧ o = s.faults.overflow ∨
        s.faults.selected.getLsbD k.code = true ∧ 127 ≤ s.faults.count ∧ n = 127 ∧ o = true) →
      (∀ y, u y = settlePermission
        { s with faults := { s.faults.setSeverity k.severity y with count := n, overflow := o } }) →
      (∀ r, g.first = some r → logFault k x s = u { g with later := g.later ||| BitVec.twoPow 16 k.code }) ∧
      (g.first = none → ∀ (r : FirstRecord) (v : State), r = { kind := k, time := s.faults.stationTime, subject := x } →
        v = u { g with first := some r } →
        (g.action = .none ∨ s.station.state = .strapFault → logFault k x s = v) ∧
        (g.action ≠ .none → s.station.state ≠ .strapFault →
          (s.bus.queue.length < 24 →
            logFault k x s = v.queued 0 (.reply .faultNotice (noticeBody k.severity r))) ∧
          (24 ≤ s.bus.queue.length →
            logFault k x s = logFault .txQueueFull { Subject.blank with address := some 0 } v))))) ∧
  (∀ s : State, (s.permission = true → settlePermission s = s) ∧
    (s.permission = false → settlePermission s = { s with lines := (settlePermission s).lines } ∧
      ∀ l : Fin 8, (s.lines[l].state ≠ .ringing → (settlePermission s).lines[l] = s.lines[l]) ∧
        (s.lines[l].state = .ringing → (settlePermission s).lines[l] =
          { s.lines[l] with state := .idle, ringCount := 0, timer := none, ringFilter := .absent }))) ∧
  (∀ s : State, s.permission = true ↔ s.station.state = .inService ∧ s.supply.state = .normal ∧
    ∀ g : SeverityLog, (g = s.faults.corrected ∨ g = s.faults.degraded ∨ g = s.faults.failing) →
      g.action = .noticeAndBusyOut → g.first = none)

/-- R181 to R184: FAULT READ, FAULT CLEAR and FAULT SETUP, for every finding, with the layout of FAULT DATA. -/
def Obligations.FaultCommandFindings : Prop :=
  ∀ (b : List Byte) (s : State),
    (s.takesNow (.command .faultRead b) → ∀ u : State, u = s.taking (.command .faultRead b) →
      (b.length ≠ 1 ∨ 2 < fieldOf b 0 1 → exec (.faultRead b) s = .next (offerResult .faultRead .badField [] u)) ∧
      (∀ (v : Severity) (g : SeverityLog) (rest : List Byte), b = bytesOf 1 v.code → g = s.faults.severityLog v →
        rest = bytesOf 2 g.later.toNat ++ bytesOf 1 s.faults.count ++ [if s.faults.overflow then 1 else 0] →
        (g.first = none → exec (.faultRead b) s = .next (offerReply .faultData
          (bytesOf 1 v.code ++ List.replicate 26 0 ++ rest) u)) ∧
        (∀ r, g.first = some r → exec (.faultRead b) s = .next (offerReply .faultData
          (bytesOf 1 v.code ++ [1] ++ bytesOf 1 r.kind.code ++ bytesOf 3 r.time ++ r.subject.bytes ++ rest) u)))) ∧
    (s.takesNow (.command .faultClear b) → ∀ u : State, u = s.taking (.command .faultClear b) →
      (b.length ≠ 4 ∨ (∃ i < 4, 1 < fieldOf b i 1) →
        exec (.faultClear b) s = .next (offerResult .faultClear .badField [] u)) ∧
      (∀ (c d f k : Bool) (emptied : Bool → SeverityLog → SeverityLog),
        b = flagByte c ++ flagByte d ++ flagByte f ++ flagByte k →
        (∀ x g, emptied x g = if x then { g with first := none, later := 0 } else g) →
        exec (.faultClear b) s = .next (offerResult .faultClear .done [] (settlePermission
          { u with faults := { s.faults with
              corrected := emptied c s.faults.corrected, degraded := emptied d s.faults.degraded,
              failing := emptied f s.faults.failing, count := if k then 0 else s.faults.count,
              overflow := if k then false else s.faults.overflow } })))) ∧
    (s.takesNow (.command .faultSetup b) → ∀ u : State, u = s.taking (.command .faultSetup b) →
      (b.length ≠ 7 ∨ (∃ i, 4 ≤ i ∧ i < 7 ∧ 2 < fieldOf b i 1) →
        exec (.faultSetup b) s = .next (offerResult .faultSetup .badField [] u)) ∧
      (∀ (masks selected : KindSet) (c d f : Action) (code : Action → Nat),
        code .none = 0 → code .notice = 1 → code .noticeAndBusyOut = 2 →
        b = bytesOf 2 masks.toNat ++ bytesOf 2 selected.toNat ++ bytesOf 1 (code c) ++ bytesOf 1 (code d) ++
          bytesOf 1 (code f) →
        exec (.faultSetup b) s = .next (offerResult .faultSetup .done [] (settlePermission
          { u with faults := { s.faults with
              masks := masks, selected := selected, corrected := { s.faults.corrected with action := c },
              degraded := { s.faults.degraded with action := d },
              failing := { s.faults.failing with action := f } } }))))

/-- R186, with R109, R141 and R143: the supply's events, the checkpoint and what becomes of a hold. The level held as
a flag, the order of the falls' effects, and that an event without its timer or level changes nothing are the model's choices
(log entries 3, 35, 1). -/
def Obligations.SupplyEvents : Prop :=
  (∀ s : State,
    (s.inReset = false → s.supply.state = .normal → ∀ w : State,
      w = checkpoint (settlePermission (logFault .powerLow Subject.blank
            { s with supply := { state := .low, recoveryRunning := false, aboveWarn := false } })) →
      (s.store.hold = .notHeld → exec .supplyBelowWarn s = .next w) ∧
      (s.store.hold = .held → exec .supplyBelowWarn s = .next (endHold w)) ∧
      (s.store.hold = .pending → exec .supplyBelowWarn s = .next (answerHolds .refusedState s.store.waitingHolds
        { w with store := { s.store with hold := .notHeld, waitingHolds := 0 } }))) ∧
    (s.inReset = true ∨ s.supply.state = .low →
      exec .supplyBelowWarn s = .next
        { s with supply := { s.supply with recoveryRunning := false, aboveWarn := false } }) ∧
    (s.inReset = false → s.supply.state = .low →
      exec .supplyAboveWarn s = .next { s with supply := { s.supply with recoveryRunning := true, aboveWarn := true } } ∧
      (s.supply.recoveryRunning = true →
        exec .recoveryTimerExpiry s = .next (settlePermission
          { s with supply := { s.supply with state := .normal, recoveryRunning := false } })) ∧
      (s.supply.recoveryRunning = false → exec .recoveryTimerExpiry s = .next s)) ∧
    (s.inReset = true ∨ s.supply.state = .normal →
      exec .supplyAboveWarn s = .next { s with supply := { s.supply with aboveWarn := true } } ∧
      exec .recoveryTimerExpiry s = .next s)) ∧
  (∀ s : State, checkpoint s = { s with table := { s.table with slots := (checkpoint s).table.slots },
                                        bus := { s.bus with queue := (checkpoint s).bus.queue } } ∧
    (∀ k : Fin 12, (checkpoint s).table.slots[k] = { s.table.slots[k] with
      session := s.table.slots[k].session.map (fun x =>
        if x.state = .active ∨ x.state = .cutoffGrace ∨ x.state = .detached then { x with postCounter := 0 } else x) }) ∧
    ((∀ e ∈ s.bus.queue, ∀ c o, e.payload ≠ .charge c o) →
      (checkpoint s).bus.queue = s.bus.queue ++ ((List.finRange 12).filterMap (fun k =>
        s.table.slots[k].session.bind (fun x =>
          if x.state = .active ∨ x.state = .cutoffGrace ∨ x.state = .detached then
            some { destination := x.home.getD 0,
                   payload := .charge { handle := s.handleAt k, account := x.account, home := x.home.getD 0,
                                        total := x.total, endCause := none } none,
                   inFlight := false, mismatches := 0 }
          else none))).take (24 - s.bus.queue.length)))

/-- R187, with R21, R92, R93, R112, R130, R149, R157, R158, R175 and R185: how a reset of each kind begins. For a PIN reset
that cuts off an access, the words of the access are as before or as the access writes them (R139, log entry 7). The station
state shown during a reset, the supply's level, the words before the store clear, the scrub pointer after a step cut off, the
values where the manual has the band timer STOPPED and the range empty are the model's choices, and that the receiver reads no
train before the bus is idle is its reading (log entries 25, 3, 16, 29, 6, 15). -/
def Obligations.ResetsBegin : Prop :=
  (∀ s : State, ∃ t : State, exec .resetPinAsserted s = .next t ∧ s.keptAcross t ∧
    t.lines = linesAfterReset s.station.eightLines ∧
    t.supply = { state := .low, recoveryRunning := false, aboveWarn := s.supply.aboveWarn } ∧
    t.station = { s.station with state := .starting, settings := none, force := { s.station.force with pin := true } } ∧
    t.bus = { lastSender := 0, idle := false, awaitsIdle := true, deferral := none, queue := [],
              census := Vector.replicate 16 none, handed := [] }) ∧
  (∀ s : State, ∃ t u : State, exec .powerApplied s = .next t ∧ exec .supplyBelowReset s = .next u ∧
    t = { State.reset with
            lines := linesAfterReset s.station.eightLines, store := { Store.cleared with words := s.store.words },
            station := { s.station with
              state := .starting, settings := none, outputDiscards := 0,
              force := { s.station.force with powerOn := true, powerOnBegan := true } },
            freeDraws := s.freeDraws, pending := s.pending } ∧
    u = { t with station := { t.station with force := { s.station.force with brownout := true, brownoutBegan := true } } }) ∧
  (∀ (eight : Bool) (l : Fin 8), (linesAfterReset eight)[l] =
    { state := if eight = true ∨ l.val < 4 then .idle else .disabled, terminalReady := false, ringFilter := .absent,
      ringCount := 0, carrierFilter := .absent, timer := none, speedClass := 0, servedSlot := none, receiver := .idle,
      sending := none, rxRing := [], pendingBreak := none, txStation := [], txHost := [], framingErrors := 0,
      receiveOverruns := 0, outputDiscards := 0, dialogue := none })

/-- R187 to R189, R174: how a reset ends, and that a reset in progress holds every block. R148: the end of the store
clear. That the recovery timer starts at the end of a reset with the supply above WARN, what STATION RESET keeps of an access
it cuts off, the release of a pin or a rise of the supply that ends no reset, the station's shape during a reset, the values
where the manual has the band timer STOPPED and the range empty, and that the receiver reads no train before the bus is idle are
the model's readings and choices (log entries 3, 7, 29, 1, 25, 6, 15). -/
def Obligations.ResetsEnd : Prop :=
  (∀ (p : Straps) (s t : State), p.address < 16 →
    t = { s with
      lines := linesAfterReset p.eightLines, supply := { s.supply with recoveryRunning := s.supply.aboveWarn },
      station := { s.station with
        state := if p.address = 0 then .strapFault else if s.store.clearComplete then .awaitingConfig else .starting,
        address := p.address, eightLines := p.eightLines,
        resetCause := if s.station.force.powerOnBegan then .powerOn
                      else if s.station.force.brownoutBegan then .brownout else .pin,
        force := ResetForce.clear } } →
    (s.station.force.pin = true → s.station.force.powerOn = false → s.station.force.brownout = false →
      exec (.resetPinReleased p) s = .next t) ∧
    (s.station.force.pin = true → s.station.force.powerOn = true ∨ s.station.force.brownout = true →
      exec (.resetPinReleased p) s = .next
        { s with station := { s.station with force := { s.station.force with pin := false } } }) ∧
    (s.station.force.pin = false → exec (.resetPinReleased p) s = .next s) ∧
    (s.station.force.powerOn = true ∨ s.station.force.brownout = true →
      (s.station.force.pin = false → exec (.supplyAboveReset p) s = .next t) ∧
      (s.station.force.pin = true → exec (.supplyAboveReset p) s = .next
        { s with station := { s.station with force :=
          { s.station.force with powerOn := false, brownout := false } } })) ∧
    (s.station.force.powerOn = false → s.station.force.brownout = false →
      exec (.supplyAboveReset p) s = .next s)) ∧
  (∀ (b : List Byte) (p : Straps) (s : State), s.takesNow (.command .stationReset b) → p.address < 16 →
    ∃ t : State, exec (.stationReset b p) s = .next t ∧ (s.taking (.command .stationReset b)).keptAcross t ∧
      t.lines = linesAfterReset p.eightLines ∧
      t.supply = { state := .low, recoveryRunning := s.supply.aboveWarn, aboveWarn := s.supply.aboveWarn } ∧
      t.station = { s.station with
        state := if p.address = 0 then .strapFault else if s.store.clearComplete then .awaitingConfig else .starting,
        address := p.address, eightLines := p.eightLines, resetCause := .command, settings := none,
        force := ResetForce.clear }) ∧
  (∀ (c : Instr) (s : State), s.inReset = true → c ≠ .supplyBelowWarn → c ≠ .supplyAboveWarn → c ≠ .supplyBelowReset →
    c ≠ .powerApplied → c ≠ .resetPinAsserted → (∀ p, c ≠ .supplyAboveReset p ∧ c ≠ .resetPinReleased p) →
    exec c s = .next s) ∧
  (∀ s : State, s.inReset = false → s.station.state = .starting → s.store.clearComplete = false →
    exec .storeClearComplete s = .next { s with
      store := { s.store with words := [], clearComplete := true },
      station := { s.station with state := .awaitingConfig } } ∧
    (∀ n : Nat, Memory.read [] n = 0))

/-! ### What every step keeps -/

/-- The record store's words keep their canonical form, the transmit queue its 24 places (R169), and no line is RINGING
without answering permission (R3), at every step. -/
def Obligations.StepsKeepStoreQueueAndRinging : Prop :=
  ∀ s t : State, step s = .next t →
    (s.wordsCanonical → t.wordsCanonical) ∧ (s.queueFits → t.queueFits) ∧ (s.ringingPermitted → t.ringingPermitted)

/-- Every step keeps what a line state gives its line (R1, R35): a served slot exactly in CLAIMING and ONLINE, a dialogue
context exactly in SPEED_DETECT, SIGNON and CLAIMING, a line timer only in the states that use one. -/
def Obligations.StepsKeepLinesShaped : Prop :=
  ∀ s t : State, s.linesShaped → step s = .next t → t.linesShaped

/-- Every step keeps each of the bounds that the rules give: one entry IN_FLIGHT (R167, R169), one CHARGE for a handle, one TALLY
and one DATA entry for a line (R169), the places of the rings (R22, R30), the digest of a password being typed (R39), the places
of the home's lists (R56, R158), its distinct handles, detach order and successors (R56), the census entries that stay absent
(R90), the selected-fault counter (R178), the tariffs and the sessions' counts (R102), and the ranges of the home and the store, in
which every access lies (R54, R131). -/
def Obligations.StepsKeepBounds : Prop :=
  ∀ s t : State, step s = .next t →
    (s.oneInFlight → t.oneInFlight) ∧ (s.queueUnrepeated → t.queueUnrepeated) ∧ (s.ringsFit → t.ringsFit) ∧
    (s.digestsAgree → t.digestsAgree) ∧ (s.homeFits → t.homeFits) ∧ (s.ownCensusAbsent → t.ownCensusAbsent) ∧
    (s.faultCountFits → t.faultCountFits) ∧ (s.homeListConsistent → t.homeListConsistent) ∧
    (s.meterFits → t.meterFits) ∧ (s.withinStore → t.withinStore)

/-- R78, with R1, R35, R79, R87 and R169: every step keeps lines and sessions bound to each other, the detach order as the list of
the DETACHED sessions, and the queued final CHARGEs as those of ENDING sessions. -/
def Obligations.StepsKeepCallsConsistent : Prop :=
  ∀ s t : State, s.callsConsistent → step s = .next t → t.callsConsistent

/-- The state after reset meets what every step keeps. -/
def Obligations.ResetMeetsWhatStepsKeep : Prop :=
  State.reset.wordsCanonical ∧ State.reset.queueFits ∧ State.reset.ringingPermitted ∧ State.reset.oneInFlight ∧
    State.reset.ringsFit ∧ State.reset.digestsAgree ∧ State.reset.homeFits ∧ State.reset.ownCensusAbsent ∧
    State.reset.faultCountFits ∧ State.reset.homeListConsistent ∧ State.reset.meterFits ∧ State.reset.withinStore ∧
    State.reset.callsConsistent
end

