-- ==== Sys2Proof/Laws/Memory.lean ====
section
/-! SUPPORT. The laws of the record store's words: read after write, and that every operation that writes them keeps their
canonical form. -/

namespace Sys2Proof.Machine

/-- A list whose numbers start at `n` reads as zero below `n`. -/
theorem Memory.read_below {n a : Nat} {m : Memory} (h : Memory.wfFrom n m = true) (lt : a < n) : m.read a = 0 := by
  cases m with
  | nil => rfl
  | cons p rest =>
    simp only [Memory.wfFrom, Bool.and_eq_true, decide_eq_true_eq] at h
    have : a < p.1 := Nat.lt_of_lt_of_le lt h.1.1.1
    simp [Memory.read, Nat.ne_of_lt this, this]

/-- A canonical list from `n` on is canonical from any lower number on. -/
theorem Memory.wfFrom_mono {n k : Nat} {m : Memory} (h : Memory.wfFrom n m = true) (le : k ≤ n) :
    Memory.wfFrom k m = true := by
  cases m with
  | nil => rfl
  | cons p rest =>
    simp only [Memory.wfFrom, Bool.and_eq_true, decide_eq_true_eq] at h ⊢
    exact ⟨⟨⟨by omega, h.1.1.2⟩, h.1.2⟩, h.2⟩

/-- Reading the word just written gives what was written. -/
theorem Memory.read_write_same {k n : Nat} {m : Memory} (v : StoredWord) (h : Memory.wfFrom k m = true) :
    (m.write n v).read n = v := by
  induction m generalizing k with
  | nil => by_cases hv : v = 0#40 <;> simp [Memory.write, Memory.read, hv]
  | cons p rest ih =>
    simp only [Memory.wfFrom, Bool.and_eq_true, decide_eq_true_eq] at h
    unfold Memory.write
    by_cases he : n = p.1
    · by_cases hv : v = 0#40
      · simp [he, hv, Memory.read_below h.2 (Nat.lt_succ_self _)]
      · simp [he, hv, Memory.read]
    · by_cases hl : n < p.1
      · by_cases hv : v = 0#40 <;> simp [he, hl, hv, Memory.read]
      · simpa [he, hl, Memory.read] using ih h.2

/-- Writing one word leaves every other word as it was. -/
theorem Memory.read_write_other {k n a : Nat} {m : Memory} (v : StoredWord) (h : Memory.wfFrom k m = true) (ne : a ≠ n) :
    (m.write n v).read a = m.read a := by
  induction m generalizing k with
  | nil => by_cases hv : v = 0#40 <;> simp [Memory.write, Memory.read, hv, ne]
  | cons p rest ih =>
    simp only [Memory.wfFrom, Bool.and_eq_true, decide_eq_true_eq] at h
    unfold Memory.write
    by_cases he : n = p.1
    · have ne' : a ≠ p.1 := he ▸ ne
      by_cases hv : v = 0#40
      · by_cases hl : a < p.1
        · simp [he, hv, Memory.read, ne', hl, Memory.read_below h.2 (Nat.lt_succ_of_lt hl)]
        · simp [he, hv, Memory.read, ne', hl]
      · simp [he, hv, Memory.read, ne']
    · by_cases hl : n < p.1
      · by_cases hv : v = 0#40
        · simp [he, hl, hv]
        · by_cases ha : a < n
          · have : a < p.1 := Nat.lt_trans ha hl
            simp [he, hl, hv, Memory.read, ne, ha, Nat.ne_of_lt this, this]
          · simp [he, hl, hv, Memory.read, ne, ha]
      · by_cases ha : a = p.1
        · simp [he, hl, Memory.read, ha]
        · by_cases hb : a < p.1 <;> simp [he, hl, Memory.read, ha, hb, ih h.2]

/-- A write of a word that the store has keeps the canonical form from any number not above it. -/
theorem Memory.wfFrom_write {k n : Nat} {m : Memory} (v : StoredWord) (h : Memory.wfFrom k m = true) (hk : k ≤ n)
    (hn : n < Config.storeWords) : Memory.wfFrom k (m.write n v) = true := by
  induction m generalizing k with
  | nil => by_cases hv : v = 0#40 <;> simp [Memory.write, Memory.wfFrom, hv, hk, hn]
  | cons p rest ih =>
    simp only [Memory.wfFrom, Bool.and_eq_true, decide_eq_true_eq] at h
    unfold Memory.write
    by_cases he : n = p.1
    · by_cases hv : v = 0#40
      · simpa [he, hv] using Memory.wfFrom_mono h.2 (by omega)
      · simp [he, hv, Memory.wfFrom, h.1.1.1, h.1.1.2, h.2]
    · by_cases hl : n < p.1
      · by_cases hv : v = 0#40
        · simpa [he, hl, hv, Memory.wfFrom] using h
        · have hp : p.2 ≠ 0#40 := h.1.2
          have hm : n + 1 ≤ p.1 := hl
          rw [if_neg he, if_pos hl, if_neg (show ¬v = 0 from hv)]
          simp [Memory.wfFrom, hk, hn, hv, hm, h.1.1.2, hp, h.2]
      · simp only [he, hl, if_false, Memory.wfFrom, Bool.and_eq_true, decide_eq_true_eq]
        exact ⟨⟨⟨h.1.1.1, h.1.1.2⟩, h.1.2⟩, ih h.2 (by omega)⟩

/-- A write of a word that the store has keeps the canonical form. -/
theorem Memory.wf_write {n : Nat} {m : Memory} (v : StoredWord) (h : m.wf = true) (hn : n < Config.storeWords) :
    (m.write n v).wf = true := Memory.wfFrom_write v h (Nat.zero_le n) hn

/-- The words after reset are in canonical form. -/
theorem reset_wordsCanonical : State.reset.wordsCanonical := rfl

/-- The words of a cleared store are in canonical form. -/
theorem Memory.wf_nil : Memory.wf [] = true := rfl

/-- `setWords` with a write of one word keeps the canonical form (STORE FLIP and migration, R147, R155). -/
theorem wordsCanonical_setWords {n : Nat} {s : State} (v : StoredWord) (h : s.wordsCanonical) (hn : n < Config.storeWords) :
    (s.setWords (s.store.words.write n v)).wordsCanonical := Memory.wf_write v h hn

/-- A write of data bits keeps the canonical form. -/
theorem wordsCanonical_writeData {w : Nat} {s : State} (d : DataWord) (h : s.wordsCanonical) (hw : w < Config.storeWords) :
    (writeData w d s).wordsCanonical := Memory.wf_write _ h hw

/-- A record write keeps the canonical form. -/
theorem wordsCanonical_writeRecord {i : Nat} {s : State} (r : Record) (h : s.wordsCanonical) (hi : i < 512) :
    (writeRecord i r s).wordsCanonical := by
  have hw : ∀ j < 4, 4 * i + j < Config.storeWords := by intro j hj; show 4 * i + j < 2048; omega
  exact wordsCanonical_writeData _ (wordsCanonical_writeData _ (wordsCanonical_writeData _
    (wordsCanonical_writeData _ h (hw 0 (by decide))) (hw 1 (by decide))) (hw 2 (by decide))) (hw 3 (by decide))

end Sys2Proof.Machine
end

