-- ==== Sys2Proof/Laws/State.lean ====
section
/-! SUPPORT. One lemma per field of State for each update of one place, so that no later proof unfolds a record update. -/

namespace Sys2Proof.Machine

/-! ### State.setLine -/

@[simp] theorem State.setLine_lines (l : Fin 8) (x : Line) (s : State) :
    (s.setLine l x).lines = s.lines.set l x := rfl

@[simp] theorem State.setLine_table (l : Fin 8) (x : Line) (s : State) :
    (s.setLine l x).table = s.table := rfl

@[simp] theorem State.setLine_meter (l : Fin 8) (x : Line) (s : State) :
    (s.setLine l x).meter = s.meter := rfl

@[simp] theorem State.setLine_home (l : Fin 8) (x : Line) (s : State) :
    (s.setLine l x).home = s.home := rfl

@[simp] theorem State.setLine_store (l : Fin 8) (x : Line) (s : State) :
    (s.setLine l x).store = s.store := rfl

@[simp] theorem State.setLine_bus (l : Fin 8) (x : Line) (s : State) :
    (s.setLine l x).bus = s.bus := rfl

@[simp] theorem State.setLine_faults (l : Fin 8) (x : Line) (s : State) :
    (s.setLine l x).faults = s.faults := rfl

@[simp] theorem State.setLine_supply (l : Fin 8) (x : Line) (s : State) :
    (s.setLine l x).supply = s.supply := rfl

@[simp] theorem State.setLine_station (l : Fin 8) (x : Line) (s : State) :
    (s.setLine l x).station = s.station := rfl

@[simp] theorem State.setLine_freeDraws (l : Fin 8) (x : Line) (s : State) :
    (s.setLine l x).freeDraws = s.freeDraws := rfl

@[simp] theorem State.setLine_pending (l : Fin 8) (x : Line) (s : State) :
    (s.setLine l x).pending = s.pending := rfl

/-! ### State.modLine -/

@[simp] theorem State.modLine_lines (l : Fin 8) (f : Line → Line) (s : State) :
    (s.modLine l f).lines = s.lines.set l (f s.lines[l]) := rfl

@[simp] theorem State.modLine_table (l : Fin 8) (f : Line → Line) (s : State) :
    (s.modLine l f).table = s.table := rfl

@[simp] theorem State.modLine_meter (l : Fin 8) (f : Line → Line) (s : State) :
    (s.modLine l f).meter = s.meter := rfl

@[simp] theorem State.modLine_home (l : Fin 8) (f : Line → Line) (s : State) :
    (s.modLine l f).home = s.home := rfl

@[simp] theorem State.modLine_store (l : Fin 8) (f : Line → Line) (s : State) :
    (s.modLine l f).store = s.store := rfl

@[simp] theorem State.modLine_bus (l : Fin 8) (f : Line → Line) (s : State) :
    (s.modLine l f).bus = s.bus := rfl

@[simp] theorem State.modLine_faults (l : Fin 8) (f : Line → Line) (s : State) :
    (s.modLine l f).faults = s.faults := rfl

@[simp] theorem State.modLine_supply (l : Fin 8) (f : Line → Line) (s : State) :
    (s.modLine l f).supply = s.supply := rfl

@[simp] theorem State.modLine_station (l : Fin 8) (f : Line → Line) (s : State) :
    (s.modLine l f).station = s.station := rfl

@[simp] theorem State.modLine_freeDraws (l : Fin 8) (f : Line → Line) (s : State) :
    (s.modLine l f).freeDraws = s.freeDraws := rfl

@[simp] theorem State.modLine_pending (l : Fin 8) (f : Line → Line) (s : State) :
    (s.modLine l f).pending = s.pending := rfl

/-! ### State.setSlot -/

@[simp] theorem State.setSlot_lines (k : Fin 12) (x : Slot) (s : State) :
    (s.setSlot k x).lines = s.lines := rfl

@[simp] theorem State.setSlot_table (k : Fin 12) (x : Slot) (s : State) :
    (s.setSlot k x).table = { s.table with slots := s.table.slots.set k x } := rfl

@[simp] theorem State.setSlot_meter (k : Fin 12) (x : Slot) (s : State) :
    (s.setSlot k x).meter = s.meter := rfl

@[simp] theorem State.setSlot_home (k : Fin 12) (x : Slot) (s : State) :
    (s.setSlot k x).home = s.home := rfl

@[simp] theorem State.setSlot_store (k : Fin 12) (x : Slot) (s : State) :
    (s.setSlot k x).store = s.store := rfl

@[simp] theorem State.setSlot_bus (k : Fin 12) (x : Slot) (s : State) :
    (s.setSlot k x).bus = s.bus := rfl

@[simp] theorem State.setSlot_faults (k : Fin 12) (x : Slot) (s : State) :
    (s.setSlot k x).faults = s.faults := rfl

@[simp] theorem State.setSlot_supply (k : Fin 12) (x : Slot) (s : State) :
    (s.setSlot k x).supply = s.supply := rfl

@[simp] theorem State.setSlot_station (k : Fin 12) (x : Slot) (s : State) :
    (s.setSlot k x).station = s.station := rfl

@[simp] theorem State.setSlot_freeDraws (k : Fin 12) (x : Slot) (s : State) :
    (s.setSlot k x).freeDraws = s.freeDraws := rfl

@[simp] theorem State.setSlot_pending (k : Fin 12) (x : Slot) (s : State) :
    (s.setSlot k x).pending = s.pending := rfl

/-! ### State.modSlot -/

@[simp] theorem State.modSlot_lines (k : Fin 12) (f : Slot → Slot) (s : State) :
    (s.modSlot k f).lines = s.lines := rfl

@[simp] theorem State.modSlot_table (k : Fin 12) (f : Slot → Slot) (s : State) :
    (s.modSlot k f).table = { s.table with slots := s.table.slots.set k (f s.table.slots[k]) } := rfl

@[simp] theorem State.modSlot_meter (k : Fin 12) (f : Slot → Slot) (s : State) :
    (s.modSlot k f).meter = s.meter := rfl

@[simp] theorem State.modSlot_home (k : Fin 12) (f : Slot → Slot) (s : State) :
    (s.modSlot k f).home = s.home := rfl

@[simp] theorem State.modSlot_store (k : Fin 12) (f : Slot → Slot) (s : State) :
    (s.modSlot k f).store = s.store := rfl

@[simp] theorem State.modSlot_bus (k : Fin 12) (f : Slot → Slot) (s : State) :
    (s.modSlot k f).bus = s.bus := rfl

@[simp] theorem State.modSlot_faults (k : Fin 12) (f : Slot → Slot) (s : State) :
    (s.modSlot k f).faults = s.faults := rfl

@[simp] theorem State.modSlot_supply (k : Fin 12) (f : Slot → Slot) (s : State) :
    (s.modSlot k f).supply = s.supply := rfl

@[simp] theorem State.modSlot_station (k : Fin 12) (f : Slot → Slot) (s : State) :
    (s.modSlot k f).station = s.station := rfl

@[simp] theorem State.modSlot_freeDraws (k : Fin 12) (f : Slot → Slot) (s : State) :
    (s.modSlot k f).freeDraws = s.freeDraws := rfl

@[simp] theorem State.modSlot_pending (k : Fin 12) (f : Slot → Slot) (s : State) :
    (s.modSlot k f).pending = s.pending := rfl

/-! ### State.modSession -/

@[simp] theorem State.modSession_lines (k : Fin 12) (f : Session → Session) (s : State) :
    (s.modSession k f).lines = s.lines := rfl

@[simp] theorem State.modSession_table (k : Fin 12) (f : Session → Session) (s : State) :
    (s.modSession k f).table = { s.table with slots := s.table.slots.set k { s.table.slots[k] with session := s.table.slots[k].session.map f } } := rfl

@[simp] theorem State.modSession_meter (k : Fin 12) (f : Session → Session) (s : State) :
    (s.modSession k f).meter = s.meter := rfl

@[simp] theorem State.modSession_home (k : Fin 12) (f : Session → Session) (s : State) :
    (s.modSession k f).home = s.home := rfl

@[simp] theorem State.modSession_store (k : Fin 12) (f : Session → Session) (s : State) :
    (s.modSession k f).store = s.store := rfl

@[simp] theorem State.modSession_bus (k : Fin 12) (f : Session → Session) (s : State) :
    (s.modSession k f).bus = s.bus := rfl

@[simp] theorem State.modSession_faults (k : Fin 12) (f : Session → Session) (s : State) :
    (s.modSession k f).faults = s.faults := rfl

@[simp] theorem State.modSession_supply (k : Fin 12) (f : Session → Session) (s : State) :
    (s.modSession k f).supply = s.supply := rfl

@[simp] theorem State.modSession_station (k : Fin 12) (f : Session → Session) (s : State) :
    (s.modSession k f).station = s.station := rfl

@[simp] theorem State.modSession_freeDraws (k : Fin 12) (f : Session → Session) (s : State) :
    (s.modSession k f).freeDraws = s.freeDraws := rfl

@[simp] theorem State.modSession_pending (k : Fin 12) (f : Session → Session) (s : State) :
    (s.modSession k f).pending = s.pending := rfl

/-! ### State.setQueue -/

@[simp] theorem State.setQueue_lines (q : List Entry) (s : State) :
    (s.setQueue q).lines = s.lines := rfl

@[simp] theorem State.setQueue_table (q : List Entry) (s : State) :
    (s.setQueue q).table = s.table := rfl

@[simp] theorem State.setQueue_meter (q : List Entry) (s : State) :
    (s.setQueue q).meter = s.meter := rfl

@[simp] theorem State.setQueue_home (q : List Entry) (s : State) :
    (s.setQueue q).home = s.home := rfl

@[simp] theorem State.setQueue_store (q : List Entry) (s : State) :
    (s.setQueue q).store = s.store := rfl

@[simp] theorem State.setQueue_bus (q : List Entry) (s : State) :
    (s.setQueue q).bus = { s.bus with queue := q } := rfl

@[simp] theorem State.setQueue_faults (q : List Entry) (s : State) :
    (s.setQueue q).faults = s.faults := rfl

@[simp] theorem State.setQueue_supply (q : List Entry) (s : State) :
    (s.setQueue q).supply = s.supply := rfl

@[simp] theorem State.setQueue_station (q : List Entry) (s : State) :
    (s.setQueue q).station = s.station := rfl

@[simp] theorem State.setQueue_freeDraws (q : List Entry) (s : State) :
    (s.setQueue q).freeDraws = s.freeDraws := rfl

@[simp] theorem State.setQueue_pending (q : List Entry) (s : State) :
    (s.setQueue q).pending = s.pending := rfl

/-! ### State.joinQueue -/

@[simp] theorem State.joinQueue_lines (e : Entry) (s : State) :
    (s.joinQueue e).lines = s.lines := rfl

@[simp] theorem State.joinQueue_table (e : Entry) (s : State) :
    (s.joinQueue e).table = s.table := rfl

@[simp] theorem State.joinQueue_meter (e : Entry) (s : State) :
    (s.joinQueue e).meter = s.meter := rfl

@[simp] theorem State.joinQueue_home (e : Entry) (s : State) :
    (s.joinQueue e).home = s.home := rfl

@[simp] theorem State.joinQueue_store (e : Entry) (s : State) :
    (s.joinQueue e).store = s.store := rfl

@[simp] theorem State.joinQueue_bus (e : Entry) (s : State) :
    (s.joinQueue e).bus = { s.bus with queue := s.bus.queue ++ [e] } := rfl

@[simp] theorem State.joinQueue_faults (e : Entry) (s : State) :
    (s.joinQueue e).faults = s.faults := rfl

@[simp] theorem State.joinQueue_supply (e : Entry) (s : State) :
    (s.joinQueue e).supply = s.supply := rfl

@[simp] theorem State.joinQueue_station (e : Entry) (s : State) :
    (s.joinQueue e).station = s.station := rfl

@[simp] theorem State.joinQueue_freeDraws (e : Entry) (s : State) :
    (s.joinQueue e).freeDraws = s.freeDraws := rfl

@[simp] theorem State.joinQueue_pending (e : Entry) (s : State) :
    (s.joinQueue e).pending = s.pending := rfl

/-! ### State.rewriteWaiting -/

@[simp] theorem State.rewriteWaiting_lines (p : Entry → Bool) (f : Payload → Payload) (s : State) :
    (s.rewriteWaiting p f).lines = s.lines := rfl

@[simp] theorem State.rewriteWaiting_table (p : Entry → Bool) (f : Payload → Payload) (s : State) :
    (s.rewriteWaiting p f).table = s.table := rfl

@[simp] theorem State.rewriteWaiting_meter (p : Entry → Bool) (f : Payload → Payload) (s : State) :
    (s.rewriteWaiting p f).meter = s.meter := rfl

@[simp] theorem State.rewriteWaiting_home (p : Entry → Bool) (f : Payload → Payload) (s : State) :
    (s.rewriteWaiting p f).home = s.home := rfl

@[simp] theorem State.rewriteWaiting_store (p : Entry → Bool) (f : Payload → Payload) (s : State) :
    (s.rewriteWaiting p f).store = s.store := rfl

@[simp] theorem State.rewriteWaiting_bus (p : Entry → Bool) (f : Payload → Payload) (s : State) :
    (s.rewriteWaiting p f).bus = { s.bus with queue := s.bus.queue.map (fun e => if p e && !e.inFlight then { e with payload := f e.payload } else e) } := rfl

@[simp] theorem State.rewriteWaiting_faults (p : Entry → Bool) (f : Payload → Payload) (s : State) :
    (s.rewriteWaiting p f).faults = s.faults := rfl

@[simp] theorem State.rewriteWaiting_supply (p : Entry → Bool) (f : Payload → Payload) (s : State) :
    (s.rewriteWaiting p f).supply = s.supply := rfl

@[simp] theorem State.rewriteWaiting_station (p : Entry → Bool) (f : Payload → Payload) (s : State) :
    (s.rewriteWaiting p f).station = s.station := rfl

@[simp] theorem State.rewriteWaiting_freeDraws (p : Entry → Bool) (f : Payload → Payload) (s : State) :
    (s.rewriteWaiting p f).freeDraws = s.freeDraws := rfl

@[simp] theorem State.rewriteWaiting_pending (p : Entry → Bool) (f : Payload → Payload) (s : State) :
    (s.rewriteWaiting p f).pending = s.pending := rfl

/-! ### State.removeFirst -/

@[simp] theorem State.removeFirst_lines (p : Entry → Bool) (s : State) :
    (s.removeFirst p).lines = s.lines := rfl

@[simp] theorem State.removeFirst_table (p : Entry → Bool) (s : State) :
    (s.removeFirst p).table = s.table := rfl

@[simp] theorem State.removeFirst_meter (p : Entry → Bool) (s : State) :
    (s.removeFirst p).meter = s.meter := rfl

@[simp] theorem State.removeFirst_home (p : Entry → Bool) (s : State) :
    (s.removeFirst p).home = s.home := rfl

@[simp] theorem State.removeFirst_store (p : Entry → Bool) (s : State) :
    (s.removeFirst p).store = s.store := rfl

@[simp] theorem State.removeFirst_bus (p : Entry → Bool) (s : State) :
    (s.removeFirst p).bus = { s.bus with queue := s.bus.queue.eraseP p } := rfl

@[simp] theorem State.removeFirst_faults (p : Entry → Bool) (s : State) :
    (s.removeFirst p).faults = s.faults := rfl

@[simp] theorem State.removeFirst_supply (p : Entry → Bool) (s : State) :
    (s.removeFirst p).supply = s.supply := rfl

@[simp] theorem State.removeFirst_station (p : Entry → Bool) (s : State) :
    (s.removeFirst p).station = s.station := rfl

@[simp] theorem State.removeFirst_freeDraws (p : Entry → Bool) (s : State) :
    (s.removeFirst p).freeDraws = s.freeDraws := rfl

@[simp] theorem State.removeFirst_pending (p : Entry → Bool) (s : State) :
    (s.removeFirst p).pending = s.pending := rfl

/-! ### State.removeYoungest -/

@[simp] theorem State.removeYoungest_lines (p : Entry → Bool) (s : State) :
    (s.removeYoungest p).lines = s.lines := rfl

@[simp] theorem State.removeYoungest_table (p : Entry → Bool) (s : State) :
    (s.removeYoungest p).table = s.table := rfl

@[simp] theorem State.removeYoungest_meter (p : Entry → Bool) (s : State) :
    (s.removeYoungest p).meter = s.meter := rfl

@[simp] theorem State.removeYoungest_home (p : Entry → Bool) (s : State) :
    (s.removeYoungest p).home = s.home := rfl

@[simp] theorem State.removeYoungest_store (p : Entry → Bool) (s : State) :
    (s.removeYoungest p).store = s.store := rfl

@[simp] theorem State.removeYoungest_bus (p : Entry → Bool) (s : State) :
    (s.removeYoungest p).bus = { s.bus with queue := (s.bus.queue.reverse.eraseP p).reverse } := rfl

@[simp] theorem State.removeYoungest_faults (p : Entry → Bool) (s : State) :
    (s.removeYoungest p).faults = s.faults := rfl

@[simp] theorem State.removeYoungest_supply (p : Entry → Bool) (s : State) :
    (s.removeYoungest p).supply = s.supply := rfl

@[simp] theorem State.removeYoungest_station (p : Entry → Bool) (s : State) :
    (s.removeYoungest p).station = s.station := rfl

@[simp] theorem State.removeYoungest_freeDraws (p : Entry → Bool) (s : State) :
    (s.removeYoungest p).freeDraws = s.freeDraws := rfl

@[simp] theorem State.removeYoungest_pending (p : Entry → Bool) (s : State) :
    (s.removeYoungest p).pending = s.pending := rfl

/-! ### State.setHome -/

@[simp] theorem State.setHome_lines (h : Home) (s : State) :
    (s.setHome h).lines = s.lines := rfl

@[simp] theorem State.setHome_table (h : Home) (s : State) :
    (s.setHome h).table = s.table := rfl

@[simp] theorem State.setHome_meter (h : Home) (s : State) :
    (s.setHome h).meter = s.meter := rfl

@[simp] theorem State.setHome_home (h : Home) (s : State) :
    (s.setHome h).home = h := rfl

@[simp] theorem State.setHome_store (h : Home) (s : State) :
    (s.setHome h).store = s.store := rfl

@[simp] theorem State.setHome_bus (h : Home) (s : State) :
    (s.setHome h).bus = s.bus := rfl

@[simp] theorem State.setHome_faults (h : Home) (s : State) :
    (s.setHome h).faults = s.faults := rfl

@[simp] theorem State.setHome_supply (h : Home) (s : State) :
    (s.setHome h).supply = s.supply := rfl

@[simp] theorem State.setHome_station (h : Home) (s : State) :
    (s.setHome h).station = s.station := rfl

@[simp] theorem State.setHome_freeDraws (h : Home) (s : State) :
    (s.setHome h).freeDraws = s.freeDraws := rfl

@[simp] theorem State.setHome_pending (h : Home) (s : State) :
    (s.setHome h).pending = s.pending := rfl

/-! ### State.setStore -/

@[simp] theorem State.setStore_lines (t : Store) (s : State) :
    (s.setStore t).lines = s.lines := rfl

@[simp] theorem State.setStore_table (t : Store) (s : State) :
    (s.setStore t).table = s.table := rfl

@[simp] theorem State.setStore_meter (t : Store) (s : State) :
    (s.setStore t).meter = s.meter := rfl

@[simp] theorem State.setStore_home (t : Store) (s : State) :
    (s.setStore t).home = s.home := rfl

@[simp] theorem State.setStore_store (t : Store) (s : State) :
    (s.setStore t).store = t := rfl

@[simp] theorem State.setStore_bus (t : Store) (s : State) :
    (s.setStore t).bus = s.bus := rfl

@[simp] theorem State.setStore_faults (t : Store) (s : State) :
    (s.setStore t).faults = s.faults := rfl

@[simp] theorem State.setStore_supply (t : Store) (s : State) :
    (s.setStore t).supply = s.supply := rfl

@[simp] theorem State.setStore_station (t : Store) (s : State) :
    (s.setStore t).station = s.station := rfl

@[simp] theorem State.setStore_freeDraws (t : Store) (s : State) :
    (s.setStore t).freeDraws = s.freeDraws := rfl

@[simp] theorem State.setStore_pending (t : Store) (s : State) :
    (s.setStore t).pending = s.pending := rfl

/-! ### State.setWords -/

@[simp] theorem State.setWords_lines (m : Memory) (s : State) :
    (s.setWords m).lines = s.lines := rfl

@[simp] theorem State.setWords_table (m : Memory) (s : State) :
    (s.setWords m).table = s.table := rfl

@[simp] theorem State.setWords_meter (m : Memory) (s : State) :
    (s.setWords m).meter = s.meter := rfl

@[simp] theorem State.setWords_home (m : Memory) (s : State) :
    (s.setWords m).home = s.home := rfl

@[simp] theorem State.setWords_store (m : Memory) (s : State) :
    (s.setWords m).store = { s.store with words := m } := rfl

@[simp] theorem State.setWords_bus (m : Memory) (s : State) :
    (s.setWords m).bus = s.bus := rfl

@[simp] theorem State.setWords_faults (m : Memory) (s : State) :
    (s.setWords m).faults = s.faults := rfl

@[simp] theorem State.setWords_supply (m : Memory) (s : State) :
    (s.setWords m).supply = s.supply := rfl

@[simp] theorem State.setWords_station (m : Memory) (s : State) :
    (s.setWords m).station = s.station := rfl

@[simp] theorem State.setWords_freeDraws (m : Memory) (s : State) :
    (s.setWords m).freeDraws = s.freeDraws := rfl

@[simp] theorem State.setWords_pending (m : Memory) (s : State) :
    (s.setWords m).pending = s.pending := rfl

end Sys2Proof.Machine
end

