-- ==== Sys2Proof/Laws/Ops.lean ====
section
/-! SUPPORT. What each shared operation can do, said once: the fields it leaves alone (simp lemmas, one per field), and its
cases. -/

namespace Sys2Proof.Machine

/-! ### The fields that the operations leave alone -/

@[simp] theorem settlePermission_keeps (s : State) :
    (settlePermission s).table = s.table ∧ (settlePermission s).meter = s.meter ∧
    (settlePermission s).home = s.home ∧ (settlePermission s).store = s.store ∧ (settlePermission s).bus = s.bus ∧
    (settlePermission s).faults = s.faults ∧ (settlePermission s).supply = s.supply ∧
    (settlePermission s).station = s.station ∧ (settlePermission s).freeDraws = s.freeDraws ∧
    (settlePermission s).pending = s.pending := by
  refine ⟨?_, ?_, ?_, ?_, ?_, ?_, ?_, ?_, ?_, ?_⟩ <;> (unfold settlePermission; split <;> rfl)

@[simp] theorem logWith_keeps (n : Nat) (e : FaultEvent) (s : State) :
    (logWith n e s).table = s.table ∧ (logWith n e s).meter = s.meter ∧ (logWith n e s).home = s.home ∧
    (logWith n e s).store = s.store ∧ (logWith n e s).supply = s.supply ∧ (logWith n e s).station = s.station ∧
    (logWith n e s).freeDraws = s.freeDraws ∧ (logWith n e s).pending = s.pending ∧
    (logWith n e s).bus.lastSender = s.bus.lastSender ∧ (logWith n e s).bus.idle = s.bus.idle ∧
    (logWith n e s).bus.awaitsIdle = s.bus.awaitsIdle ∧ (logWith n e s).bus.deferral = s.bus.deferral ∧
    (logWith n e s).bus.census = s.bus.census ∧ (logWith n e s).bus.handed = s.bus.handed := by
  induction n generalizing e s with
  | zero => simp [logWith]
  | succ n ih =>
    refine ⟨?_, ?_, ?_, ?_, ?_, ?_, ?_, ?_, ?_, ?_, ?_, ?_, ?_, ?_⟩ <;>
      (simp only [logWith]; split <;> (try split) <;> simp [State.joinQueue, ih])

@[simp] theorem logFault_keeps (k : FaultKind) (x : Subject) (s : State) :
    (logFault k x s).table = s.table ∧ (logFault k x s).meter = s.meter ∧ (logFault k x s).home = s.home ∧
    (logFault k x s).store = s.store ∧ (logFault k x s).supply = s.supply ∧ (logFault k x s).station = s.station ∧
    (logFault k x s).freeDraws = s.freeDraws ∧ (logFault k x s).pending = s.pending ∧
    (logFault k x s).bus.lastSender = s.bus.lastSender ∧ (logFault k x s).bus.idle = s.bus.idle ∧
    (logFault k x s).bus.awaitsIdle = s.bus.awaitsIdle ∧ (logFault k x s).bus.deferral = s.bus.deferral ∧
    (logFault k x s).bus.census = s.bus.census ∧ (logFault k x s).bus.handed = s.bus.handed := by
  refine ⟨?_, ?_, ?_, ?_, ?_, ?_, ?_, ?_, ?_, ?_, ?_, ?_, ?_, ?_⟩ <;> (simp [logFault])

@[simp] theorem offerReply_keeps (k : ReplyKind) (b : List Byte) (s : State) :
    (offerReply k b s).table = s.table ∧ (offerReply k b s).meter = s.meter ∧ (offerReply k b s).home = s.home ∧
    (offerReply k b s).store = s.store ∧ (offerReply k b s).supply = s.supply ∧
    (offerReply k b s).station = s.station ∧ (offerReply k b s).freeDraws = s.freeDraws ∧
    (offerReply k b s).pending = s.pending ∧ (offerReply k b s).bus.lastSender = s.bus.lastSender ∧
    (offerReply k b s).bus.idle = s.bus.idle ∧ (offerReply k b s).bus.awaitsIdle = s.bus.awaitsIdle ∧
    (offerReply k b s).bus.deferral = s.bus.deferral ∧ (offerReply k b s).bus.census = s.bus.census ∧
    (offerReply k b s).bus.handed = s.bus.handed := by
  refine ⟨?_, ?_, ?_, ?_, ?_, ?_, ?_, ?_, ?_, ?_, ?_, ?_, ?_, ?_⟩ <;> (unfold offerReply; split <;> simp [State.joinQueue, logQueueFull])

@[simp] theorem offerResult_keeps (k : CommandKind) (c : ResultCode) (d : List Byte) (s : State) :
    (offerResult k c d s).table = s.table ∧ (offerResult k c d s).meter = s.meter ∧
    (offerResult k c d s).home = s.home ∧ (offerResult k c d s).store = s.store ∧
    (offerResult k c d s).supply = s.supply ∧ (offerResult k c d s).station = s.station ∧
    (offerResult k c d s).freeDraws = s.freeDraws ∧ (offerResult k c d s).pending = s.pending ∧
    (offerResult k c d s).bus.lastSender = s.bus.lastSender ∧ (offerResult k c d s).bus.idle = s.bus.idle ∧
    (offerResult k c d s).bus.awaitsIdle = s.bus.awaitsIdle ∧ (offerResult k c d s).bus.deferral = s.bus.deferral ∧
    (offerResult k c d s).bus.census = s.bus.census ∧ (offerResult k c d s).bus.handed = s.bus.handed := by
  refine ⟨?_, ?_, ?_, ?_, ?_, ?_, ?_, ?_, ?_, ?_, ?_, ?_, ?_, ?_⟩ <;> (simp [offerResult])

@[simp] theorem offerFinal_keeps (k : Fin 12) (s : State) :
    (offerFinal k s).lines = s.lines ∧ (offerFinal k s).meter = s.meter ∧ (offerFinal k s).home = s.home ∧
    (offerFinal k s).store = s.store ∧ (offerFinal k s).faults = s.faults ∧ (offerFinal k s).supply = s.supply ∧
    (offerFinal k s).station = s.station ∧ (offerFinal k s).freeDraws = s.freeDraws ∧
    (offerFinal k s).pending = s.pending ∧ (offerFinal k s).bus.lastSender = s.bus.lastSender ∧
    (offerFinal k s).bus.idle = s.bus.idle ∧ (offerFinal k s).bus.awaitsIdle = s.bus.awaitsIdle ∧
    (offerFinal k s).bus.deferral = s.bus.deferral ∧ (offerFinal k s).bus.census = s.bus.census ∧
    (offerFinal k s).bus.handed = s.bus.handed := by
  refine ⟨?_, ?_, ?_, ?_, ?_, ?_, ?_, ?_, ?_, ?_, ?_, ?_, ?_, ?_, ?_⟩ <;> (unfold offerFinal; repeat' (first | rfl | split))

@[simp] theorem offerData_keeps (l : Fin 8) (s : State) :
    (offerData l s).lines = s.lines ∧ (offerData l s).table = s.table ∧ (offerData l s).meter = s.meter ∧
    (offerData l s).home = s.home ∧ (offerData l s).store = s.store ∧ (offerData l s).faults = s.faults ∧
    (offerData l s).supply = s.supply ∧ (offerData l s).station = s.station ∧
    (offerData l s).freeDraws = s.freeDraws ∧ (offerData l s).pending = s.pending ∧
    (offerData l s).bus.lastSender = s.bus.lastSender ∧ (offerData l s).bus.idle = s.bus.idle ∧
    (offerData l s).bus.awaitsIdle = s.bus.awaitsIdle ∧ (offerData l s).bus.deferral = s.bus.deferral ∧
    (offerData l s).bus.census = s.bus.census ∧ (offerData l s).bus.handed = s.bus.handed := by
  refine ⟨?_, ?_, ?_, ?_, ?_, ?_, ?_, ?_, ?_, ?_, ?_, ?_, ?_, ?_, ?_, ?_⟩ <;> (unfold offerData; repeat' (first | rfl | split))

@[simp] theorem offerTally_keeps (s : State) :
    (offerTally s).meter = s.meter ∧ (offerTally s).home = s.home ∧ (offerTally s).store = s.store ∧
    (offerTally s).supply = s.supply ∧ (offerTally s).station = s.station ∧ (offerTally s).freeDraws = s.freeDraws ∧
    (offerTally s).pending = s.pending ∧ (offerTally s).bus.lastSender = s.bus.lastSender ∧
    (offerTally s).bus.idle = s.bus.idle ∧ (offerTally s).bus.awaitsIdle = s.bus.awaitsIdle ∧
    (offerTally s).bus.deferral = s.bus.deferral ∧ (offerTally s).bus.census = s.bus.census ∧
    (offerTally s).bus.handed = s.bus.handed := by
  refine ⟨?_, ?_, ?_, ?_, ?_, ?_, ?_, ?_, ?_, ?_, ?_, ?_, ?_⟩ <;> ((unfold offerTally joinTally; (repeat' split) <;> simp [logQueueFull, State.joinQueue]))

@[simp] theorem offerOwedTally_keeps (s : State) :
    (offerOwedTally s).meter = s.meter ∧ (offerOwedTally s).home = s.home ∧ (offerOwedTally s).store = s.store ∧
    (offerOwedTally s).supply = s.supply ∧ (offerOwedTally s).station = s.station ∧
    (offerOwedTally s).freeDraws = s.freeDraws ∧ (offerOwedTally s).pending = s.pending ∧
    (offerOwedTally s).bus.lastSender = s.bus.lastSender ∧ (offerOwedTally s).bus.idle = s.bus.idle ∧
    (offerOwedTally s).bus.awaitsIdle = s.bus.awaitsIdle ∧ (offerOwedTally s).bus.deferral = s.bus.deferral ∧
    (offerOwedTally s).bus.census = s.bus.census ∧ (offerOwedTally s).bus.handed = s.bus.handed := by
  refine ⟨?_, ?_, ?_, ?_, ?_, ?_, ?_, ?_, ?_, ?_, ?_, ?_, ?_⟩ <;> (unfold offerOwedTally; split <;> simp)

/-- A property of states that every offer of a final CHARGE, of the owed TALLY and of DATA keeps, the freed place keeps. -/
theorem offerFreed_induct (P : State → Prop) (hf : ∀ k s, P s → P (offerFinal k s)) (ht : ∀ s, P s → P (offerOwedTally s))
    (hd : ∀ l s, P s → P (offerData l s)) (s : State) (h : P s) : P (offerFreed s) := by
  have fold : ∀ {α : Type} (f : State → α → State) (hf : ∀ a s, P s → P (f s a)) (xs : List α) (s : State), P s →
      P (xs.foldl f s) := by
    intro α f hf xs
    induction xs with
    | nil => intro s h; exact h
    | cons a xs ih => intro s h; exact ih _ (hf a s h)
  exact fold _ (fun l s => hd l s) _ _ (ht _ (fold _ (fun k s => hf k s) _ _ h))

@[simp] theorem offerFreed_keeps (s : State) :
    (offerFreed s).meter = s.meter ∧ (offerFreed s).home = s.home ∧ (offerFreed s).store = s.store ∧
    (offerFreed s).supply = s.supply ∧ (offerFreed s).station = s.station ∧ (offerFreed s).freeDraws = s.freeDraws ∧
    (offerFreed s).pending = s.pending ∧ (offerFreed s).bus.lastSender = s.bus.lastSender ∧
    (offerFreed s).bus.idle = s.bus.idle ∧ (offerFreed s).bus.awaitsIdle = s.bus.awaitsIdle ∧
    (offerFreed s).bus.deferral = s.bus.deferral ∧ (offerFreed s).bus.census = s.bus.census ∧
    (offerFreed s).bus.handed = s.bus.handed :=
  offerFreed_induct (fun u =>
    u.meter = s.meter ∧ u.home = s.home ∧ u.store = s.store ∧ u.supply = s.supply ∧
    u.station = s.station ∧ u.freeDraws = s.freeDraws ∧ u.pending = s.pending ∧
    u.bus.lastSender = s.bus.lastSender ∧ u.bus.idle = s.bus.idle ∧ u.bus.awaitsIdle = s.bus.awaitsIdle ∧
    u.bus.deferral = s.bus.deferral ∧ u.bus.census = s.bus.census ∧ u.bus.handed = s.bus.handed)
    (fun k u h => by simpa using h) (fun u h => by simpa using h) (fun l u h => by simpa using h) s (by simp)

@[simp] theorem offerCharge_keeps (k : Fin 12) (s : State) :
    (offerCharge k s).lines = s.lines ∧ (offerCharge k s).table = s.table ∧ (offerCharge k s).meter = s.meter ∧
    (offerCharge k s).home = s.home ∧ (offerCharge k s).store = s.store ∧ (offerCharge k s).faults = s.faults ∧
    (offerCharge k s).supply = s.supply ∧ (offerCharge k s).station = s.station ∧
    (offerCharge k s).freeDraws = s.freeDraws ∧ (offerCharge k s).pending = s.pending ∧
    (offerCharge k s).bus.lastSender = s.bus.lastSender ∧ (offerCharge k s).bus.idle = s.bus.idle ∧
    (offerCharge k s).bus.awaitsIdle = s.bus.awaitsIdle ∧ (offerCharge k s).bus.deferral = s.bus.deferral ∧
    (offerCharge k s).bus.census = s.bus.census ∧ (offerCharge k s).bus.handed = s.bus.handed := by
  refine ⟨?_, ?_, ?_, ?_, ?_, ?_, ?_, ?_, ?_, ?_, ?_, ?_, ?_, ?_, ?_, ?_⟩ <;> (unfold offerCharge; repeat' (first | rfl | split))

@[simp] theorem offerClassOne_keeps (a : Nat) (p : Payload) (s : State) :
    (offerClassOne a p s).meter = s.meter ∧ (offerClassOne a p s).home = s.home ∧
    (offerClassOne a p s).store = s.store ∧ (offerClassOne a p s).supply = s.supply ∧
    (offerClassOne a p s).station = s.station ∧ (offerClassOne a p s).freeDraws = s.freeDraws ∧
    (offerClassOne a p s).pending = s.pending ∧ (offerClassOne a p s).bus.lastSender = s.bus.lastSender ∧
    (offerClassOne a p s).bus.idle = s.bus.idle ∧ (offerClassOne a p s).bus.awaitsIdle = s.bus.awaitsIdle ∧
    (offerClassOne a p s).bus.deferral = s.bus.deferral ∧ (offerClassOne a p s).bus.census = s.bus.census ∧
    (offerClassOne a p s).bus.handed = s.bus.handed := by
  refine ⟨?_, ?_, ?_, ?_, ?_, ?_, ?_, ?_, ?_, ?_, ?_, ?_, ?_⟩ <;> ((unfold offerClassOne; (repeat' split) <;> simp [logQueueFull, State.removeYoungest, State.joinQueue]))

@[simp] theorem offerRefusable_keeps (a : Nat) (p : Payload) (s : State) :
    (offerRefusable a p s).lines = s.lines ∧ (offerRefusable a p s).table = s.table ∧
    (offerRefusable a p s).meter = s.meter ∧ (offerRefusable a p s).home = s.home ∧
    (offerRefusable a p s).store = s.store ∧ (offerRefusable a p s).faults = s.faults ∧
    (offerRefusable a p s).supply = s.supply ∧ (offerRefusable a p s).station = s.station ∧
    (offerRefusable a p s).freeDraws = s.freeDraws ∧ (offerRefusable a p s).pending = s.pending ∧
    (offerRefusable a p s).bus.lastSender = s.bus.lastSender ∧ (offerRefusable a p s).bus.idle = s.bus.idle ∧
    (offerRefusable a p s).bus.awaitsIdle = s.bus.awaitsIdle ∧ (offerRefusable a p s).bus.deferral = s.bus.deferral ∧
    (offerRefusable a p s).bus.census = s.bus.census ∧ (offerRefusable a p s).bus.handed = s.bus.handed := by
  refine ⟨?_, ?_, ?_, ?_, ?_, ?_, ?_, ?_, ?_, ?_, ?_, ?_, ?_, ?_, ?_, ?_⟩ <;> (unfold offerRefusable; split <;> rfl)

@[simp] theorem placeText_keeps (l : Fin 8) (t : List Nat) (s : State) :
    (placeText l t s).table = s.table ∧ (placeText l t s).meter = s.meter ∧ (placeText l t s).home = s.home ∧
    (placeText l t s).store = s.store ∧ (placeText l t s).bus = s.bus ∧ (placeText l t s).faults = s.faults ∧
    (placeText l t s).supply = s.supply ∧ (placeText l t s).station = s.station ∧
    (placeText l t s).freeDraws = s.freeDraws ∧ (placeText l t s).pending = s.pending := by
  refine ⟨?_, ?_, ?_, ?_, ?_, ?_, ?_, ?_, ?_, ?_⟩ <;> (rfl)

@[simp] theorem withdrawData_keeps (l : Fin 8) (s : State) :
    (withdrawData l s).meter = s.meter ∧ (withdrawData l s).home = s.home ∧ (withdrawData l s).store = s.store ∧
    (withdrawData l s).supply = s.supply ∧ (withdrawData l s).station = s.station ∧
    (withdrawData l s).freeDraws = s.freeDraws ∧ (withdrawData l s).pending = s.pending ∧
    (withdrawData l s).bus.lastSender = s.bus.lastSender ∧ (withdrawData l s).bus.idle = s.bus.idle ∧
    (withdrawData l s).bus.awaitsIdle = s.bus.awaitsIdle ∧ (withdrawData l s).bus.deferral = s.bus.deferral ∧
    (withdrawData l s).bus.census = s.bus.census ∧ (withdrawData l s).bus.handed = s.bus.handed := by
  refine ⟨?_, ?_, ?_, ?_, ?_, ?_, ?_, ?_, ?_, ?_, ?_, ?_, ?_⟩ <;> (unfold withdrawData; split <;> simp [State.removeFirst])

@[simp] theorem hangUp_keeps (l : Fin 8) (s : State) :
    (hangUp l s).meter = s.meter ∧ (hangUp l s).home = s.home ∧ (hangUp l s).store = s.store ∧
    (hangUp l s).supply = s.supply ∧ (hangUp l s).station = s.station ∧ (hangUp l s).freeDraws = s.freeDraws ∧
    (hangUp l s).pending = s.pending ∧ (hangUp l s).bus.lastSender = s.bus.lastSender ∧
    (hangUp l s).bus.idle = s.bus.idle ∧ (hangUp l s).bus.awaitsIdle = s.bus.awaitsIdle ∧
    (hangUp l s).bus.deferral = s.bus.deferral ∧ (hangUp l s).bus.census = s.bus.census ∧
    (hangUp l s).bus.handed = s.bus.handed := by
  refine ⟨?_, ?_, ?_, ?_, ?_, ?_, ?_, ?_, ?_, ?_, ?_, ?_, ?_⟩ <;> (unfold hangUp clearReceive; split <;> simp [State.modLine])

@[simp] theorem hangUpDirect_keeps (l : Fin 8) (s : State) :
    (hangUpDirect l s).meter = s.meter ∧ (hangUpDirect l s).home = s.home ∧ (hangUpDirect l s).store = s.store ∧
    (hangUpDirect l s).supply = s.supply ∧ (hangUpDirect l s).station = s.station ∧
    (hangUpDirect l s).freeDraws = s.freeDraws ∧ (hangUpDirect l s).pending = s.pending ∧
    (hangUpDirect l s).bus.lastSender = s.bus.lastSender ∧ (hangUpDirect l s).bus.idle = s.bus.idle ∧
    (hangUpDirect l s).bus.awaitsIdle = s.bus.awaitsIdle ∧ (hangUpDirect l s).bus.deferral = s.bus.deferral ∧
    (hangUpDirect l s).bus.census = s.bus.census ∧ (hangUpDirect l s).bus.handed = s.bus.handed := by
  refine ⟨?_, ?_, ?_, ?_, ?_, ?_, ?_, ?_, ?_, ?_, ?_, ?_, ?_⟩ <;> (unfold hangUpDirect clearReceive; simp [State.modLine])

@[simp] theorem listAccount_keeps (k : FaultKind) (a w : Nat) (s : State) :
    (listAccount k a w s).table = s.table ∧ (listAccount k a w s).meter = s.meter ∧
    (listAccount k a w s).store = s.store ∧ (listAccount k a w s).supply = s.supply ∧
    (listAccount k a w s).station = s.station ∧ (listAccount k a w s).freeDraws = s.freeDraws ∧
    (listAccount k a w s).pending = s.pending ∧ (listAccount k a w s).bus.lastSender = s.bus.lastSender ∧
    (listAccount k a w s).bus.idle = s.bus.idle ∧ (listAccount k a w s).bus.awaitsIdle = s.bus.awaitsIdle ∧
    (listAccount k a w s).bus.deferral = s.bus.deferral ∧ (listAccount k a w s).bus.census = s.bus.census ∧
    (listAccount k a w s).bus.handed = s.bus.handed := by
  refine ⟨?_, ?_, ?_, ?_, ?_, ?_, ?_, ?_, ?_, ?_, ?_, ?_, ?_⟩ <;> (unfold listAccount; split <;> simp)

@[simp] theorem addUnbilled_keeps (a : Nat) (h : Option Handle) (c : Nat) (s : State) :
    (addUnbilled a h c s).table = s.table ∧ (addUnbilled a h c s).meter = s.meter ∧
    (addUnbilled a h c s).store = s.store ∧ (addUnbilled a h c s).supply = s.supply ∧
    (addUnbilled a h c s).station = s.station ∧ (addUnbilled a h c s).freeDraws = s.freeDraws ∧
    (addUnbilled a h c s).pending = s.pending ∧ (addUnbilled a h c s).bus.lastSender = s.bus.lastSender ∧
    (addUnbilled a h c s).bus.idle = s.bus.idle ∧ (addUnbilled a h c s).bus.awaitsIdle = s.bus.awaitsIdle ∧
    (addUnbilled a h c s).bus.deferral = s.bus.deferral ∧ (addUnbilled a h c s).bus.census = s.bus.census ∧
    (addUnbilled a h c s).bus.handed = s.bus.handed := by
  refine ⟨?_, ?_, ?_, ?_, ?_, ?_, ?_, ?_, ?_, ?_, ?_, ?_, ?_⟩ <;> (unfold addUnbilled; repeat' (first | rfl | split | simp))

@[simp] theorem addHeld_keeps (a : Nat) (h : Option Handle) (c : Nat) (s : State) :
    (addHeld a h c s).table = s.table ∧ (addHeld a h c s).meter = s.meter ∧ (addHeld a h c s).store = s.store ∧
    (addHeld a h c s).supply = s.supply ∧ (addHeld a h c s).station = s.station ∧
    (addHeld a h c s).freeDraws = s.freeDraws ∧ (addHeld a h c s).pending = s.pending ∧
    (addHeld a h c s).bus.lastSender = s.bus.lastSender ∧ (addHeld a h c s).bus.idle = s.bus.idle ∧
    (addHeld a h c s).bus.awaitsIdle = s.bus.awaitsIdle ∧ (addHeld a h c s).bus.deferral = s.bus.deferral ∧
    (addHeld a h c s).bus.census = s.bus.census ∧ (addHeld a h c s).bus.handed = s.bus.handed := by
  refine ⟨?_, ?_, ?_, ?_, ?_, ?_, ?_, ?_, ?_, ?_, ?_, ?_, ?_⟩ <;> (simp [addHeld])

@[simp] theorem countCorrected_keeps (w : Nat) (s : State) :
    (countCorrected w s).table = s.table ∧ (countCorrected w s).meter = s.meter ∧
    (countCorrected w s).home = s.home ∧ (countCorrected w s).supply = s.supply ∧
    (countCorrected w s).station = s.station ∧ (countCorrected w s).freeDraws = s.freeDraws ∧
    (countCorrected w s).pending = s.pending ∧ (countCorrected w s).bus.lastSender = s.bus.lastSender ∧
    (countCorrected w s).bus.idle = s.bus.idle ∧ (countCorrected w s).bus.awaitsIdle = s.bus.awaitsIdle ∧
    (countCorrected w s).bus.deferral = s.bus.deferral ∧ (countCorrected w s).bus.census = s.bus.census ∧
    (countCorrected w s).bus.handed = s.bus.handed ∧ (countCorrected w s).store.words = s.store.words := by
  refine ⟨?_, ?_, ?_, ?_, ?_, ?_, ?_, ?_, ?_, ?_, ?_, ?_, ?_, ?_⟩ <;> (unfold countCorrected; simp only; split <;> simp)

@[simp] theorem settleEntry_keeps (h : Handle) (t : Nat) (f : Bool) (s : State) :
    (settleEntry h t f s).lines = s.lines ∧ (settleEntry h t f s).table = s.table ∧
    (settleEntry h t f s).meter = s.meter ∧ (settleEntry h t f s).store = s.store ∧
    (settleEntry h t f s).bus = s.bus ∧ (settleEntry h t f s).faults = s.faults ∧
    (settleEntry h t f s).supply = s.supply ∧ (settleEntry h t f s).station = s.station ∧
    (settleEntry h t f s).freeDraws = s.freeDraws ∧ (settleEntry h t f s).pending = s.pending := by
  refine ⟨?_, ?_, ?_, ?_, ?_, ?_, ?_, ?_, ?_, ?_⟩ <;> (unfold settleEntry; simp only; split <;> rfl)

/-! ### The cases of the operations -/

/-- Permission holds and nothing changes, or it does not and every RINGING line is quieted (R3). -/
theorem settlePermission_cases (s : State) :
    (s.permission = true ∧ settlePermission s = s) ∨
    (s.permission = false ∧ settlePermission s = { s with lines := s.lines.map Line.quiet }) := by
  cases h : s.permission <;> simp [settlePermission, h]

/-- Permission is the same after its re-evaluation: it does not depend on the lines. -/
@[simp] theorem settlePermission_permission (s : State) : (settlePermission s).permission = s.permission := by
  unfold settlePermission; split <;> rfl

/-- After a re-evaluation no line is RINGING without permission (R3). -/
theorem settlePermission_ringing (s : State) : (settlePermission s).ringingPermitted := by
  intro l hl
  rcases settlePermission_cases s with ⟨hp, he⟩ | ⟨hp, he⟩
  · rw [he]; exact hp
  · rw [he] at hl
    simp only [Fin.getElem_fin, Vector.getElem_map, Line.quiet] at hl
    split at hl <;> simp_all

/-- A line that is not RINGING is left alone by the loss of permission (R3). -/
theorem settlePermission_line {l : Fin 8} {s : State} (h : s.lines[l].state ≠ .ringing) :
    (settlePermission s).lines[l] = s.lines[l] := by
  rcases settlePermission_cases s with ⟨_, he⟩ | ⟨_, he⟩ <;> rw [he]
  simp only [Fin.getElem_fin] at h
  simp [Line.quiet, h]

/-- A fault event leaves every line that is not RINGING alone (R3, R180). -/
theorem logWith_line {l : Fin 8} (n : Nat) (e : FaultEvent) {s : State} (h : s.lines[l].state ≠ .ringing) :
    (logWith n e s).lines[l] = s.lines[l] := by
  induction n generalizing e s with
  | zero => rfl
  | succ n ih =>
    have h1 : (settlePermission { s with faults := s.faults.take e }).lines[l] = s.lines[l] :=
      settlePermission_line (s := { s with faults := s.faults.take e }) h
    simp only [logWith]
    split
    · split
      · exact h1
      · rw [ih _ (by rw [h1]; exact h), h1]
    · exact h1

/-- The offer of a TALLY leaves every line that is not RINGING alone. -/
theorem offerTally_line {l : Fin 8} {s : State} (h : s.lines[l].state ≠ .ringing) :
    (offerTally s).lines[l] = s.lines[l] := by
  unfold offerTally
  repeat' (first | rfl | split)
  exact logWith_line _ _ h

/-- A freed place leaves every line that is not RINGING alone (R171). -/
theorem offerFreed_line {l : Fin 8} {s : State} (h : s.lines[l].state ≠ .ringing) :
    (offerFreed s).lines[l] = s.lines[l] := by
  refine offerFreed_induct (fun u => u.lines[l] = s.lines[l]) (fun k u hu => by rw [(offerFinal_keeps k u).1, hu]) ?_
    (fun m u hu => by rw [(offerData_keeps m u).1, hu]) s rfl
  intro u hu
  unfold offerOwedTally
  split
  · exact (offerTally_line (s := { u with table := { u.table with tallyOwed := false } }) (by rw [hu]; exact h)).trans hu
  · exact hu

/-- A line's DATA entry withdrawn leaves every line that is not RINGING alone (R26). -/
theorem withdrawData_line {l : Fin 8} (m : Fin 8) {s : State} (h : s.lines[l].state ≠ .ringing) :
    (withdrawData m s).lines[l] = s.lines[l] := by
  unfold withdrawData
  split
  · rfl
  · exact offerFreed_line (s := s.removeFirst (Entry.dataOn m)) h
  · rfl

/-- A reply joins class 3, or is dropped with TX_QUEUE_FULL (R170). -/
theorem offerReply_cases (k : ReplyKind) (b : List Byte) (s : State) :
    (s.bus.queue.length < 24 ∧ offerReply k b s = s.setQueue (s.bus.queue ++ [Entry.fresh 0 (.reply k b)])) ∨
    (24 ≤ s.bus.queue.length ∧ offerReply k b s = logQueueFull 0 s) := by
  unfold offerReply State.room Config.queuePlaces
  by_cases h : s.bus.queue.length < 24
  · left; simp [h, State.joinQueue]
  · right; simp [h, Nat.le_of_not_lt h]

/-- A class-1 frame joins, displaces the youngest WAITING DATA entry, or is dropped with TX_QUEUE_FULL (R170). -/
theorem offerClassOne_cases (a : Nat) (p : Payload) (s : State) :
    (s.bus.queue.length < 24 ∧ offerClassOne a p s = s.setQueue (s.bus.queue ++ [Entry.fresh a p])) ∨
    (24 ≤ s.bus.queue.length ∧ s.bus.queue.any (fun e => e.isData && !e.inFlight) = true ∧
      offerClassOne a p s =
        offerFreed ((s.removeYoungest (fun e => e.isData && !e.inFlight)).joinQueue (Entry.fresh a p))) ∨
    (24 ≤ s.bus.queue.length ∧ s.bus.queue.any (fun e => e.isData && !e.inFlight) = false ∧
      offerClassOne a p s = logQueueFull a s) := by
  unfold offerClassOne State.room Config.queuePlaces
  by_cases h : s.bus.queue.length < 24
  · left; simp [h, State.joinQueue]
  · right
    have h' := Nat.le_of_not_lt h
    cases hd : s.bus.queue.any (fun e => e.isData && !e.inFlight) <;> simp [h, h']

/-- A TALLY joins, is answered by the one that waits, marks the owed TALLY behind the one in flight, or is dropped (R88). -/
theorem offerTally_cases (s : State) (hs : s.inService = true) :
    (s.holding Entry.isTally = .nothing ∧ s.bus.queue.length < 24 ∧ offerTally s = joinTally s) ∨
    (s.holding Entry.isTally = .nothing ∧ 24 ≤ s.bus.queue.length ∧ offerTally s = logQueueFull 255 s) ∨
    (s.holding Entry.isTally = .waiting ∧ offerTally s = s) ∨
    (s.holding Entry.isTally = .inFlight ∧ offerTally s = { s with table := { s.table with tallyOwed := true } }) := by
  unfold offerTally State.room Config.queuePlaces
  cases h : s.holding Entry.isTally
  · by_cases hq : s.bus.queue.length < 24
    · left; simp [hs, hq]
    · right; left; simp [hs, hq, Nat.le_of_not_lt hq]
  · simp [hs]
  · simp [hs]

/-- What an offer of a CHARGE finds: nothing, a LATE or DUPLICATE CHARGE of the handle, or else what the queue holds for it
(R87, R104, R107). -/
theorem holdingCharge_cases (h : Handle) (s : State) :
    ((∀ e ∈ s.bus.queue, Entry.chargesFor h e = false) ∧ s.holdingCharge h = .nothing) ∨
    ((∃ e ∈ s.bus.queue, Entry.chargesFor h e = true ∧ e.isZeroCharge = true) ∧ s.holdingCharge h = .inFlight) ∨
    (∃ e ∈ s.bus.queue, Entry.chargesFor h e = true ∧ e.isZeroCharge = false ∧
      s.holdingCharge h = if e.inFlight then .inFlight else .waiting) := by
  unfold State.holdingCharge State.holding
  by_cases hz : s.bus.queue.any (fun e => Entry.chargesFor h e && e.isZeroCharge) = true
  · right; left
    rw [if_pos hz]
    obtain ⟨e, he, hp⟩ := List.any_eq_true.1 hz
    exact ⟨⟨e, he, by simpa using hp⟩, rfl⟩
  · rw [if_neg hz]
    cases hf : s.bus.queue.find? (Entry.chargesFor h) with
    | none => left; exact ⟨by simpa using List.find?_eq_none.1 hf, rfl⟩
    | some e =>
      right; right
      have hm := List.mem_of_find?_eq_some hf
      have hc := List.find?_some hf
      refine ⟨e, hm, hc, ?_, rfl⟩
      cases hi : e.isZeroCharge
      · rfl
      · exact absurd (List.any_eq_true.2 ⟨e, hm, by simp [hc, hi]⟩) hz

/-- A non-final offer leaves the queue, rewrites the session's waiting CHARGE, or joins (R107). -/
theorem offerCharge_cases (k : Fin 12) (x : Session) (s : State) (hx : s.table.slots[k].session = some x) :
    (s.holdingCharge (s.handleAt k) = .inFlight ∧ offerCharge k s = s) ∨
    (s.holdingCharge (s.handleAt k) = .waiting ∧
      offerCharge k s = s.rewriteWaiting (Entry.chargesFor (s.handleAt k)) (Payload.withTotal x.total)) ∨
    (s.holdingCharge (s.handleAt k) = .nothing ∧ 24 ≤ s.bus.queue.length ∧ offerCharge k s = s) ∨
    (s.holdingCharge (s.handleAt k) = .nothing ∧ s.bus.queue.length < 24 ∧
      offerCharge k s = s.joinQueue (Entry.fresh (x.home.getD 0)
        (.charge { handle := s.handleAt k, account := x.account, home := x.home.getD 0, total := x.total,
                   endCause := none } none))) := by
  unfold offerCharge State.room Config.queuePlaces
  simp only [hx]
  cases h : s.holdingCharge (s.handleAt k)
  · by_cases hq : s.bus.queue.length < 24
    · simp [hq]
    · simp [hq, Nat.le_of_not_lt hq]
  · simp
  · simp

/-- A frame or command is not served, or waits, or is taken (R165, R167). -/
theorem takeHanded_cases (f : Handed) (act : State → State) (s : State) :
    (s.serves f = false ∧ takeHanded f act s = s) ∨
    (s.serves f = true ∧ s.mustWait f = true ∧ f ∈ s.bus.handed ∧ takeHanded f act s = s) ∨
    (s.serves f = true ∧ s.mustWait f = true ∧ f ∉ s.bus.handed ∧
      takeHanded f act s = { s with bus := { s.bus with handed := s.bus.handed ++ [f] } }) ∨
    (s.takesNow f ∧ takeHanded f act s = act (s.taking f)) := by
  unfold takeHanded State.takesNow State.taking
  cases h1 : s.serves f
  · simp
  · cases h2 : s.mustWait f
    · simp
    · by_cases h3 : f ∈ s.bus.handed <;> simp [h3]

/-- The end of an access: no such access, a word that does not exist, or its effect and the arbiter (R131, R139). -/
theorem finishAccess_cases (r : Requester) (s : State) :
    ((s.inReset = true ∨ s.store.access ≠ some r) ∧ finishAccess r s = .next s) ∨
    (s.inReset = false ∧ s.store.access = some r ∧ ∃ w, s.badWord = some w ∧ finishAccess r s = .fault (.noSuchWord w)) ∨
    (s.inReset = false ∧ s.store.access = some r ∧ s.badWord = none ∧ finishAccess r s = .next (endAccess s)) := by
  unfold finishAccess
  cases h1 : s.inReset
  · by_cases h2 : s.store.access = some r
    · cases h3 : s.badWord <;> simp [h2]
    · simp [h2]
  · simp

/-- The arbiter grants the store to the requester it chooses, and takes that requester's own request away (R139). -/
theorem grantStore_cases (s : State) :
    (s.nextRequester = none ∧ grantStore s = s) ∨
    ∃ r, s.nextRequester = some r ∧ s.store.access = none ∧
      grantStore s = s.setStore { s.store with
        access := some r, migrationRequest := s.store.migrationRequest && decide (r ≠ .migration),
        scrubRequest := s.store.scrubRequest && decide (r ≠ .scrub) } := by
  unfold grantStore
  cases h : s.nextRequester with
  | none => simp
  | some r =>
    right; refine ⟨r, rfl, ?_, rfl⟩
    unfold State.nextRequester at h
    cases ha : s.store.access <;> simp_all

/-- A text is placed on a locked line, and changes nothing of any other (R31). -/
theorem placeText_eq (l : Fin 8) (t : List Nat) (s : State) :
    placeText l t s = s.setLine l (Line.place t s.lines[l]) := rfl

/-- A line that is not locked takes no text (R31). -/
theorem Line.place_unlocked {t : List Nat} {l : Line} (h : l.state.locked = false) : Line.place t l = l := by
  simp [Line.place, h]

/-- A text leaves the line's state, its dialogue and its slot (R31). -/
theorem Line.place_keeps (t : List Nat) (l : Line) :
    (Line.place t l).state = l.state ∧ (Line.place t l).dialogue = l.dialogue ∧
      (Line.place t l).servedSlot = l.servedSlot ∧ (Line.place t l).timer = l.timer := by
  unfold Line.place
  repeat' (first | exact ⟨rfl, rfl, rfl, rfl⟩ | split)

/-- A hang-up of a line that is not locked is not accepted (R17). -/
theorem hangUp_unlocked {l : Fin 8} {s : State} (h : s.lines[l].state.locked = false) : hangUp l s = s := by
  unfold hangUp; rw [h]; rfl

end Sys2Proof.Machine
end

