-- ==== Sys2Proof/Tests/Slice0.lean ====
section
/-! SUPPORT. The tests: one step each on a small state, and for every statement with hypotheses a state and operands that meet
them. Expected values come from the manual's rules and worked examples, named at each test. -/

namespace Sys2Proof.Tests

open Sys2Proof.Machine

/-! ### Helpers -/

/-- What a command leaves, seen through `f`; none when it does not answer a next state. -/
def leaves {α : Type} (c : Instr) (s : State) (f : State → α) : Option α :=
  match exec c s with
  | .next t => some (f t)
  | _ => none

/-- Settings: 2 answer rings, 30 seconds of detach grace, cap 40, prompts "U:" and "P:". -/
def someSettings : Settings :=
  { answerRings := 2, detachGrace := 30, sessionCap := 40, userPrompt := [85, 58], passwordPrompt := [80, 58] }

/-- Station 5 in service, supply NORMAL, store clear, homing accounts 1,000 to 1,511. -/
def live : State :=
  { State.reset with
    supply := { state := .normal, recoveryRunning := false, aboveWarn := true },
    bus := { Bus.cleared with awaitsIdle := false },
    store := { Store.cleared with clearComplete := true, scrubInterval := some 0 },
    home := { Home.cleared with first := 1000, count := 512 },
    meter := { Meter.cleared with running := true, remaining := 90, peakLength := some 36000, offPeakLength := some 36000 },
    station := { state := .inService, address := 5, eightLines := true, resetCause := .powerOn, force := ResetForce.clear,
                 settings := some someSettings, outputDiscards := 0 } }

/-- Station 5 awaiting its CONFIGURE. -/
def waiting : State := { live with station := { live.station with state := .awaitingConfig, settings := none } }

/-- Station 5 starting, its store clear not yet complete. -/
def starting : State :=
  { State.reset with station := { live.station with state := .starting, settings := none } }

def inLine (l : Fin 8) (f : Line → Line) : State := live.modLine l f

/-- Line `l` in a state, with its dialogue context. -/
def lineIn (l : Fin 8) (st : LineState) (d : Option Dialogue) : State :=
  live.modLine l (fun x => { x with state := st, dialogue := d, terminalReady := true, carrierFilter := .present })

/-- A context in the PASSWORD phase for account 1,001. -/
def passwordContext : Dialogue :=
  { Dialogue.opened with phase := .password, userNumber := some 1001, timer := some 40 }

/-- A session for account 1,001 on line 2 at speed class 3, homed at this station. -/
def someSession (st : SessionState) : Session :=
  { account := 1001, home := some 5, line := some 2, state := st, abandoned := false, acctClass := some 1, speedClass := 3,
    total := 100, remainder := 499, postCounter := 59, grace := none, endCause := none, finalStatus := none,
    saturated := false }

/-- The session held in slot 4 under generation 17, its line 2 in the line state given. -/
def withSession (x : Session) (st : LineState) (s : State) : State :=
  (s.modLine 2 (fun y => { y with state := st, terminalReady := true, carrierFilter := .present, speedClass := 3,
                                  servedSlot := some 4,
                                  dialogue := if st = .claiming then some { passwordContext with step := .claimed }
                                              else none })).setSlot 4
    { generation := 17, replySource := if x.state = .claiming then none else some 5, claimTimer := none, session := some x }

/-- The handle of that session. -/
def itsHandle : Handle := { station := 5, slot := 4, generation := 17 }

/-- An ACTIVE session on an ONLINE line. -/
def onLine : State := withSession (someSession .active) .online live

/-- A home entry for the session of account 1,001 with applied total 90. -/
def someEntry (st : HomeState) : HomeEntry :=
  { handle := itsHandle, account := 1001, state := st, applied := 90, silence := 100, cutoffSent := false, successor := none,
    expiryPutOff := false }

/-- The home lists the session of account 1,001. -/
def homing (st : HomeState) : State :=
  { live with home := { live.home with list := [someEntry st], detachOrder := if st = .detached then [itsHandle] else [] } }

/-- A record for account 1,001 with balance 50. -/
def someRecord : Record :=
  { balance := 50, acctClass := 2, limit := 1, valid := true, locked := false, digest := 65, failures := 0, allowance := 0,
    tag := 1001, termCredits := 7 }

/-- The record written at index 1, account 1,001. -/
def withRecord (r : Record) (s : State) : State := writeRecord 1 r s

/-- A WAITING entry. -/
def waitingEntry (p : Payload) : Entry := { destination := 0, payload := p, inFlight := false, mismatches := 0 }

/-- An entry IN_FLIGHT. -/
def flyingEntry (p : Payload) : Entry := { destination := 3, payload := p, inFlight := true, mismatches := 0 }

/-- A CHARGE of the session with the total given. -/
def someCharge (total : Nat) (cause : Option EndCause) : ChargeBody :=
  { handle := itsHandle, account := 1001, home := 5, total := total, endCause := cause }

/-- The final CHARGE of the session in flight. -/
def flyingFinal : State :=
  (withSession { someSession .ending with endCause := some .credit, finalStatus := some .inFlight } .idle live).setQueue
    [flyingEntry (.charge (someCharge 100 (some .credit)) (some 4))]

/-- A queued TALLY. -/
def tallyEntry : Entry := { waitingEntry (.tally { count := 0, restart := false }) with destination := 255 }

/-- A CHARGE of the session that waits in the queue. -/
def chargeEntry : Entry :=
  waitingEntry (.charge { handle := itsHandle, account := 1001, home := 5, total := 90, endCause := none } none)

/-- The zero CHARGE of a duplicate GRANT for the session's handle, waiting. -/
def zeroEntry : Entry :=
  waitingEntry (.charge { handle := itsHandle, account := 1001, home := 9, total := 0, endCause := some .duplicate } none)

/-- `n` replies in the transmit queue. -/
def crowded (n : Nat) (s : State) : State := s.setQueue (List.replicate n (waitingEntry (.reply .result [])))

/-- A reset of the pin in progress. -/
def held : State := { live with station := { live.station with force := { ResetForce.clear with pin := true } } }

/-! ### Well-formed commands: an ill-formed one for each check -/

theorem test_wf_refuses :
    Instr.wf (.character 0 128) = false ∧ Instr.wf (.speedDecodeEnd 0 128 true) = false ∧
    Instr.wf (.grant 16 { handle := itsHandle, account := 1, acctClass := 0, oldHandle := none }) = false ∧
    Instr.wf (.grant 1 { handle := itsHandle, account := 1, acctClass := 8, oldHandle := none }) = false ∧
    Instr.wf (.grant 1 { handle := itsHandle, account := 1, acctClass := 0,
                         oldHandle := some { itsHandle with slot := 256 } }) = false ∧
    Instr.wf (.deny 1 { handle := { itsHandle with station := 256 }, account := 1, reason := .locked }) = false ∧
    Instr.wf (.claim { handle := itsHandle, account := 16777216, digest := 0, speedClass := 0, line := 0 }) = false ∧
    Instr.wf (.claim { handle := itsHandle, account := 0, digest := 16777216, speedClass := 0, line := 0 }) = false ∧
    Instr.wf (.claim { handle := itsHandle, account := 0, digest := 0, speedClass := 256, line := 0 }) = false ∧
    Instr.wf (.claim { handle := itsHandle, account := 0, digest := 0, speedClass := 0, line := 256 }) = false := by decide

theorem test_wf_refuses_more :
    Instr.wf (.detach { handle := { itsHandle with generation := 256 }, account := 0 }) = false ∧
    Instr.wf (.tally 1 { count := 256, restart := false }) = false ∧
    Instr.wf (.cutoff { handle := itsHandle, account := 1, balance := 8388608 }) = false ∧
    Instr.wf (.cutoff { handle := itsHandle, account := 1, balance := -8388609 }) = false ∧
    Instr.wf (.refuse { handle := itsHandle, account := 1, total := 16777216 }) = false ∧
    Instr.wf (.charge { handle := itsHandle, account := 1, home := 256, total := 0, endCause := none }) = false ∧
    Instr.wf (.data { handle := itsHandle, breakFlag := false, hangUpFlag := false, chars := List.replicate 33 65 }) = false ∧
    Instr.wf (.data { handle := itsHandle, breakFlag := false, hangUpFlag := false, chars := [128] }) = false ∧
    Instr.wf (.censusAgeExpiry 0) = false ∧ Instr.wf (.time (List.replicate 41 0)) = false ∧
    Instr.wf (.silenceTimerExpiry { itsHandle with slot := 256 }) = false ∧
    Instr.wf (.supplyAboveReset { address := 16, eightLines := true }) = false := by decide

/-! ### Operands: the manual's formats and worked examples -/

/-- The worked example of section 3.3: the digests of A, AB, ABX, ABC, ABCD and ABCDE. -/
theorem test_digest_example :
    digestOf [65] = 65 ∧ digestOf [65, 66] = 2211 ∧ digestOf [65, 66, 88] = 73051 ∧ digestOf [65, 66, 67] = 73030 ∧
    digestOf [65, 66, 67, 68] = 2410058 ∧ digestOf [65, 66, 67, 68, 69] = 12423119 := by decide

/-- Section 10.1's example: the deferral counts of stations 4 and 11 before and after the CHARGE of station 11; and R166: the
station that sent last has 15, the one above it 0. -/
theorem test_deferral_example :
    deferralOf 4 2 = 1 ∧ deferralOf 11 9 = 1 ∧ deferralOf 4 11 = 8 ∧ deferralOf 11 11 = 15 ∧ deferralOf 12 11 = 0 ∧
    deferralOf 1 15 = 1 ∧ deferralOf 15 0 = 14 := by decide

/-- R10: the speed classes at the ends of their ranges. -/
theorem test_speed_classes :
    speedClassOf 599 = none ∧ speedClassOf 600 = some 3 ∧ speedClassOf 1249 = some 3 ∧ speedClassOf 1250 = some 2 ∧
    speedClassOf 2499 = some 2 ∧ speedClassOf 2500 = some 1 ∧ speedClassOf 5999 = some 1 ∧ speedClassOf 6000 = some 0 := by
  decide

/-- Section 8.2's example: the data word 33 stands at positions 1, 3, 8 and 10. -/
theorem test_code_example_fresh : codeOf 33 = positionBit 1 ||| positionBit 3 ||| positionBit 8 ||| positionBit 10 := by decide +kernel

/-- Section 8.2's example: the outcomes for the positions that differ. -/
theorem test_code_example_outcomes :
    (readStored none (codeOf 33)).outcome = .clean ∧
    (readStored none (codeOf 33 ^^^ positionBit 10)) =
      { code := codeOf 33 ^^^ positionBit 10, outcome := .corrected, data := 33 } ∧
    (readStored none (codeOf 33 ^^^ positionBit 0)).outcome = .corrected ∧
    (readStored none (codeOf 33 ^^^ positionBit 3 ^^^ positionBit 10)).outcome = .uncorrectable ∧
    (readStored none (codeOf 33 ^^^ positionBit 6 ^^^ positionBit 12 ^^^ positionBit 33)).outcome = .uncorrectable ∧
    (readStored none (codeOf 33 ^^^ positionBit 5 ^^^ positionBit 6 ^^^ positionBit 12)).outcome = .corrected ∧
    (readStored none (codeOf 33 ^^^ positionBit 5 ^^^ positionBit 6 ^^^ positionBit 12)).data =
      33 ^^^ BitVec.twoPow 32 1 ^^^ BitVec.twoPow 32 2 ^^^ BitVec.twoPow 32 7 ^^^ BitVec.twoPow 32 10 := by decide +kernel

/-- Section 10.5: a DETACH of handle 5.4/17 for account 71,206 laid out byte by byte, and read. -/
theorem test_detach_layout :
    DetachBody.bytes { handle := itsHandle, account := 71206 } = [5, 4, 17, 1, 22, 38] ∧
    readContents 5 7 [5, 4, 17, 1, 22, 38] = .frame (.detach { handle := itsHandle, account := 71206 }) ∧
    readContents 5 7 [5, 4, 17, 1, 22] = .bad ∧ readContents 5 10 [] = .bad ∧ readContents 5 64 [37, 0] = .notTaken := by
  decide

/-- Section 10.5: account record words; the fields at their bits, unused data bits ignored. -/
theorem test_record_words :
    recordOf 0x6BFFFFFF#32 0xFD000041#32 0x03E90010#32 0xFF000007#32 =
      { balance := -1, acctClass := 3, limit := 1, valid := true, locked := true, digest := 65, failures := 5,
        allowance := 16, tag := 1001, termCredits := 7 } := by decide

/-- R54: the count of the home range is cut at 512 accounts and at account 999,999. -/
theorem test_home_range :
    homeCountOf 1000000 5 = 0 ∧ homeCountOf 999999 5 = 1 ∧ homeCountOf 0 513 = 512 ∧ homeCountOf 999488 512 = 512 := by decide

/-- The table gives its rows no bits: no word spells a command, and placing one changes nothing. -/
theorem test_no_words : decodeTableWord 16 5 = none ∧ live.withFetchWord 16 5 = live := ⟨rfl, rfl⟩

/-! ### Witnesses: the block, lines and calls -/

theorem witness_StepRunsTheFrontCommand :
    ({ live with pending := [.ringBurst 2, .tick] } : State).pending = .ringBurst 2 :: [.tick] ∧
      State.reset.pending = [] := ⟨rfl, rfl⟩

/-- The state of the ring burst at count `n - 1` on line 2. -/
def ringingAt (n : Nat) (f : Filter) : State :=
  inLine 2 (fun x => { x with state := .ringing, ringCount := n, ringFilter := f, timer := if f = .absent then some 0 else none })

theorem witness_RingBurstCountsAndAnswers :
    (live.inReset = false ∧ live.station.settings = some someSettings ∧
      (live.lines[2].state = .idle ∧ live.permission = true ∧ 1 = 1) ∧ live.lines[2].ringFilter = .absent ∧
      1 < someSettings.answerRings) ∧
    ((ringingAt 1 .absent).inReset = false ∧ (ringingAt 1 .absent).lines[2].state = .ringing ∧
      2 = (ringingAt 1 .absent).lines[2].ringCount + 1 ∧ (ringingAt 1 .absent).lines[2].ringFilter = .absent ∧
      someSettings.answerRings ≤ 2) ∧
    ((ringingAt 1 .present).lines[2].state = .ringing ∧ (ringingAt 1 .present).lines[2].ringFilter = .present) ∧
    (waiting.lines[2].state = .idle ∧ waiting.permission = false) ∧
    (onLine.lines[2].state ≠ .idle ∧ onLine.lines[2].state ≠ .ringing) := by decide

/-- R5: the first burst rings, the second of 2 answers with the answer timer at 30. -/
theorem test_ring_burst :
    leaves (.ringBurst 2) live (fun t => (t.lines[2].state, t.lines[2].ringCount)) = some (.ringing, 1) ∧
    leaves (.ringBurst 2) (ringingAt 1 .absent)
      (fun t => (t.lines[2].state, t.lines[2].terminalReady, t.lines[2].timer)) = some (.answering, true, some 30) := by decide

/-- Line 2 with a timer due. -/
def dueIn (st : LineState) : State := inLine 2 (fun x => { x with state := st, timer := some 0 })

theorem witness_LineTimersAndCarrierPresence :
    ((ringingAt 1 .present).inReset = false ∧ (ringingAt 1 .present).lines[2].state = .ringing ∧
      (ringingAt 1 .present).lines[2].ringFilter = .present) ∧
    ((ringingAt 1 .absent).lines[2].state = .ringing ∧ (ringingAt 1 .absent).lines[2].timer = some 0) ∧
    (ringingAt 1 .present).lines[2].timer ≠ some 0 ∧
    ((dueIn (.hangup .holding)).inReset = false ∧ (dueIn (.hangup .holding)).lines[2].state = .hangup .holding ∧
      (dueIn (.hangup .holding)).lines[2].timer = some 0) ∧
    ((lineIn 2 (.hangup .holding) none).lines[2].timer ≠ some 0) ∧
    ((dueIn .answering).lines[2].state = .answering ∧ (dueIn .answering).lines[2].carrierFilter = .absent ∧
      (dueIn .answering).lines[2].timer = some 0) ∧
    (live.lines[2].state ≠ .answering ∧ live.lines[2].state ≠ .disabled) ∧
    ((dueIn .speedDetect).lines[2].timer = some 0 ∧ (dueIn .speedDetect).lines[2].state = .speedDetect) := by decide

/-- The DATA entry of line 2, in flight with one character or waiting. -/
def dataEntry (flying : Bool) : Entry :=
  if flying then flyingEntry (.data 2 itsHandle (some { chars := [65], breakFlag := false, ringCleared := false }))
  else waitingEntry (.data 2 itsHandle none)

/-- Line 2 is ONLINE with 2 characters received and its DATA entry queued. -/
def sendingData (flying : Bool) : State :=
  (onLine.modLine 2 (fun x => { x with rxRing := List.replicate 2 { code := 65, aged := true } })).setQueue
    [tallyEntry, dataEntry flying, chargeEntry]

/-- R18: a locked line with an empty transmit ring, one with characters, and one that is not locked. R26: its DATA entry waits or
is in flight. -/
theorem witness_HangUpDrainsOrHolds :
    (onLine.lines[2].state = .online ∧ onLine.lines[2].txStation = [] ∧ onLine.lines[2].txHost = []) ∧
    (live.lines[2].state ≠ .ringing ∧ (3 : Fin 8) ≠ 2 ∧ live.lines[3].state ≠ .ringing) ∧
    live.bus.queue.any (Entry.dataOn 2) = false ∧
    (live.lines[2].state ≠ .signOn ∧ live.lines[2].state ≠ .claiming ∧ live.lines[2].state ≠ .online) ∧
    (∀ fill : Bool, (sendingData fill).lines[2].state = .online ∧
      (sendingData fill).bus.queue = [tallyEntry] ++ dataEntry fill :: [chargeEntry] ∧
      Entry.dataOn 2 (dataEntry fill) = true ∧ (∀ y ∈ [tallyEntry] ++ [chargeEntry], Entry.dataOn 2 y = false)) ∧
    (dataEntry false).inFlight = false ∧ (dataEntry true).inFlight = true ∧ (dataEntry true).payload =
      .data 2 itsHandle (some { chars := [65], breakFlag := false, ringCleared := false }) := by decide +kernel

/-- R26: a DATA entry that waits is withdrawn with its ring; one in flight goes on, marked. -/
theorem test_hang_up_with_data :
    (hangUp 2 (sendingData false)).bus.queue = [tallyEntry, chargeEntry] ∧
    ((hangUp 2 (sendingData true)).bus.queue.map Entry.payload)[1]? =
      some (.data 2 itsHandle (some { chars := [65], breakFlag := false, ringCleared := true })) ∧
    (hangUpDirect 2 (sendingData true)).lines[2].rxRing = [] := by decide +kernel

/-- R18 and R19: the hang-up of a line with one character left drains; of one with none it holds for 2 seconds. -/
theorem test_hang_up :
    ((hangUp 2 (onLine.modLine 2 (fun x => { x with txHost := [65] }))).lines[2].state,
      (hangUp 2 onLine).lines[2].state, (hangUp 2 onLine).lines[2].timer) =
      (.hangup .draining, .hangup .holding, some 2) := by decide

/-- Line 2 in SPEED_DETECT with the receiver given and `n` failed attempts. -/
def detecting (r : Receiver) (n : Nat) : State :=
  inLine 2 (fun x => { x with state := .speedDetect, receiver := r, timer := some 20,
                              dialogue := some { Dialogue.opened with speedAttempts := n } })

theorem witness_SpeedDetection :
    ((detecting .disarmed 0).inReset = false ∧ (detecting .disarmed 0).lines[2].state = .speedDetect ∧
      (detecting .disarmed 0).lines[2].dialogue = some { Dialogue.opened with speedAttempts := 0 } ∧
      (detecting .disarmed 0).lines[2].receiver = .disarmed) ∧
    ((detecting .armed 3).lines[2].receiver = .armed ∧ 599 < 600 ∧ 3 + 1 < 5 ∧ (600 ≤ 600 ∧ 600 < 1250) ∧ 6000 ≤ 6000) ∧
    ((detecting (.decoding 0) 4).lines[2].receiver = .decoding 0 ∧ ((10 ≠ 13) ∨ true = false) ∧ 5 ≤ 4 + 1) := by decide

/-- R11, R12, R36: the lock places the USER prompt; the fifth failed attempt hangs up. -/
theorem test_speed_decode :
    leaves (.speedDecodeEnd 2 13 true) (detecting (.decoding 3) 0)
      (fun t => (t.lines[2].state, t.lines[2].speedClass, t.lines[2].txStation)) = some (.signOn, 3, [85, 58]) ∧
    leaves (.speedDecodeEnd 2 10 true) (detecting (.decoding 3) 4) (fun t => t.lines[2].state) =
      some (.hangup .holding) := by decide

theorem witness_CarrierLossByLineState :
    (live.lines[2].state = .idle) ∧ onLine.inReset = false ∧ onLine.lines[2].carrierFilter = .present ∧
    ((lineIn 2 .signOn (some passwordContext)).lines[2].state = .signOn ∧
      (lineIn 2 .signOn (some passwordContext)).lines[2].carrierFilter = .present) ∧
    ((lineIn 2 (.hangup .draining) none).lines[2].state = .hangup .draining ∧
      (lineIn 2 (.hangup .draining) none).lines[2].carrierFilter = .present) ∧
    (onLine.lines[2].servedSlot = some 4 ∧ onLine.table.slots[4].session = some (someSession .active) ∧
      onLine.lines[2].state = .online ∧ 0 < onLine.detachGrace) ∧
    ((withSession (someSession .claiming) .claiming live).lines[2].state = .claiming ∧
      (withSession (someSession .claiming) .claiming live).table.slots[4].session = some (someSession .claiming)) ∧
    ((withSession (someSession .cutoffGrace) .online live).lines[2].state = .online) ∧
    ({ onLine with station := { onLine.station with settings := some { someSettings with detachGrace := 0 } } } :
      State).detachGrace = 0 := by decide

/-- R80, R83: the loss detaches an ACTIVE session for 30 seconds, and ends one in CUTOFF_GRACE. -/
theorem test_carrier_loss :
    leaves (.carrierLoss 2) onLine (fun t => (t.table.slots[4].session.map Session.state, t.lines[2].state)) =
      some (some .detached, .hangup .holding) ∧
    leaves (.carrierLoss 2) (withSession (someSession .cutoffGrace) .online live)
      (fun t => t.table.slots[4].session.map (fun x => (x.state, x.endCause))) =
      some (some (.ending, some .credit)) := by decide

/-! ### Witnesses: character paths -/

/-- An ONLINE line with `n` characters in its receive ring. -/
def ringOf (n : Nat) : State := onLine.modLine 2 (fun x => { x with rxRing := List.replicate n { code := 65, aged := false } })

theorem witness_CharactersErrorsAndBreaks :
    (onLine.inReset = false ∧ onLine.lines[2].state = .online) ∧ (ringOf 31).lines[2].rxRing.length < 32 ∧
    32 ≤ (ringOf 32).lines[2].rxRing.length ∧
    (withSession (someSession .claiming) .claiming live).lines[2].state = .claiming ∧
    (ringOf 1).lines[2].rxRing = [{ code := 65, aged := false }] ∧
    ((ringOf 16).lines[2].servedSlot = some 4 ∧ (ringOf 16).bus.queue.length < 24 ∧
      (∀ e ∈ (ringOf 16).bus.queue, Entry.dataOn 2 e = false) ∧ 16 ≤ (ringOf 16).lines[2].rxRing.length) ∧
    ((ringOf 15).lines[2].rxRing.length < 16 ∧ (ringOf 15).lines[2].pendingBreak = none) ∧
    24 ≤ (crowded 24 (ringOf 16)).bus.queue.length ∧ onLine.lines[2].pendingBreak = none ∧
    live.lines[2].state ≠ .signOn := by decide

/-- R22: the 33rd character is counted as an overrun. R24: the 16th makes the DATA offer. -/
theorem test_character :
    leaves (.character 2 66) (ringOf 32) (fun t => (t.lines[2].rxRing.length, t.lines[2].receiveOverruns)) = some (32, 1) ∧
    leaves (.character 2 66) (ringOf 15) (fun t => t.bus.queue.map Entry.payload) =
      some [.data 2 itsHandle none] := by decide

/-- R23: a second break is counted. -/
theorem test_line_break :
    leaves (.lineBreak 2) (ringOf 3) (fun t => t.lines[2].pendingBreak) = some (some 3) ∧
    leaves (.lineBreak 2) ((ringOf 3).modLine 2 (fun x => { x with pendingBreak := some 3 }))
      (fun t => (t.lines[2].pendingBreak, t.lines[2].receiveOverruns)) = some (some 3, 1) := by decide

/-- A line with the two runs of its transmit ring. -/
def sendingFrom (st : LineState) (a b : Nat) : State :=
  onLine.modLine 2 (fun x => { x with state := st, txStation := List.replicate a 83, txHost := List.replicate b 72 })

theorem witness_TransmitterTakesStationFirst :
    (sendingFrom .online 1 0).inReset = false ∧ (sendingFrom .online 1 0).lines[2].state = .online ∧
    (sendingFrom .online 1 0).lines[2].txStation = 83 :: [] ∧
    ((sendingFrom .online 0 1).lines[2].txStation = [] ∧ (sendingFrom .online 0 1).lines[2].txHost = 72 :: []) ∧
    ((sendingFrom (.hangup .draining) 0 1).lines[2].state = .hangup .draining ∧
      (sendingFrom (.hangup .draining) 0 1).lines[2].txStation = [] ∧
      (sendingFrom (.hangup .draining) 0 1).lines[2].txHost = 72 :: []) ∧
    ((sendingFrom (.hangup .draining) 0 0).lines[2].txStation = [] ∧
      (sendingFrom (.hangup .draining) 0 0).lines[2].txHost = [] ∧ (sendingFrom .online 0 0).lines[2].txHost = []) ∧
    (live.lines[2].state ≠ .signOn ∧ live.lines[2].state ≠ .hangup .draining) ∧ live.lines[2].sending = none ∧
    ({ live.lines[2] with sending := some 65 } : Line).sending = some 65 := by decide

/-- R16, R18, R30: the ring's last character is sent in DRAINING, and HOLDING comes after it. -/
theorem test_transmit_character :
    leaves (.transmitCharacter 2) (sendingFrom .online 1 1) (fun t => (t.lines[2].sending, t.lines[2].txHost)) =
      some (some 83, [72]) ∧
    leaves (.transmitCharacter 2) (sendingFrom (.hangup .draining) 0 1) (fun t => (t.lines[2].state, t.lines[2].sending)) =
      some (.hangup .draining, some 72) ∧
    leaves (.transmitCharacter 2) (sendingFrom (.hangup .draining) 0 0) (fun t => (t.lines[2].state, t.lines[2].sending)) =
      some (.hangup .holding, none) := by decide

/-- R16: the letter A at speed class 0 and C at class 3: start, data lowest first, even parity, two stop bits and one. -/
theorem test_character_bits :
    characterBits 0 65 = [false, true, false, false, false, false, false, true, false, true, true] ∧
    characterBits 3 67 = [false, true, true, false, false, false, false, true, true, true] := by decide

theorem witness_StationTextPlaced :
    (live.lines[2].state ≠ .signOn ∧ live.lines[2].state ≠ .claiming ∧ live.lines[2].state ≠ .online) ∧
    ((sendingFrom .online 0 50).lines[2].state = .online ∧
      (sendingFrom .online 0 50).lines[2].txStation.length + (sendingFrom .online 0 50).lines[2].txHost.length ≤ 64) := by
  decide

/-- The worked example of chapter 2: ?CREDIT EXHAUSTED behind 50 HOST characters removes the 5 newest. -/
theorem test_text_placement :
    ((placeText 2 FixedText.creditExhausted.chars (sendingFrom .online 0 50)).lines[2].txStation.length,
     (placeText 2 FixedText.creditExhausted.chars (sendingFrom .online 0 50)).lines[2].txHost.length,
     (placeText 2 FixedText.creditExhausted.chars (sendingFrom .online 0 50)).lines[2].outputDiscards) = (19, 45, 5) := by
  decide

/-- Ten characters from the host adapter. -/
def hostData (hangUpFlag : Bool) : DataBody :=
  { handle := itsHandle, breakFlag := false, hangUpFlag := hangUpFlag, chars := List.replicate 10 72 }

theorem witness_HostDataToTheTerminal :
    onLine.takesNow (.data (hostData true)) ∧ onLine.takesNow (.data (hostData false)) ∧
    (hostData true).handle = onLine.handleAt 4 ∧ onLine.table.slots[4].session = some (someSession .active) ∧
    (someSession .active).line = some 2 ∧ live.takesNow (.data (hostData true)) ∧
    (∀ k : Fin 12, live.table.slots[k].session = none) := by
  simp only [State.takesNow]; decide

/-- The worked example of chapter 2: of 10 characters 3 join and 7 are discarded. R27: no session is counted station-wide. -/
theorem test_host_data :
    leaves (.data (hostData false)) (sendingFrom .online 16 45)
      (fun t => (t.lines[2].txHost.length, t.lines[2].outputDiscards)) = some (48, 7) ∧
    leaves (.data (hostData false)) live (fun t => t.station.outputDiscards) = some 1 := by decide

/-! ### Witnesses: signing on -/

/-- Line 2 at sign-on with the entry given, in the phase given. -/
def typing (p : EntryPhase) (entry : List Nat) : State :=
  lineIn 2 .signOn (some { passwordContext with phase := p, entry := entry, digest := digestOf entry })

theorem witness_SignOnEntriesEdited :
    ((typing .user []).inReset = false ∧ (typing .user []).lines[2].state = .signOn) ∧
    ((typing .user []).lines[2].dialogue = some { passwordContext with phase := .user, entry := [], digest := 0 }) ∧
    (typing .user (List.replicate 6 57)).lines[2].dialogue =
      some { passwordContext with phase := .user, entry := List.replicate 6 57, digest := digestOf (List.replicate 6 57) } ∧
    ((48 ≤ 48 ∧ 48 ≤ 57 ∧ (List.replicate 5 48).length < 6) ∧ 6 ≤ (List.replicate 6 57).length ∧
      (58 ≠ 8 ∧ 58 ≠ 13 ∧ 58 ≠ 127 ∧ (58 < 48 ∨ 57 < 58))) ∧
    (typing .password [65]).lines[2].dialogue = some { passwordContext with entry := [65], digest := 65 } ∧
    ((32 ≤ 126 ∧ 126 ≤ 126 ∧ (List.replicate 11 65).length < 12) ∧ 12 ≤ (List.replicate 12 65).length ∧
      (31 ≠ 8 ∧ 31 ≠ 13 ∧ 31 < 32)) := by decide

/-- R37, R38: a digit is echoed; the entry 1001 becomes the user number. -/
theorem test_user_entry :
    leaves (.character 2 49) (typing .user []) (fun t => t.lines[2].txStation) = some [49] ∧
    leaves (.character 2 13) (typing .user [49, 48, 48, 49])
      (fun t => (t.lines[2].dialogue.map Dialogue.userNumber, t.lines[2].txStation)) =
      some (some (some 1001), [13, 10, 80, 58]) := by decide

/-- R39, R40: the digest of the worked example grows by C; the completed entry sends a CLAIM with it. -/
theorem test_password_entry :
    leaves (.character 2 67) (typing .password [65, 66]) (fun t => t.lines[2].dialogue.map Dialogue.digest) =
      some (some 73030) ∧
    leaves (.character 2 13) (typing .password [65, 66, 67])
      (fun t => (t.lines[2].state, t.bus.queue.map Entry.payload)) =
      some (.claiming, [.claim { handle := { station := 5, slot := 0, generation := 1 }, account := 1001, digest := 73030,
                                 speedClass := 0, line := 2 }]) := by decide

/-- A claim whose timer is due. -/
def silent (abandoned : Bool) : State :=
  (withSession { someSession .claiming with abandoned := abandoned, line := if abandoned then none else some 2 }
    .claiming live).modSlot 4 (fun k => { k with claimTimer := some 0 })

theorem witness_SignOnAndClaimTimeOut :
    ((lineIn 2 .signOn (some { passwordContext with timer := some 0 })).lines[2].state = .signOn ∧
      (lineIn 2 .signOn (some { passwordContext with timer := some 0 })).lines[2].dialogue =
        some { passwordContext with timer := some 0 } ∧ passwordContext.step = .entry) ∧
    passwordContext.timer ≠ some 0 ∧
    ((silent true).inReset = false ∧ (silent true).table.slots[4].claimTimer = some 0 ∧
      (silent true).table.slots[4].session = some { someSession .claiming with abandoned := true, line := none }) ∧
    (silent false).table.slots[4].session = some (someSession .claiming) ∧ (someSession .claiming).line = some 2 := by decide

theorem test_time_outs :
    leaves (.signOnTimerExpiry 2) (lineIn 2 .signOn (some { passwordContext with timer := some 0 }))
      (fun t => (t.lines[2].state, t.lines[2].txStation.length)) = some (.hangup .draining, 11) ∧
    leaves (.claimTimerExpiry 4) (silent false) (fun t => (t.table.slots[4].session, t.lines[2].txStation.length)) =
      some (none, 14) := by decide

/-- Every slot holds a session, those of `detached` DETACHED. -/
def fullTable (detached : List (Fin 12)) : State :=
  { typing .password [65] with table := { live.table with
      slots := Vector.ofFn (fun k : Fin 12 =>
        { generation := 9, replySource := some 5, claimTimer := none,
          session := some { someSession (if k ∈ detached then .detached else .active) with line := none } }),
      detachOrder := detached } }

theorem witness_ClaimReservesASlot :
    ((typing .password [65]).lines[2].state = .signOn ∧ (typing .password [65]).station.settings = some someSettings ∧
      (typing .password [65]).lines[2].dialogue = some { passwordContext with entry := [65], digest := 65 }) ∧
    ((typing .password [65]).census < someSettings.sessionCap ∧ (typing .password [65]).table.slots[0].session = none) ∧
    ((fullTable [3]).census < someSettings.sessionCap ∧ (∀ k : Fin 12, (fullTable [3]).table.slots[k].session ≠ none) ∧
      (fullTable [3]).table.detachOrder = 3 :: []) ∧ (fullTable []).table.detachOrder = [] ∧
    (12 ≤ (fullTable []).census ∧ (typing .password [65]).bus.queue.length < 24 ∧
      24 ≤ (crowded 24 (typing .password [65])).bus.queue.length) := by decide

/-- R43: with no slot free the longest DETACHED session is evicted and its slot awaited. -/
theorem test_eviction :
    leaves (.character 2 13) (fullTable [3])
      (fun t => (t.lines[2].dialogue.map Dialogue.awaitedSlot, t.table.slots[3].session.map Session.endCause)) =
      some (some (some 3), some (some .detachEvicted)) := by decide

/-- A claim of slot 4 on line 2. -/
def claimOut : State := withSession (someSession .claiming) .claiming live

/-- A GRANT for it. -/
def someGrant (old : Option Handle) : GrantBody := { handle := itsHandle, account := 1001, acctClass := 1, oldHandle := old }

/-- A DENY for it. -/
def someDeny (r : DenyReason) : DenyBody := { handle := itsHandle, account := 1001, reason := r }

/-- The same claim, while slot 6 of this station holds the old session in the state given. -/
def claimAgain (st : SessionState) : State :=
  claimOut.setSlot 6 { generation := 3, replySource := some 5, claimTimer := none,
                       session := some { someSession st with line := none } }

theorem witness_GrantMakesTheSessionLive :
    claimOut.takesNow (.grant 9 (someGrant none)) ∧ (someGrant none).handle = claimOut.handleAt 4 ∧
    claimOut.table.slots[4].replySource = none ∧ claimOut.table.slots[4].session = some (someSession .claiming) ∧
    (someSession .claiming).abandoned = false ∧ (someSession .claiming).line = some 2 ∧
    claimOut.lines[2].state = .claiming ∧ claimOut.takesNow (.grant 9 (someGrant (some { itsHandle with station := 6 }))) ∧
    claimOut.matched { itsHandle with station := 6 } = none ∧
    (claimAgain .detached).takesNow (.grant 9 (someGrant (some { station := 5, slot := 6, generation := 3 }))) ∧
    (claimAgain .detached).matched { station := 5, slot := 6, generation := 3 } =
      some (6, { someSession .detached with line := none }) ∧
    (claimAgain .ending).matched { station := 5, slot := 6, generation := 3 } =
      some (6, { someSession .ending with line := none }) ∧ (someSession .ending).state ≠ .detached := by
  simp only [State.takesNow]; decide

/-- R70, last paragraph: one GRANT REATTACH makes the claim ACTIVE and ends the DETACHED session of the same station. -/
theorem test_reattach_here :
    leaves (.grant 9 (someGrant (some { station := 5, slot := 6, generation := 3 }))) (claimAgain .detached)
      (fun t => (t.table.slots[4].session.map Session.state, t.table.slots[6].session.map (fun x => (x.state, x.endCause)))) =
      some (some .active, some (.ending, some .moved)) := by decide +kernel

/-- R47, R101: the surcharge of PEAK, speed class 3, account class 1 (index 25) is the opening total, and a TALLY follows. -/
theorem test_grant :
    leaves (.grant 9 (someGrant none))
      { claimOut with meter := { claimOut.meter with tariffs := claimOut.meter.tariffs.set 25 { rate := 130, surcharge := 2 } } }
      (fun t => (t.table.slots[4].session.map (fun x => (x.state, x.home, x.total)), t.lines[2].state,
                 t.bus.queue.map Entry.destination)) =
      some (some (.active, some 9, 2), .online, [255]) := by decide

theorem witness_DenySettlesTheClaim :
    claimOut.takesNow (.deny 9 (someDeny .limit)) ∧ claimOut.takesNow (.deny 9 (someDeny .homeBusy)) ∧
    claimOut.takesNow (.deny 9 (someDeny .badDigest)) ∧ (someDeny .limit).handle = claimOut.handleAt 4 ∧
    claimOut.table.slots[4].replySource = none ∧ claimOut.table.slots[4].session = some (someSession .claiming) ∧
    claimOut.lines[2].dialogue = some { passwordContext with step := .claimed } ∧ claimOut.lines[2].state = .claiming ∧
    (passwordContext.attempts + 1 < 3 ∧ 3 ≤ ({ passwordContext with attempts := 2 } : Dialogue).attempts + 1) := by
  simp only [State.takesNow]; decide

/-- R50: a wrong digest uses up an attempt; the third hangs up. -/
theorem test_deny :
    leaves (.deny 9 (someDeny .badDigest)) claimOut
      (fun t => (t.lines[2].state, t.lines[2].dialogue.map Dialogue.attempts, t.table.slots[4].session)) =
      some (.signOn, some 1, none) ∧
    leaves (.deny 9 (someDeny .noAccount))
      (claimOut.modLine 2 (fun x => { x with dialogue := x.dialogue.map (fun d => { d with attempts := 2 }) }))
      (fun t => t.lines[2].state) = some (.hangup .draining) := by decide

/-- A claim whose line was lost. -/
def abandoned : State := withSession { someSession .claiming with abandoned := true, line := none } .idle live

theorem witness_AbandonedLateAndDuplicateReplies :
    abandoned.takesNow (.grant 9 (someGrant none)) ∧ abandoned.takesNow (.deny 9 (someDeny .limit)) ∧
    abandoned.inService = true ∧ abandoned.bus.queue.length < 24 ∧ (someGrant none).handle = (someDeny .limit).handle ∧
    (∀ e ∈ abandoned.bus.queue, Entry.chargesFor (someGrant none).handle e = false) ∧
    ((someGrant none).handle = abandoned.handleAt 4 ∧ abandoned.table.slots[4].replySource = none ∧
      abandoned.table.slots[4].session = some { someSession .claiming with abandoned := true, line := none }) ∧
    (16 ≠ abandoned.table.slots[4].generation ∧ onLine.table.slots[4].replySource = some 5 ∧ 5 ≠ 9 ∧
      onLine.takesNow (.grant 9 (someGrant none)) ∧ onLine.takesNow (.deny 9 (someDeny .limit)) ∧ 11 < 12) ∧
    (onLine.takesNow (.grant 5 (someGrant none)) ∧ onLine.takesNow (.deny 5 (someDeny .limit)) ∧
      onLine.table.slots[4].session ≠ none) ∧
    (waiting.takesNow (.grant 9 (someGrant none)) ∧ waiting.takesNow (.deny 9 (someDeny .limit)) ∧
      waiting.inService = false ∧ waiting.table.slots[4].replySource = none ∧ waiting.table.slots[4].session = none ∧
      waiting.handleAt 4 = { itsHandle with generation := 0 }) ∧
    (live.setSlot 4 { Slot.cleared with replySource := some 9 }).table.slots[4].replySource = some 9 := by
  simp only [State.takesNow]; decide

/-- R51 to R53: ABANDONED, LATE and DUPLICATE. -/
theorem test_late_replies :
    leaves (.grant 9 (someGrant none)) abandoned (fun t => t.table.slots[4].session.map Session.endCause) =
      some (some (some .abandoned)) ∧
    leaves (.grant 12 { someGrant none with handle := { itsHandle with generation := 16 } }) claimOut
      (fun t => t.bus.queue.map (fun e => (e.destination, e.payload))) =
      some [(12, .charge { handle := { itsHandle with generation := 16 }, account := 1001, home := 12, total := 0,
                           endCause := some .late } none)] ∧
    leaves (.deny 9 (someDeny .limit)) onLine (fun t => t.faults.degraded.first.map FirstRecord.kind) =
      some (some .duplicateHome) := by decide

/-- R46 steps 4 and 5, R52: a GRANT for a free slot of the current generation is LATE, in AWAITING_CONFIG without a CHARGE; a
second one from the same source for a live session is discarded. -/
theorem test_late_for_current_generation :
    leaves (.grant 9 { someGrant none with handle := { itsHandle with generation := 0 } }) live
      (fun t => (t.table.slots[4].replySource, t.bus.queue.map Entry.destination)) = some (some 9, [9]) ∧
    leaves (.grant 9 { someGrant none with handle := { itsHandle with generation := 0 } }) waiting
      (fun t => (t.table.slots[4].replySource, t.bus.queue.length)) = some (some 9, 0) ∧
    leaves (.grant 5 (someGrant none)) onLine (fun t => decide (t = onLine)) = some true := by decide +kernel

/-- The old session of a reattachment. -/
def oldSession (st : SessionState) : State := withSession { someSession st with line := none } .idle live

/-- A GRANT REATTACH for station 6 that names it. -/
def movingGrant : GrantBody :=
  { handle := { station := 6, slot := 0, generation := 1 }, account := 1001, acctClass := 1, oldHandle := some itsHandle }

/-- The old session ended by its grace, its final CHARGE queued. -/
def expired : State :=
  crowded 1 (withSession { someSession .ending with line := none, endCause := some .detachExpired,
                                                    finalStatus := some .queued } .idle live)

theorem witness_GrantReattachEndsTheOldSession :
    (oldSession .detached).takesNow (.grant 9 movingGrant) ∧ movingGrant.oldHandle = some itsHandle ∧
    movingGrant.handle.station ≠ (oldSession .detached).own ∧
    (oldSession .detached).matched itsHandle = some (4, { someSession .detached with line := none }) ∧
    expired.takesNow (.grant 9 movingGrant) ∧
    expired.matched itsHandle = some (4, { someSession .ending with line := none, endCause := some .detachExpired,
                                                                    finalStatus := some .queued }) ∧
    (∀ e ∈ expired.bus.queue, Entry.chargesFor itsHandle e = false) ∧
    (oldSession .claiming).matched itsHandle = some (4, { someSession .claiming with line := none }) ∧
    live.matched itsHandle = none ∧
    flyingFinal.matched itsHandle = some (4, { someSession .ending with endCause := some .credit, finalStatus := some .inFlight }) := by
  simp only [State.takesNow]; decide

/-- R70: a DETACHED session ends with cause MOVED. -/
theorem test_reattach :
    leaves (.grant 9 movingGrant) (oldSession .detached) (fun t => t.table.slots[4].session.map Session.endCause) =
      some (some (some .moved)) := by decide

/-! ### Witnesses: sessions -/

/-- The session ENDING with its final CHARGE WAITING, the queue given. -/
def finalWaiting (q : List Entry) : State :=
  (withSession { someSession .ending with line := none, endCause := some .credit, finalStatus := some .waiting } .idle
    live).setQueue q

/-- A session whose total stands at its top with a remainder of 500, METER_SATURATED logged before or not. -/
def topped (marked : Bool) : State :=
  withSession { someSession .active with total := 16777215, remainder := 500, saturated := marked } .online live

theorem witness_EndingAndDetaching :
    onLine.table.slots[4].session = some (someSession .active) ∧ (someSession .active).remainder < 500 ∧
    onLine.bus.queue.length < 24 ∧ (∀ e ∈ onLine.bus.queue, Entry.chargesFor (onLine.handleAt 4) e = false) ∧
    24 ≤ (crowded 24 onLine).bus.queue.length ∧
    (crowded 24 onLine).table.slots[4].session = some (someSession .active) ∧
    ((finalWaiting []).table.slots[4].session = some { someSession .ending with
      line := none, endCause := some .credit, finalStatus := some .waiting }) ∧
    (finalWaiting [tallyEntry, chargeEntry]).bus.queue = [tallyEntry] ++ chargeEntry :: [] ∧
    (∀ y ∈ [tallyEntry] ++ [], Entry.chargesFor itsHandle y = false) ∧ chargeEntry.inFlight = false ∧
    { chargeEntry with inFlight := true }.inFlight = true ∧ Entry.chargesFor itsHandle zeroEntry = true ∧
    24 ≤ (crowded 24 (finalWaiting [])).bus.queue.length ∧
    (topped false).table.slots[4].session = some { someSession .active with total := 16777215, remainder := 500 } ∧
    (topped true).table.slots[4].session =
      some { someSession .active with total := 16777215, remainder := 500, saturated := true } := by decide

/-- R105: the credit that a total at its top cannot take joins the overflow count, and the fault is logged once per session. -/
theorem test_ending_at_the_top :
    [false, true].map (fun marked => let t := endSession 4 .forced (topped marked)
      (t.table.slots[4].session.map Session.total, t.meter.overflow, t.faults.degraded.first.map FirstRecord.kind)) =
      [(some 16777215, 1, some .meterSaturated), (some 16777215, 1, none)] := by decide

/-- R87: the final CHARGE takes the place of the session's waiting CHARGE; behind one in flight it waits. -/
theorem test_final_offer :
    ((offerFinal 4 (finalWaiting [tallyEntry, chargeEntry])).bus.queue.map Entry.payload).getLast? =
      some (.charge { handle := itsHandle, account := 1001, home := 5, total := 100, endCause := some .credit } (some 4)) ∧
    offerFinal 4 (finalWaiting [{ chargeEntry with inFlight := true }]) =
      finalWaiting [{ chargeEntry with inFlight := true }] := by decide

/-- R105: a remainder of 500 rounds up, one of 499 down. R86: the final CHARGE joins before the TALLY. -/
theorem test_ending :
    (finalTotal (someSession .active), finalTotal { someSession .active with remainder := 500 }) = (100, 101) ∧
    ((endSession 4 .forced onLine).bus.queue.map Entry.destination) = [5, 255] := by decide

/-- A CUTOFF for the session. -/
def someCutoff : CutoffBody := { handle := itsHandle, account := 1001, balance := -3 }

/-- Timers of sessions due. -/
def graceOut (st : SessionState) : State :=
  withSession { someSession st with grace := some 0, line := if st = .detached then none else some 2 } .online live

theorem witness_CutoffAndGraceExpiries :
    (onLine.takesNow (.cutoff someCutoff) ∧ onLine.matched someCutoff.handle = some (4, someSession .active) ∧
      (someSession .active).line = some 2) ∧
    ((oldSession .detached).takesNow (.cutoff someCutoff) ∧
      (oldSession .detached).matched someCutoff.handle = some (4, { someSession .detached with line := none })) ∧
    (live.takesNow (.cutoff someCutoff) ∧ live.matched someCutoff.handle = none) ∧
    ((graceOut .detached).inReset = false ∧
      (graceOut .detached).table.slots[4].session = some { someSession .detached with grace := some 0, line := none }) ∧
    (graceOut .cutoffGrace).table.slots[4].session = some { someSession .cutoffGrace with grace := some 0 } ∧
    (withSession { someSession .cutoffGrace with grace := some 1 } .online live).table.slots[4].session =
      some { someSession .cutoffGrace with grace := some 1 } ∧
    ((someSession .active).grace ≠ some 0 ∧ (someSession .active).grace ≠ some 1) ∧
    ({ someSession .cutoffGrace with grace := some 2 } : Session).grace ≠ some 1 := by
  simp only [State.takesNow]; decide

theorem test_cutoff :
    leaves (.cutoff someCutoff) onLine
      (fun t => (t.table.slots[4].session.map (fun x => (x.state, x.grace)), t.lines[2].txStation.length)) =
      some (some (.cutoffGrace, some 60), 19) ∧
    leaves (.cutoffGraceExpiry 4) (graceOut .cutoffGrace)
      (fun t => (t.table.slots[4].session.map Session.endCause, t.lines[2].state)) =
      some (some (some .credit), .hangup .holding) ∧
    leaves (.detachGraceExpiry 4) (graceOut .detached) (fun t => t.table.slots[4].session.map Session.endCause) =
      some (some (some .detachExpired)) := by decide

/-- The worked example of section 6.4 at tick 120: OFFPEAK rate 45 (index 57), 2,005 milli-credits left over. -/
def metered : State :=
  { onLine with meter := { onLine.meter with band := .offPeak,
                                             tariffs := onLine.meter.tariffs.set 57 { rate := 45, surcharge := 0 } } }

/-- R94's table: the cutoff grace's expiry taken before the meter's work for the tick that brings it to 0; that tick then
charges nothing. -/
theorem test_grace_before_the_meter :
    leaves (.cutoffGraceExpiry 4) (withSession { someSession .cutoffGrace with grace := some 1 } .online metered)
      (fun t => (t.table.slots[4].session.map (fun x => (x.state, x.total)),
                 leaves .tick t (fun u => u.table.slots[4].session.map Session.total))) =
      some (some (.ending, 100), some (some 100)) ∧
    leaves (.cutoffGraceExpiry 4) (withSession { someSession .cutoffGrace with grace := some 2 } .online live)
      (fun t => t.table.slots[4].session.map Session.state) = some (some .cutoffGrace) := by decide +kernel

/-- A REFUSE for the session. -/
def someRefuse : RefuseBody := { handle := itsHandle, account := 1001, total := 100 }

theorem witness_RefuseEndsTheSession :
    (onLine.takesNow (.refuse someRefuse) ∧ onLine.matched someRefuse.handle = some (4, someSession .active) ∧
      (someSession .active).line = some 2) ∧
    (oldSession .detached).matched someRefuse.handle = some (4, { someSession .detached with line := none }) ∧
    (oldSession .detached).takesNow (.refuse someRefuse) ∧ claimOut.takesNow (.refuse someRefuse) ∧
    claimOut.matched someRefuse.handle = some (4, someSession .claiming) ∧
    live.takesNow (.refuse someRefuse) ∧ live.matched someRefuse.handle = none := by
  simp only [State.takesNow]; decide

theorem test_refuse :
    leaves (.refuse someRefuse) onLine
      (fun t => (t.table.slots[4].session.map Session.endCause, t.faults.degraded.first.map FirstRecord.kind)) =
      some (some (some .homeLost), some .chargeRefused) := by decide

theorem witness_ForceOffFindings :
    onLine.takesNow (.command .forceOff itsHandle.bytes) ∧ itsHandle.wf = true ∧ onLine.station.state = .inService ∧
    onLine.matched itsHandle = some (4, someSession .active) ∧ waiting.takesNow (.command .forceOff []) ∧
    waiting.station.state ≠ .inService ∧ onLine.takesNow (.command .forceOff []) ∧ ([] : List Byte).length ≠ 3 ∧
    live.takesNow (.command .forceOff itsHandle.bytes) ∧ live.matched itsHandle = none ∧
    (oldSession .detached).takesNow (.command .forceOff itsHandle.bytes) ∧
    claimOut.takesNow (.command .forceOff itsHandle.bytes) ∧ claimOut.matched itsHandle = some (4, someSession .claiming) := by
  simp only [State.takesNow]; decide

/-- R84: the final CHARGE, the TALLY, then RESULT DONE (kind code 39, code 0). -/
theorem test_force_off :
    leaves (.forceOff [5, 4, 17]) onLine (fun t => (t.bus.queue.map Entry.destination, t.lines[2].txStation.length)) =
      some ([5, 255, 0], 13) ∧
    leaves (.forceOff [5, 4, 18]) onLine (fun t => t.bus.queue.map Entry.payload) = some [.reply .result [39, 3]] := by decide

theorem test_tally_heartbeat :
    leaves .tallyHeartbeatExpiry { live with table := { live.table with heartbeat := some 0 } }
      (fun t => (t.bus.queue.map Entry.payload, t.table.heartbeat)) =
      some ([.tally { count := 0, restart := true }], some 10) := by decide

/-! ### Witnesses: metering and tariffs -/

theorem witness_TickChargesAndCounts :
    metered.inReset = false ∧ metered.inService = true ∧ metered.lines[2].state ≠ .ringing ∧
    metered.table.slots[4].session = some (someSession .active) ∧
    544 = (someSession .active).remainder + (metered.meter.tariff 3 1).rate ∧ 100 + 544 / 1000 ≤ 16777215 ∧
    metered.table.slots[5].session = none ∧
    (metered.modSession 4 (fun x => { x with total := 16777215, remainder := 999 })).table.slots[4].session =
      some { someSession .active with total := 16777215, remainder := 999 } ∧
    1044 = 999 + (metered.meter.tariff 3 1).rate ∧ 16777215 < 16777215 + 1044 / 1000 ∧
    (someSession .active).postCounter = 59 := by decide

/-- R45, R88: the claim timer and the TALLY heartbeat count down with the tick. -/
theorem test_tick_timers :
    leaves .tick { live with table := { live.table with heartbeat := some 10,
                                                        slots := live.table.slots.set 4 { Slot.cleared with claimTimer := some 2 } } }
      (fun t => (t.table.heartbeat, t.table.slots[4].claimTimer)) = some (some 9, some 1) := by decide +kernel

/-- R102, R106: a second at rate 45 on a remainder of 970 makes a credit and leaves 15; the sixtieth posting queues a CHARGE. -/
theorem test_tick :
    leaves .tick (metered.modSession 4 (fun x => { x with remainder := 970 }))
      (fun t => (t.table.slots[4].session.map (fun x => (x.total, x.remainder, x.postCounter)),
                 t.bus.queue.map Entry.payload, t.meter.remaining)) =
      some (some (101, 15, 0),
        [.charge { handle := itsHandle, account := 1001, home := 5, total := 101, endCause := none } none], 89) := by decide +kernel

/-- R103: a total at the top stays there, and the credit that does not fit joins the overflow count. -/
theorem test_tick_saturates :
    leaves .tick (metered.modSession 4 (fun x => { x with total := 16777215, remainder := 999 }))
      (fun t => (t.table.slots[4].session.map (fun x => (x.total, x.remainder)), t.meter.overflow,
                 t.faults.degraded.first.map FirstRecord.kind)) =
      some (some (16777215, 0), 1, some .meterSaturated) := by decide +kernel

theorem witness_PostingAndBandFlip :
    onLine.inReset = false ∧ onLine.table.slots[4].session = some (someSession .active) ∧
    (someSession .active).postCounter = 59 ∧ (∀ e ∈ onLine.bus.queue, Entry.chargesFor (onLine.handleAt 4) e = false) ∧
    onLine.bus.queue.length < 24 ∧ 24 ≤ (crowded 24 onLine).bus.queue.length ∧
    ((onLine.setQueue [tallyEntry, chargeEntry]).bus.queue = [tallyEntry] ++ chargeEntry :: [] ∧
      (∀ y ∈ [tallyEntry] ++ [], Entry.chargesFor (onLine.handleAt 4) y = false)) ∧
    (live.meter.running = true ∧ live.meter.band = .peak ∧
      ({ live with meter := { live.meter with remaining := 1 } } : State).meter.remaining = 1) := by decide

/-- R104: the CHARGE of a duplicate GRANT keeps its total 0 at a posting and at the session's end. -/
theorem test_zero_charge_is_kept :
    leaves (.posting 4) (onLine.setQueue [zeroEntry]) (fun t => t.bus.queue) = some [zeroEntry] ∧
    (endSession 4 .forced (onLine.setQueue [zeroEntry])).bus.queue.head? = some zeroEntry ∧
    ((endSession 4 .forced (onLine.setQueue [zeroEntry])).table.slots[4].session.map Session.finalStatus) =
      some (some .waiting) := by decide

theorem test_posting_and_band_flip :
    leaves (.posting 4) (onLine.setQueue [tallyEntry, chargeEntry])
      (fun t => (t.bus.queue.map (fun e => e.payload.class), t.bus.queue.length)) = some ([3, 2], 2) ∧
    leaves .bandFlip { live with meter := { live.meter with remaining := 1 } } (fun t => (t.meter.band, t.meter.remaining)) =
      some (.offPeak, 36000) := by decide

theorem witness_TimeAndTariffLoad :
    waiting.takesNow (.command .time []) ∧ waiting.station.state ≠ .inService ∧
    live.takesNow (.command .time (bytesOf 1 Band.offPeak.code ++ bytesOf 3 86401)) ∧ live.station.state = .inService ∧
    live.takesNow (.command .time [2, 0, 0, 0]) ∧ 1 < fieldOf [2, 0, 0, 0] 0 1 ∧
    live.takesNow (.command .tariffLoad [9]) ∧ 8 < fieldOf [9] 0 1 ∧
    live.takesNow (.command .tariffLoad [2, 25, 0, 130, 2, 64, 0, 1, 0]) ∧
    [2, 25, 0, 130, 2, 64, 0, 1, 0] = bytesOf 1 2 ++ [(25, 130, 2), (64, 1, 0)].flatMap
      (fun e : Nat × Nat × Nat => bytesOf 1 e.1 ++ bytesOf 2 e.2.1 ++ bytesOf 1 e.2.2) := by
  simp only [State.takesNow]; decide

/-- R97: a TIME above 86,400 seconds is clamped and answered with the value taken. R99: entries taken and not taken. -/
theorem test_time_and_tariff_load :
    leaves (.time [1, 1, 81, 129]) live (fun t => (t.meter.band, t.meter.remaining, t.bus.queue.map Entry.payload)) =
      some (.offPeak, 86400, [.reply .result [33, 0, 1, 1, 81, 128]]) ∧
    leaves (.tariffLoad [2, 25, 0, 130, 2, 64, 0, 1, 0]) live
      (fun t => (t.meter.tariffs[25], t.bus.queue.map Entry.payload)) =
      some ({ rate := 130, surcharge := 2 }, [.reply .result [34, 0, 1, 1]]) := by decide

/-! ### Witnesses: the account home -/

/-- A CLAIM for account 1,001 with the digest of A. -/
def someClaim : ClaimBody := { handle := itsHandle, account := 1001, digest := 65, speedClass := 3, line := 2 }

/-- The store is HELD. -/
def heldStore (s : State) : State := { s with store := { s.store with hold := .held, holdTimer := some 10 } }

/-- Account 1,001 stands on the quarantine list with held charges 4. -/
def listed (s : State) : State := { s with home := { s.home with quarantine := [{ account := 1001, held := 4 }] } }

/-- A quarantine list of 8 entries, account 1,001 the first. -/
def fullyListed (s : State) : State :=
  { s with home := { s.home with
      quarantine := { account := 1001, held := 4 } :: List.replicate 7 { account := 2000, held := 0 } } }

theorem witness_ClaimTakenByTheHome :
    live.takesNow (.claim someClaim) ∧ live.home.inRange someClaim.account = true ∧
    live.home.find someClaim.handle = none ∧ live.store.hold ≠ .held ∧
    (∀ q ∈ live.home.quarantine, q.account ≠ someClaim.account) ∧
    live.takesNow (.claim { someClaim with account := 999 }) ∧ live.home.inRange 999 = false ∧
    live.home.inRange 1512 = false ∧ live.home.inRange 1511 = true ∧ live.home.inRange 1000 = true ∧
    (homing .active).takesNow (.claim someClaim) ∧
    (homing .active).home.find someClaim.handle = some (someEntry .active) ∧
    (homing .moving).takesNow (.claim someClaim) ∧ (homing .moving).home.find someClaim.handle = some (someEntry .moving) ∧
    (heldStore live).takesNow (.claim someClaim) ∧ (heldStore live).store.hold = .held ∧
    (listed live).takesNow (.claim someClaim) ∧ (∃ q ∈ (listed live).home.quarantine, q.account = someClaim.account) := by
  simp only [State.takesNow]; decide

/-- R58: a HELD store answers DENY HOME_BUSY; otherwise the home requests the store and is granted it. -/
theorem test_claim :
    leaves (.claim someClaim) (heldStore live) (fun t => t.bus.queue.map Entry.payload) =
      some [.deny { handle := itsHandle, account := 1001, reason := .homeBusy }] ∧
    leaves (.claim someClaim) live (fun t => (t.store.access, t.home.work)) = some (some .home, some (.claim someClaim)) := by
  decide

/-- The home's access for the CLAIM is in progress on the record given. -/
def evaluating (r : Record) (s : State) : State :=
  let t := withRecord r s
  { t with store := { t.store with access := some .home }, home := { t.home with work := some (.claim someClaim) } }

theorem witness_ClaimEvaluationSteps :
    (evaluating someRecord live).inReset = false ∧ (evaluating someRecord live).store.access = some .home ∧
    (evaluating someRecord live).home.work = some (.claim someClaim) ∧
    (evaluating someRecord live).home.first ≤ someClaim.account ∧ 1 = 1001 - (evaluating someRecord live).home.first ∧
    1 < 512 ∧ ((evaluating someRecord live).store.readRecord 1 1001).outcome = .clean ∧
    ((evaluating someRecord live).store.readRecord 1 1001).record = someRecord ∧
    (evaluating someRecord live).home.quarantined 1001 = false ∧ someClaim.digest = someRecord.digest ∧
    0 < someRecord.balance + someRecord.allowance ∧ (evaluating someRecord live).home.list.length < 48 ∧
    (evaluating someRecord live).home.earliestDetached 1001 = none ∧
    (evaluating someRecord live).home.nonMoving 1001 < someRecord.limit := by decide +kernel

/-- R60: the wrong digest counts a failure in the record. R62: a DETACHED session is reattached. R63: a new one is granted. -/
theorem test_claim_evaluation :
    leaves .claimEvaluation (evaluating { someRecord with digest := 66, failures := 4 } live)
      (fun t => ((t.store.readRecord 1 1001).record.failures, (t.store.readRecord 1 1001).record.locked,
                 t.bus.queue.map Entry.payload)) =
      some (5, true, [.deny { handle := itsHandle, account := 1001, reason := .badDigest }]) ∧
    leaves .claimEvaluation (evaluating someRecord live)
      (fun t => (t.home.list.map HomeEntry.state, t.bus.queue.map Entry.payload, t.store.access)) =
      some ([.active], [.grant { handle := itsHandle, account := 1001, acctClass := 2, oldHandle := none }], none) := by
  decide +kernel

/-- A DETACH of the session. -/
def someDetach : DetachBody := { handle := itsHandle, account := 1001 }

theorem witness_DetachTakenByTheHome :
    live.takesNow (.detach someDetach) ∧ live.home.find someDetach.handle = none ∧
    (homing .active).takesNow (.detach someDetach) ∧ (homing .active).home.inRange 1001 = true ∧
    (homing .active).home.find someDetach.handle = some (someEntry .active) := by
  simp only [State.takesNow]; decide

theorem test_detach :
    leaves (.detach someDetach) (homing .active)
      (fun t => (t.home.list.map (fun e => (e.state, e.silence)), t.home.detachOrder)) =
      some ([(.detached, 180)], [itsHandle]) := by decide

/-- The census holds station 9 with 4 sessions and the age given. -/
def counted (age : Nat) : State :=
  { live with bus := { live.bus with census := live.bus.census.set 9 (some { count := 4, age := age }) } }

theorem witness_TalliesOfferedAndCounted :
    live.inService = true ∧ (∀ e ∈ live.bus.queue, Entry.isTally e = false) ∧ live.bus.queue.length < 24 ∧
    (live.setQueue [tallyEntry]).bus.queue = [] ++ tallyEntry :: [] ∧ Entry.isTally tallyEntry = true ∧
    (∀ e ∈ (crowded 24 live).bus.queue, Entry.isTally e = false) ∧ 24 ≤ (crowded 24 live).bus.queue.length ∧
    ({ live with table := { live.table with heartbeat := some 0 } } : State).table.heartbeat = some 0 ∧
    live.table.heartbeat ≠ some 0 ∧
    live.takesNow (.tally 9 { count := 13, restart := false }) ∧ live.takesNow (.tally 9 { count := 0, restart := true }) ∧
    (∀ e ∈ live.home.list, e.handle.station ≠ 9) ∧ (1 ≤ 9 ∧ 9 ≠ live.own) ∧
    live.takesNow (.tally 0 { count := 1, restart := false }) ∧ live.takesNow (.tally 5 { count := 1, restart := false }) ∧
    5 = live.own ∧ (counted 0).inReset = false ∧ (counted 0).bus.census[9] = some { count := 4, age := 0 } ∧
    (counted 1).bus.census[9] = some { count := 4, age := 1 } := by
  simp only [State.takesNow]; decide

/-- R90: a count above 12 is taken as 12; an entry whose age is 0 becomes absent. -/
theorem test_census :
    leaves (.tally 9 { count := 13, restart := false }) live (fun t => t.bus.census[9]) =
      some (some { count := 12, age := 35 }) ∧
    leaves (.censusAgeExpiry 9) (counted 0) (fun t => t.bus.census[9]) = some none := by decide

/-- The entry of the home list with its silence at an end. -/
def orphan (work : Option HomeWork) : State :=
  { live with home := { live.home with list := [{ someEntry .active with silence := 0 }], work := work } }

/-- A CLAIM at work; of two entries whose expiry it put off, one has been restarted since. -/
def putOff : State :=
  { live with home := { live.home with
      work := some (.claim someClaim),
      list := [{ someEntry .active with silence := 0, expiryPutOff := true },
               { someEntry .moving with handle := { itsHandle with slot := 5 }, silence := 180 }] } }

theorem witness_OrphansLeaveTheList :
    (homing .active).takesNow (.tally 5 { count := 0, restart := true }) ∧
    leaves (.tally 5 { count := 0, restart := true }) (homing .active) (fun t => t.home.list) = some [] ∧
    (orphan none).inReset = false ∧ (orphan none).home.find itsHandle = some { someEntry .active with silence := 0 } ∧
    (∀ c, (orphan none).home.work ≠ some (.claim c)) ∧ (someEntry .active).silence ≠ 0 ∧
    (orphan (some (.claim someClaim))).home.work = some (.claim someClaim) ∧
    (someEntry .moving).state = .moving ∧
    ({ someEntry .moving with successor := some itsHandle } : HomeEntry).successor = some itsHandle ∧
    putOff.home.list.Pairwise (fun x y => x.handle ≠ y.handle) := by
  refine ⟨?_, by decide, by decide, by decide, (fun c h => nomatch h), by decide, by decide, by decide, by decide, by decide⟩
  simp only [State.takesNow]; decide

/-- R66: at the CLAIM's end the entry whose expiry was put off is gone, and the one restarted meanwhile stays. -/
theorem test_put_off :
    ((finishClaim putOff).home.list.map HomeEntry.handle, (finishClaim putOff).home.work,
      (finishClaim putOff).faults.degraded.first.map FirstRecord.kind) =
      ([{ itsHandle with slot := 5 }], none, some .orphanExpired) := by decide

/-- R67, R69: the restart TALLY of the old station makes the waiting GRANT REATTACH of its successor a NEW one. -/
theorem test_grant_made_new :
    leaves (.tally 5 { count := 0, restart := true })
      { homing .active with
        home := { (homing .active).home with
          list := [{ someEntry .moving with successor := some { station := 6, slot := 0, generation := 1 } }] },
        bus := { live.bus with queue := [waitingEntry (.grant movingGrant)] } }
      (fun t => (t.home.list, (t.bus.queue.take 1).map Entry.payload)) =
      some ([], [.grant { movingGrant with oldHandle := none }]) := by decide +kernel

theorem test_silence_timer :
    leaves (.silenceTimerExpiry itsHandle) (orphan none)
      (fun t => (t.home.list, t.faults.degraded.first.map (fun r => (r.kind, r.subject.total)))) =
      some ([], some (.orphanExpired, some 90)) := by decide

/-! ### Witnesses: posting and credit -/

theorem witness_ChargeTakenByTheHome :
    live.takesNow (.charge { someCharge 1 none with home := 6 }) ∧ 6 ≠ live.own ∧
    live.takesNow (.charge (someCharge 0 none)) ∧ live.takesNow (.charge (someCharge 1 none)) ∧
    live.home.find itsHandle = none ∧ (someCharge 1 none).home = live.own ∧ live.home.inRange 1001 = true ∧
    (heldStore (homing .active)).takesNow (.charge (someCharge 91 none)) ∧
    (heldStore (homing .active)).home.find itsHandle = some (someEntry .active) ∧
    (∀ b ∈ (heldStore (homing .active)).home.backlog, b.handle ≠ itsHandle) ∧
    (homing .active).takesNow (.charge (someCharge 90 (some .credit))) ∧ 90 ≤ (someEntry .active).applied ∧
    (homing .active).takesNow (.charge (someCharge 91 none)) ∧ (someEntry .active).applied < 91 ∧
    (homing .active).home.quarantined 1001 = false ∧ (listed (homing .active)).takesNow (.charge (someCharge 91 none)) ∧
    (listed (homing .active)).home.quarantined 1001 = true ∧ (homing .moving).takesNow (.charge (someCharge 90 (some .moved))) ∧
    (homing .moving).home.find itsHandle = some (someEntry .moving) ∧ (someCharge 90 (some .moved)).endCause ≠ none := by
  simp only [State.takesNow]; decide

/-- R115: the unknown handle's total is refused. R118: the credits of a listed account are held. -/
theorem test_charge :
    leaves (.charge (someCharge 1 none)) live (fun t => t.bus.queue.map Entry.payload) =
      some [.refuse { handle := itsHandle, account := 1001, total := 1 }] ∧
    leaves (.charge (someCharge 95 none)) (listed (homing .active)) (fun t => t.home.quarantine) =
      some [{ account := 1001, held := 9 }] := by decide

/-- The home's access for a CHARGE with total 140 is in progress. -/
def applying (r : Record) (final : Bool) : State :=
  let t := withRecord r (homing .active)
  { t with store := { t.store with access := some .home },
           home := { t.home with work := some (.charge itsHandle 1001 140 final false) } }

/-- The same for a final CHARGE from the backlog, in a drain. -/
def drained : State :=
  (applying someRecord true).setHome { (applying someRecord true).home with
    work := some (.charge itsHandle 1001 140 true true), draining := true,
    backlog := [{ handle := itsHandle, account := 1001, total := 140, final := true }] }

theorem witness_ChargeApplicationCases :
    (applying someRecord false).inReset = false ∧ (applying someRecord false).store.access = some .home ∧
    (applying someRecord false).home.work = some (.charge itsHandle 1001 140 false false) ∧
    (applying someRecord false).home.find itsHandle = some (someEntry .active) ∧ (someEntry .active).applied < 140 ∧
    50 = 140 - (someEntry .active).applied ∧ 1 = (someEntry .active).account - (applying someRecord false).home.first ∧
    (applying someRecord false).home.first ≤ (someEntry .active).account ∧
    ((applying someRecord false).store.readRecord 1 1001).outcome = .clean ∧
    ((applying someRecord false).store.readRecord 1 1001).record.valid = true ∧
    (applying someRecord false).home.quarantined 1001 = false ∧ (0 : Int) + someRecord.allowance ≤ 0 ∧
    ((applying someRecord false).setHome { (applying someRecord false).home with list := [] }).home.find itsHandle = none ∧
    1001 - live.home.first < 512 ∧
    ({ someEntry .active with applied := 140 } : HomeEntry).applied = 140 ∧
    (drained.home.work = some (.charge itsHandle 1001 140 true true) ∧ drained.inReset = false ∧
      drained.store.access = some .home ∧ drained.home.find itsHandle = some (someEntry .active)) := by decide +kernel

/-- R122: the access for a CHARGE from the backlog takes its entry out of the backlog, and the drain ends. -/
theorem test_drain :
    leaves .chargeApplication drained
      (fun t => (t.home.backlog.length, t.home.draining, t.home.list.length, (t.store.readRecord 1 1001).record.balance)) =
      some (0, false, 0, 0) := by decide +kernel

/-- R117, R120: the balance 50 less 50 credits is 0, so a CUTOFF with balance 0 is queued. -/
theorem test_charge_application :
    leaves .chargeApplication (applying someRecord false)
      (fun t => ((t.store.readRecord 1 1001).record.balance, (t.store.readRecord 1 1001).record.termCredits,
                 t.home.list.map HomeEntry.applied, t.bus.queue.map Entry.payload)) =
      some (0, 57, [140], [.cutoff { handle := itsHandle, account := 1001, balance := 0 }]) := by decide +kernel

theorem witness_CutoffsQueuedAndCreditsPlaced :
    ((0 : Int) + (0 : Nat) ≤ 0 ∧ (homing .active).bus.queue.length + (homing .active).home.list.countP
      (fun e => decide (e.account = 1001 ∧ e.state ≠ .moving ∧ e.cutoffSent = false)) ≤ 24 ∧
      (homing .active).home.list.Pairwise (fun x y => x.handle ≠ y.handle)) ∧
    (1 = 1001 - live.home.first ∧ 0 < 3 ∧ 1 ∉ live.home.unbilledMarks ∧
      1 ∈ ({ live with home := { live.home with unbilledMarks := [1] } } : State).home.unbilledMarks) ∧
    (listed live).home.quarantine = [] ++ { account := 1001, held := 4 } :: [] ∧
    (∃ q ∈ (listed live).home.quarantine, q.account = 1001) ∧ (∀ q ∈ (listed live).home.quarantine, q.account ≠ 1002) ∧
    (listed live).home.quarantine.length < 8 ∧ (∀ q ∈ (fullyListed live).home.quarantine, q.account ≠ 1002) ∧
    8 ≤ (fullyListed live).home.quarantine.length ∧ (0 : Int) < (1 : Int) + (0 : Nat) := by decide

/-- R119: the clearing of account 1,001's mark, record index 1, leaves the other marks. -/
theorem test_clear_mark :
    (clearMark 1001 { live with home := { live.home with unbilledMarks := [0, 1, 4] } }).home.unbilledMarks = [0, 4] := by decide

/-- R159, R160: a listing joins with held charges 0, leaves a listed account as it is, and meets a full list. -/
theorem test_listings :
    (listAccount .tagMismatch 1002 6 (listed live)).home.quarantine =
      [{ account := 1001, held := 4 }, { account := 1002, held := 0 }] ∧
    (listAccount .tagMismatch 1001 6 (listed live)).home.quarantine = [{ account := 1001, held := 4 }] ∧
    ((listAccount .tagMismatch 1002 6 (fullyListed live)).faults.failing.first.map FirstRecord.kind) =
      some .quarantineFull := by decide

/-- R120: in a full queue without DATA the CUTOFF is dropped and the entry's flag stays clear. -/
theorem test_cutoff_without_room :
    (cutoffCheck 1001 0 0 (crowded 24 (homing .active))).home.list = (homing .active).home.list := by decide

/-! ### Witnesses: the host adapter's commands to the records -/

/-- An ACCOUNT LOAD for account 1,001. -/
def someLoad : AccountLoad :=
  { account := 1001, valid := true, balance := -8388608, allowance := 65535, digest := 65, acctClass := 7, limit := 3,
    locked := false, termCredits := 16777215 }

theorem witness_AccountCommandChecks :
    waiting.takesNow (.command .deposit []) ∧ waiting.station.state ≠ .inService ∧
    live.takesNow (.command .unlock [15, 66, 64]) ∧ 999999 < fieldOf [15, 66, 64] 0 3 ∧
    live.takesNow (.command .accountRead (bytesOf 3 1001)) ∧ live.station.state = .inService ∧
    live.takesNow (.command .deposit (bytesOf 3 1001 ++ bytesOf 3 8388607)) ∧
    live.takesNow (.command .accountLoad someLoad.bytes) ∧ live.home.inRange 1001 = true ∧
    live.home.quarantined 1001 = false ∧ (∀ e ∈ live.home.list, e.account ≠ 1001) ∧
    live.takesNow (.command .unlock (bytesOf 3 999)) ∧ live.home.inRange 999 = false ∧
    (listed live).takesNow (.command .unlock (bytesOf 3 1001)) ∧ (listed live).home.quarantined 1001 = true ∧
    (homing .active).takesNow (.command .accountLoad { someLoad with limit := 0 }.bytes) ∧
    (∃ e ∈ (homing .active).home.list, e.account = 1001) ∧ 0 < (homing .active).home.nonMoving 1001 := by
  simp only [State.takesNow]; decide +kernel

/-- R123: the checks' answers; R138: the request that passes them is granted the store. -/
theorem test_account_commands :
    leaves (.deposit [0, 3, 233, 0, 0, 0]) live (fun t => t.bus.queue.map Entry.payload) = some [.reply .result [37, 6]] ∧
    leaves (.unlock [0, 3, 231]) live (fun t => t.bus.queue.map Entry.payload) = some [.reply .result [38, 2]] ∧
    leaves (.accountRead [0, 3, 233]) live (fun t => (t.store.access, t.store.hostWork)) =
      some (some .host, some (.accountRead 1001)) ∧
    leaves (.accountLoad { someLoad with limit := 0 }.bytes) (homing .active) (fun t => t.bus.queue.map Entry.payload) =
      some [.reply .result [35, 4]] := by decide +kernel

/-- The host-command path's access is in progress. -/
def serving (w : HostWork) (s : State) : State :=
  { s with store := { s.store with access := some .host, hostWork := some w } }

theorem witness_AccountCommandAccesses :
    (serving (.accountLoad someLoad) (listed live)).inReset = false ∧
    (serving (.accountLoad someLoad) (listed live)).store.access = some .host ∧
    (serving (.accountLoad someLoad) (listed live)).store.hostWork = some (.accountLoad someLoad) ∧
    someLoad.account = 1001 ∧ 1 = 1001 - live.home.first ∧ 4 = (listed live).home.heldOf 1001 ∧
    (serving (.accountRead 1001) (withRecord someRecord live)).store.hostWork = some (.accountRead 1001) ∧
    (serving (.deposit 1001 1) (withRecord someRecord live)).store.hostWork = some (.deposit 1001 1) ∧
    ((serving (.unlock 1001) (withRecord someRecord live)).store.readRecord 1 1001).outcome = .clean ∧
    ((withRecord { someRecord with tag := 1002 } live).store.readRecord 1 1001).outcome = .tagMismatch 6 := by decide +kernel

/-- R124, R125: 4 held charges are debited from a loaded balance of 2. R127: a deposit of 10 to 50 makes 60. -/
theorem test_host_command_access :
    leaves .hostCommandAccessEnd (serving (.accountLoad { someLoad with balance := 2 }) (listed live))
      (fun t => ((t.store.readRecord 1 1001).record.balance, t.home.quarantine, t.bus.queue.map Entry.payload)) =
      some (-2, [], [.reply .result [35, 0, 0, 0, 4, 0, 0, 0]]) ∧
    leaves .hostCommandAccessEnd (serving (.deposit 1001 10) (withRecord someRecord live))
      (fun t => ((t.store.readRecord 1 1001).record.balance, t.bus.queue.map Entry.payload)) =
      some (60, [.reply .result [37, 0, 0, 0, 60, 0, 0, 10]]) := by decide +kernel

/-! ### Witnesses: the record store and column sparing -/

/-- The home and the store of a station that lists a session work within their ranges. -/
theorem witness_withinStore : (homing .detached).withinStore := by
  refine ⟨by decide, by decide, ?_, by decide, by decide, by decide, ?_, ?_, ?_⟩ <;> intros <;> contradiction

/-- A scrub pointer that no run reaches: its access names a word that the store does not have. -/
def lost : State := { live with store := { live.store with access := some .scrub, scrubPointer := 2048 } }

theorem witness_OnlyMissingWordsFault : exec .scrubStep lost = .fault (.noSuchWord 2048) ∧ 2048 ∈ lost.accessWords ∧
    (homing .detached).withinStore :=
  ⟨rfl, by decide, witness_withinStore⟩

/-- A migration of segment 0 to position 21, 6 words done. -/
def halfway : State :=
  { live with store := { live.store with
      migration := some { segment := 0, pendingEntry := some 21, pointer := 6, timerRunning := true } } }

theorem witness_CodeAndRecordsReadBack :
    (∀ p, (some 38 : Option Nat) = some p → p ≤ 38) ∧ (∀ p, (none : Option Nat) = some p → p ≤ 38) ∧
    (columnTaken (some 21) 21 = none ∧ columnTaken (some 21) 39 = some 21 ∧ columnTaken none 39 = none ∧
      columnTaken (some 21) 0 ≠ none ∧ columnTaken none 38 ≠ none) ∧
    halfway.wordsCanonical ∧ (∀ w p, halfway.store.mapping w = some p → p ≤ 38) ∧
    (someRecord.acctClass < 8 ∧ someRecord.limit < 4 ∧ someRecord.digest < 16777216 ∧ someRecord.tag < 65536 ∧
      someRecord.valid = true ∧ someRecord.tag = 1001 % 65536) ∧
    ((withRecord someRecord halfway).store.decode 4).outcome = .clean := by
  refine ⟨fun _ h => by cases h; decide, fun _ h => (nomatch h), by decide, by unfold State.wordsCanonical; decide,
    fun w p h => ?_, by decide, by decide +kernel⟩
  have spare : ∀ g : Nat, perSegment halfway.store.spareMap none g = none := fun g => by
    by_cases hg : g < 8
    · exact (by decide : ∀ g : Fin 8, perSegment halfway.store.spareMap none g.val = none) ⟨g, hg⟩
    · simp [perSegment, Nat.le_of_not_lt hg]
  have h' : (if (0 : Nat) = segmentOf w ∧ w % 256 < 6 then some 21 else perSegment halfway.store.spareMap none (segmentOf w)) =
    some p := h
  rw [spare] at h'
  split at h' <;> cases h'
  decide

/-- R135, R152: a record that straddles the migration pointer reads back as written, its fields whole. -/
theorem test_record_across_the_pointer :
    (withRecord someRecord halfway).store.readRecord 1 1001 = { outcome := .clean, record := someRecord } ∧
    ((withRecord someRecord halfway).store.readRecord 1 1002).outcome = .tagMismatch 6 := by decide +kernel

/-- A CLAIM waits for the store. -/
def asking : State := { live with home := { live.home with work := some (.claim someClaim) } }

/-- A drain under way over one backlog entry, a CHARGE with the total given, the hold as given. -/
def backlogged (h : HoldState) (total : Nat) : State :=
  { homing .active with
    home := { (homing .active).home with
      draining := true, backlog := [{ handle := itsHandle, account := 1001, total := total, final := false }] },
    store := { live.store with hold := h } }

theorem witness_ArbiterGrantsInOrder :
    live.home.draining = false ∧ lost.store.access = some .scrub ∧ lost.store.hold ≠ .held ∧
    (asking.store.access = none ∧ asking.store.hold = .notHeld ∧ asking.home.work ≠ none) ∧
    (live.home.work = none ∧ live.store.hostWork = none ∧ live.store.migrationRequest = false ∧
      live.store.scrubRequest = false) ∧
    ({ live.store with migrationRequest := true, scrubRequest := true } : Store).migrationRequest = true ∧
    ({ live.store with hostWork := some (.probe 0) } : Store).hostWork ≠ none ∧ (heldStore live).store.hold = .held ∧
    (heldStore live).store.access = none ∧
    ({ live.store with hold := .pending } : Store).hold = .pending ∧
    ((backlogged .notHeld 91).home.draining = true ∧ (backlogged .notHeld 91).home.work = none ∧
      (backlogged .notHeld 91).store.hold ≠ .pending ∧ (backlogged .notHeld 91).store.hostWork = none ∧
      (backlogged .notHeld 91).home.backlog = [{ handle := itsHandle, account := 1001, total := 91, final := false }] ∧
      (backlogged .notHeld 91).home.find itsHandle = some (someEntry .active) ∧ (someEntry .active).applied < 91 ∧
      (backlogged .notHeld 91).home.quarantined 1001 = false) ∧
    ((backlogged .held 91).store.hold = .held ∧ (backlogged .notHeld 90).home.work = none ∧ 90 ≤ (someEntry .active).applied) ∧
    ((serving (.accountRead 1001) live).store.hostWork = some (.accountRead 1001) ∧
      (serving (.accountRead 1001) live).store.access ≠ none) := by decide

/-- R143, R55, R122: a hold that ends during an account command's access drains after it. -/
theorem test_drain_waits :
    leaves (.release []) { serving (.accountRead 1001) (heldStore (backlogged .held 90)) with
        home := { (backlogged .held 90).home with draining := false } }
      (fun t => (t.store.hold, t.home.draining, t.home.backlog.length,
                 leaves .hostCommandAccessEnd t (fun u => (u.home.draining, u.home.backlog.length)))) =
      some (.notHeld, true, 1, some (false, 0)) := by decide +kernel

/-- The example of section 8.5: HELD is entered as the access ends, the HOLD answered before the CLAIM's DENY. -/
theorem test_hold_entered :
    leaves .scrubStep
      { asking with store := { asking.store with access := some .scrub, scrubPointer := 700, hold := .pending, waitingHolds := 1 } }
      (fun t => (t.store.hold, t.store.holdTimer, t.store.access, t.store.scrubPointer, t.bus.queue.map Entry.payload)) =
      some (.held, some 10, none, 701,
        [.reply .result [43, 0], .deny { handle := itsHandle, account := 1001, reason := .homeBusy }]) := by decide +kernel

theorem witness_HoldAndRelease :
    live.takesNow (.command .hold []) ∧ live.station.state = .inService ∧ live.supply.state = .normal ∧
    live.store.hold = .notHeld ∧ live.store.access = none ∧ lost.takesNow (.command .hold []) ∧ lost.store.access ≠ none ∧
    (heldStore live).takesNow (.command .hold []) ∧ (heldStore live).store.hold = .held ∧
    waiting.takesNow (.command .hold []) ∧ waiting.station.state ≠ .inService ∧
    live.takesNow (.command .hold [0]) ∧ live.takesNow (.command .release [0]) ∧
    ({ live with supply := { live.supply with state := .low } } : State).takesNow (.command .hold []) ∧
    (heldStore live).takesNow (.command .release []) ∧ live.takesNow (.command .release []) ∧ live.store.hold ≠ .held ∧
    ((heldStore live).inReset = false ∧
      ({ (heldStore live).store with holdTimer := some 0 } : Store).holdTimer = some 0) ∧
    live.store.holdTimer ≠ some 0 := by
  simp only [State.takesNow]; decide

/-- R141 to R143: a HOLD held, a RELEASE that finds none, and the timer's expiry with its fault. -/
theorem test_hold_and_release :
    leaves (.hold []) live (fun t => (t.store.hold, t.bus.queue.map Entry.payload)) =
      some (.held, [.reply .result [43, 0]]) ∧
    leaves (.release []) live (fun t => t.bus.queue.map Entry.payload) = some [.reply .result [44, 1]] ∧
    leaves .holdTimerExpiry { heldStore live with store := { (heldStore live).store with holdTimer := some 0 } }
      (fun t => (t.store.hold, t.faults.degraded.first.map FirstRecord.kind)) = some (.notHeld, some .holdExpired) := by decide

/-- The scrub's access of word 4, word 0 of account 1,001, with the positions given inverted. -/
def scrubbing (flips : List Nat) : State :=
  { live with store := { live.store with
      access := some .scrub, scrubPointer := 4,
      words := live.store.words.write 4 (flips.foldl (fun w p => w ^^^ positionBit p) (codeOf 33)) } }

/-- R145, R136: a corrected word is written back and counted; an uncorrectable one lists its account. -/
theorem test_scrub_step :
    leaves .scrubStep (scrubbing [10]) (fun t => (t.store.words.read 4, t.store.corrected[0], t.store.scrubPointer)) =
      some (codeOf 33, 1, 5) ∧
    leaves .scrubStep (scrubbing [3, 10]) (fun t => (t.home.quarantine, t.faults.degraded.first.map FirstRecord.kind)) =
      some ([{ account := 1001, held := 0 }], some .storeUncorrectable) := by decide +kernel

theorem witness_ScrubProbeAndFlip :
    (({ live.store with scrubTimerRunning := true } : Store).scrubTimerRunning = true ∧ (scrubbing []).inReset = false ∧
    (scrubbing []).store.access = some .scrub ∧ 4 = (scrubbing []).store.scrubPointer ∧
    ((scrubbing []).store.decode 4).outcome = .clean ∧ ((scrubbing [10]).store.decode 4).outcome = .corrected ∧
    ((scrubbing [3, 10]).store.decode 4).outcome = .uncorrectable ∧ 4 / 4 < (scrubbing [3, 10]).home.count ∧
    (2047 / 256 = (7 : Fin 8).val ∧ 8 = min 15 (7 + 1) ∧ 15 = min 15 (15 + 1)) ∧ live.store.advised[7] = false) ∧
    live.takesNow (.command .storeProbe (bytesOf 2 2047)) ∧ live.store.hold ≠ .held ∧
    (heldStore live).takesNow (.command .storeProbe (bytesOf 2 2047)) ∧ (heldStore live).station.state = .inService ∧
    (heldStore live).takesNow (.command .storeProbe [8, 0]) ∧ 2047 < fieldOf [8, 0] 0 2 ∧
    (heldStore live).takesNow (.command .storeFlip (bytesOf 2 4 ++ bytesOf 5 (positionBit 39).toNat)) ∧
    ((serving (.probe 4) (heldStore live)).inReset = false ∧
      (serving (.probe 4) (heldStore live)).store.access = some .host ∧
      (serving (.probe 4) (heldStore live)).store.hostWork = some (.probe 4)) ∧
    (serving (.flip 4 8#40) (heldStore live)).store.hostWork = some (.flip 4 8#40) ∧
    ((heldStore live).takesNow (.command .storeFlip [0, 0]) ∧ ([0, 0] : List Byte).length ≠ 7) := by
  refine ⟨by decide +kernel, ?_⟩
  simp only [State.takesNow]; decide

/-- The example of section 8.7: position 10 flipped reads syndrome 10, odd, CORRECTED. -/
theorem test_probe_and_flip :
    leaves .hostCommandAccessEnd
      { serving (.probe 4) (heldStore live) with store := { (serving (.probe 4) (heldStore live)).store with
          words := live.store.words.write 4 (positionBit 10) } }
      (fun t => t.bus.queue.map Entry.payload) =
      some [.reply .probeData [0, 4, 0, 0, 0, 4, 0, 255, 74, 1]] ∧
    leaves .hostCommandAccessEnd (serving (.flip 4 8#40) (heldStore live))
      (fun t => (t.store.words, t.bus.queue.map Entry.payload)) =
      some ([(4, 8#40)], [.reply .result [42, 0, 0, 4]]) := by decide +kernel

/-- A migration of segment 3 to position 21, at the pointer given, its access in progress. -/
def migrating (pointer : Nat) : State :=
  { live with store := { live.store with
      access := some .migration, corrected := Vector.replicate 8 9,
      migration := some { segment := 3, pendingEntry := some 21, pointer := pointer, timerRunning := false } } }

theorem witness_SpareSetAndMigration :
    waiting.takesNow (.command .spareSet [3, 21]) ∧ live.takesNow (.command .spareSet [8, 21]) ∧ 7 < fieldOf [8, 21] 0 1 ∧
    (38 < fieldOf [3, 39] 1 1 ∧ fieldOf [3, 39] 1 1 ≠ 255) ∧ live.takesNow (.command .spareSet [7, 255]) ∧
    [7, 255] = bytesOf 1 (7 : Fin 8).val ++ bytesOf 1 ((none : Option Nat).getD 255) ∧ live.store.migration = none ∧
    (migrating 0).takesNow (.command .spareSet [3, 38]) ∧ (migrating 0).store.migration ≠ none ∧
    ((migrating 0).inReset = false ∧ (migrating 0).store.access = some .migration ∧ 768 = 256 * (3 : Fin 8).val + 0 ∧
      (readStored (migrating 0).store.spareMap[3] ((migrating 0).store.words.read 768)).outcome = .clean) ∧
    (migrating 255).store.migration = some { segment := 3, pendingEntry := some 21, pointer := 255, timerRunning := false } := by
  simp only [State.takesNow]; decide +kernel

/-- R155, R156: the 256th step completes the migration, sets the entry and clears the counter. -/
theorem test_migration :
    leaves (.spareSet [3, 21]) live (fun t => t.store.migration.map Migration.pointer) = some (some 0) ∧
    leaves .migrationStep (migrating 255)
      (fun t => (t.store.migration, t.store.spareMap[3], t.store.corrected[3], t.bus.queue.map Entry.payload)) =
      some (none, some 21, 0, [.reply .result [40, 0, 3, 21]]) := by decide +kernel

/-! ### Witnesses: the rack bus -/

/-- A DETACH frame from station 9 to station 5 for account 1,001, laid out with its frame check. -/
def detachTrain : List Byte := frameBytes 5 9 7 someDetach.bytes

/-- The receiver waits for idle after a broken train. -/
def deaf : State := { live with bus := { live.bus with awaitsIdle := true } }

theorem witness_TrainsAndContentsChecked :
    live.inReset = false ∧ live.bus.awaitsIdle = false ∧ deaf.bus.awaitsIdle = true ∧ live.station.state ≠ .strapFault ∧ ([5, 9, 7] : List Byte).length < 4 ∧
    (4 ≤ ([5, 9, 7, 41] : List Byte).length ∧ 40 < fieldOf [5, 9, 7, 41] 3 1) ∧
    (fieldOf detachTrain 3 1 ≤ 40 ∧ detachTrain.length = 6 + 6 ∧
      fieldOf detachTrain 10 2 = (frameCheck (detachTrain.take 10)).toNat) ∧
    (6 + 6 < (detachTrain ++ [0]).length ∧ fieldOf (detachTrain ++ [0]) 3 1 = 6) ∧
    readContents 9 10 [] = .bad ∧ readContents 9 64 [] = .notTaken ∧
    readContents 9 7 someDetach.bytes = .frame (.detach someDetach) ∧ (15 < 16 ∧ 16 ≠ 255) := by decide +kernel

/-- R164, R165: a frame that passes makes its source the last sender and is handed over; one with a wrong check is not. -/
theorem test_frame_received :
    leaves (.frameReceived detachTrain false) live (fun t => (t.bus.lastSender, t.bus.handed)) =
      some (9, [.detach someDetach]) ∧
    leaves (.frameReceived (detachTrain.set 4 6) false) live
      (fun t => (t.bus.lastSender, t.bus.handed, t.faults.corrected.first.map FirstRecord.kind)) =
      some (0, [], some .busCheck) := by decide +kernel

/-- R175, R166: after a reset no train is read before the bus has been idle. -/
theorem test_first_train_after_reset :
    leaves (.frameReceived detachTrain false) { live with bus := Bus.cleared } (fun t => (t.bus.handed, t.bus.lastSender)) =
      some ([], 0) := by decide +kernel

/-- R163: a broken train leaves the receiver waiting for idle; the train that follows is not taken, and one after an idle is. -/
theorem test_broken_train :
    leaves (.frameReceived [5, 9] true) live (fun t => (t.bus.awaitsIdle, t.faults.corrected.first.map FirstRecord.kind)) =
      some (true, some .busCheck) ∧
    leaves (.frameReceived detachTrain false) deaf (fun t => (t.bus.handed, t.bus.lastSender)) = some ([], 0) ∧
    leaves .busIdle deaf (fun t => (t.bus.awaitsIdle, leaves (.frameReceived detachTrain false) t (fun u => u.bus.handed))) =
      some (false, some [.detach someDetach]) := by decide +kernel

/-- The frame check of the digits 1 to 9: the published check value for the polynomial 4,129 with the register starting at
65,535 and no final inversion, which are those of section 10.5. -/
theorem test_frame_check : frameCheck [0x31, 0x32, 0x33, 0x34, 0x35, 0x36, 0x37, 0x38, 0x39] = 0x29B1#16 := by decide +kernel

theorem witness_FramesHandedToTheirBlocks :
    starting.station.state = .starting ∧ 5 = starting.own ∧ waiting.station.state = .awaitingConfig ∧
    live.station.state = .inService ∧ (6 ≠ live.own ∧ 6 ≠ 255) ∧ 5 = live.own ∧ live.own ≠ 255 ∧
    ({ live.station with state := .strapFault } : Station).state = .strapFault := by decide

/-- R165: a HOLD from station 9, or to all stations, is rejected; one from the host adapter is handed over. -/
theorem test_authority :
    ((handOver 5 9 (.command .hold []) live).faults.degraded.first.map FirstRecord.kind,
     (handOver 255 0 (.command .hold []) live).bus.handed, (handOver 5 0 (.command .hold []) live).bus.handed,
     (handOver 255 0 (.command .time []) live).bus.handed) =
      (some .commandRejected, [], [.command .hold []], [.command .time []]) := by decide

/-- The bus idle at the deferral slot 4, with a queue. -/
def ready (q : List Entry) : State :=
  { onLine with bus := { onLine.bus with idle := true, deferral := some 4, queue := q } }

theorem witness_TurnsAndTransmissionStarts :
    live.inReset = false ∧ live.bus.lastSender ≤ 15 ∧ live.station.state ≠ .strapFault ∧
    ((ready [tallyEntry, chargeEntry]).bus.idle = true ∧
      (ready [tallyEntry, chargeEntry]).bus.deferral = some (20 % 16) ∧
      (ready [tallyEntry, chargeEntry]).bus.handed = [] ∧ (ready [tallyEntry, chargeEntry]).store.hostWork = none ∧
      (ready [tallyEntry, chargeEntry]).home.work = none ∧
      (∀ x ∈ (ready [tallyEntry, chargeEntry]).bus.queue, x.inFlight = false) ∧
      (ready [tallyEntry, chargeEntry]).bus.queue = [tallyEntry] ++ chargeEntry :: [] ∧
      (∀ x ∈ [tallyEntry], chargeEntry.payload.class < x.payload.class)) ∧
    (ready [tallyEntry]).bus.queue = [] ++ tallyEntry :: [] ∧
    (ready [waitingEntry (.data 2 itsHandle none)]).bus.queue = [] ++ waitingEntry (.data 2 itsHandle none) :: [] ∧
    live.bus.idle = false ∧ (ready []).bus.queue = [] := by decide

/-- R166: the deferral of station 5 after station 9; R169: the CHARGE goes before the TALLY that joined first. -/
theorem test_turns :
    leaves .busIdle { live with bus := { live.bus with lastSender := 9 } } (fun t => t.bus.deferral) = some (some 11) ∧
    leaves (.transmissionStart 20) (ready [tallyEntry, chargeEntry]) (fun t => t.bus.queue.map Entry.inFlight) =
      some [false, true] ∧
    leaves .trainStart (ready []) (fun t => (t.bus.idle, t.bus.deferral)) = some (false, none) := by decide

/-- A CLAIM of slot 4 in flight, with mismatches already met. -/
def flyingClaim (n : Nat) : State := claimOut.setQueue [tallyEntry, { flyingEntry (.claim someClaim) with mismatches := n }]

/-- A DATA entry in flight, filled with 2 characters. -/
def flyingData (cleared : Bool) : State :=
  (ringOf 3).setQueue [flyingEntry (.data 2 itsHandle (some { chars := [65, 65], breakFlag := false, ringCleared := cleared }))]

theorem witness_SentFramesLeaveTheQueue :
    (flyingClaim 0).inReset = false ∧
    (flyingClaim 0).bus.queue = [tallyEntry] ++ flyingEntry (.claim someClaim) :: [] ∧
    (∀ x ∈ [tallyEntry], x.inFlight = false) ∧ (flyingEntry (.claim someClaim)).inFlight = true ∧
    (flyingClaim 0).matched someClaim.handle = some (4, someSession .claiming) ∧
    (flyingData false).bus.queue = [] ++ flyingEntry (.data 2 itsHandle
      (some { chars := [65, 65], breakFlag := false, ringCleared := false })) :: [] ∧
    flyingFinal.bus.queue = [] ++ flyingEntry (.charge (someCharge 100 (some .credit)) (some 4)) :: [] ∧
    (∀ x ∈ live.bus.queue, x.inFlight = false) ∧ (∀ l : Fin 8, live.lines[l].dialogue = none) ∧
    (lineIn 2 .signOn (some { passwordContext with step := .slotWait, awaitedSlot := some 4 })).lines[2].dialogue =
      some { passwordContext with step := .slotWait, awaitedSlot := some 4 } := by decide

/-- R45, R25, R87: the claim timer starts, the characters leave the ring, the slot is freed. -/
theorem test_frame_sent :
    leaves .frameSent (flyingClaim 0) (fun t => (t.table.slots[4].claimTimer, t.bus.lastSender, t.bus.handed.length)) =
      some (some 2, 5, 1) ∧
    leaves .frameSent (flyingData false) (fun t => t.lines[2].rxRing.length) = some 1 ∧
    leaves .frameSent flyingFinal (fun t => (t.table.slots[4].session, t.table.slots[4].generation)) =
      some (none, 17) := by decide +kernel

theorem witness_MismatchesStopOrDropTheEntry :
    (flyingClaim 6).inReset = false ∧ 6 + 1 < 8 ∧ 8 ≤ 7 + 1 ∧
    (flyingClaim 7).bus.queue = [tallyEntry] ++ { flyingEntry (.claim someClaim) with mismatches := 7 } :: [] ∧
    (flyingClaim 7).matched someClaim.handle = some (4, someSession .claiming) ∧
    (someSession .claiming).abandoned = false ∧ (someSession .claiming).line = some 2 ∧
    ((flyingData true).inReset = false ∧ (flyingData true).bus.queue = [] ++ flyingEntry (.data 2 itsHandle
      (some { chars := [65, 65], breakFlag := false, ringCleared := true })) :: []) ∧
    flyingFinal.bus.queue = [] ++ flyingEntry (.charge (someCharge 100 (some .credit)) (some 4)) :: [] ∧
    (live.setQueue [flyingEntry (.grant (someGrant (some itsHandle)))]).bus.queue =
      [] ++ flyingEntry (.grant (someGrant (some itsHandle))) :: [] ∧
    (someGrant (some itsHandle)).oldHandle = some itsHandle ∧ live.home.list = [] ∧
    (∀ x ∈ live.bus.queue, x.inFlight = false) := by decide

/-- R168: the seventh mismatch leaves the entry WAITING, the eighth drops it with BUS_JAM and the claim is silent. -/
theorem test_read_back_mismatch :
    leaves .readBackMismatch (flyingClaim 6)
      (fun t => (t.bus.queue.map Entry.inFlight, t.bus.queue.map Entry.mismatches)) = some ([false, false], [0, 7]) ∧
    leaves .readBackMismatch (flyingClaim 7)
      (fun t => (t.table.slots[4].session, t.faults.failing.first.map (fun r => r.subject.address))) =
      some (none, some (some 3)) ∧
    leaves .readBackMismatch (flyingData true) (fun t => t.bus.queue) = some [] := by decide +kernel

/-- A waiting final CHARGE in slot 4 and 23 entries in the queue. -/
def oneFree : State :=
  crowded 23 (withSession { someSession .ending with endCause := some .credit, finalStatus := some .waiting } .idle live)

/-- A TALLY is owed, with `n` replies in the queue. -/
def owing (n : Nat) : State := crowded n { live with table := { live.table with tallyOwed := true } }

theorem witness_OffersAndFreedPlaces :
    live.bus.queue.length < 24 ∧ 24 ≤ (crowded 24 live).bus.queue.length ∧
    (∀ e ∈ (crowded 24 live).bus.queue, Entry.isData e = true → e.inFlight = true) ∧
    (Entry.isData (waitingEntry (.data 2 itsHandle none)) = true ∧
      (waitingEntry (.data 2 itsHandle none)).inFlight = false ∧
      (live.setQueue ([waitingEntry (.data 2 itsHandle none)] ++ (crowded 23 live).bus.queue)).bus.queue =
        [] ++ waitingEntry (.data 2 itsHandle none) :: (crowded 23 live).bus.queue ∧
      (∀ x ∈ (crowded 23 live).bus.queue, Entry.isData x = true → x.inFlight = true)) ∧
    oneFree.bus.queue.length = 23 ∧
    (oneFree.table.slots[4].session =
      some { someSession .ending with endCause := some .credit, finalStatus := some .waiting }) ∧
    (∀ j : Fin 12, j < 4 → oneFree.table.slots[j].session = none) ∧
    (∀ e ∈ oneFree.bus.queue, e.payload = .reply .result []) ∧
    ((crowded 23 live).inService = true ∧ (∀ e ∈ (crowded 23 live).bus.queue, Entry.isTally e = false)) ∧
    ((crowded 23 (ringOf 16)).lines[2].trigger = true ∧ (crowded 23 (ringOf 16)).lines[2].servedSlot = some 4 ∧
      (∀ e ∈ (crowded 23 (ringOf 16)).bus.queue, Entry.dataOn 2 e = false) ∧
      (crowded 23 (ringOf 16)).table.tallyOwed = false ∧
      (∀ j : Fin 8, j < 2 → (crowded 23 (ringOf 16)).lines[j].trigger = false)) ∧
    ((owing 24).table.tallyOwed = true ∧ (owing 24).inService = true ∧ 24 ≤ (owing 24).bus.queue.length ∧
      (∀ e ∈ (owing 24).bus.queue, Entry.isTally e = false) ∧ (∀ j : Fin 12, (owing 24).table.slots[j].session = none)) := by
  decide +kernel

/-- R88: an owed TALLY is queued into the freed place, and its mark cleared; without room it is dropped with TX_QUEUE_FULL. -/
theorem test_owed_tally :
    ((offerFreed (owing 23)).bus.queue.length, (offerFreed (owing 23)).table.tallyOwed) = (24, false) ∧
    ((offerFreed (owing 24)).bus.queue.length, (offerFreed (owing 24)).table.tallyOwed,
      (offerFreed (owing 24)).faults.degraded.first.map (fun r => (r.kind, r.subject.address))) =
      (24, false, some (.txQueueFull, some 255)) := by decide +kernel

/-- R170: a CUTOFF displaces the youngest WAITING DATA entry. -/
theorem test_displacement :
    (offerClassOne 4 (.cutoff someCutoff)
      (live.setQueue ((crowded 22 live).bus.queue ++
        [waitingEntry (.data 0 itsHandle none), waitingEntry (.data 5 itsHandle none)]))).bus.queue.map Entry.payload =
      List.replicate 22 (.reply .result []) ++ [.data 0 itsHandle none, .cutoff someCutoff] := by decide +kernel

theorem witness_FramesReadBackAsSent :
    someClaim.wf = true ∧ (someGrant none).wf = true ∧ (someGrant (some itsHandle)).wf = true ∧
    (someDeny .limit).wf = true ∧ (someCharge 16777215 none).wf = true ∧ (someCharge 0 (some .duplicate)).wf = true ∧
    CutoffBody.wf { someCutoff with balance := -8388608 } = true ∧ someRefuse.wf = true ∧ someDetach.wf = true ∧
    TallyBody.wf { count := 255, restart := true } = true ∧
    DataBody.wf { hostData true with chars := List.replicate 32 127 } = true ∧ DataBody.wf { hostData true with chars := [] } = true ∧
    255 < 256 ∧ (List.replicate 40 (0 : Byte)).length ≤ 40 := by decide

/-- A CHARGE of account 1,001 waits at the home behind a CLAIM. -/
def queuedAtHome : State := { live with bus := { live.bus with handed := [.claim someClaim] } }

/-- A CLAIM for an account outside the home range. -/
def farClaim : ClaimBody := { someClaim with account := 999 }

/-- R55: a CLAIM outside the range does not wait at a busy home, and nothing waits for it. -/
theorem test_far_claim :
    leaves (.claim farClaim) queuedAtHome (fun t => t.bus.handed) = some [.claim someClaim] := by decide +kernel

theorem witness_FramesWaitTheirTurn :
    carried (.charge (someCharge 1 none)) = some (.charge (someCharge 1 none)) ∧
    held.serves (.charge (someCharge 1 none)) = false ∧
    queuedAtHome.serves (.charge (someCharge 1 none)) = true ∧ queuedAtHome.mustWait (.charge (someCharge 1 none)) = true ∧
    Handed.charge (someCharge 1 none) ∉ queuedAtHome.bus.handed ∧
    (queuedAtHome.serves (.claim farClaim) = true ∧ queuedAtHome.home.inRange farClaim.account = false) ∧
    leaves .tick live (fun t => t.pending) = some live.pending := by decide +kernel

/-! ### Witnesses: station commands, faults, supply and start-up -/

/-- A CONFIGURE of 40 bytes: home range 1,000 with 512 accounts, 0 answer rings, detach grace 200, cap 0, lengths 0 and
86,401, scrub interval 255, USER prompt "U:", PASSWORD prompt "P:". -/
def someConfigure : List Byte :=
  bytesOf 3 1000 ++ bytesOf 2 512 ++ [0, 200, 0] ++ bytesOf 3 0 ++ bytesOf 3 86401 ++ [255, 0x22] ++
    [85, 58, 0, 0, 0, 0, 0, 0, 0, 0, 0, 0] ++ [80, 58, 0, 0, 0, 0, 0, 0, 0, 0, 0, 0]

theorem witness_ConfigureFindings :
    live.takesNow (.command .configure someConfigure) ∧ live.station.state ≠ .awaitingConfig ∧
    waiting.takesNow (.command .configure someConfigure) ∧ waiting.station.state = .awaitingConfig ∧
    someConfigure.length = 40 ∧ waiting.bus.queue = [] ∧ waiting.takesNow (.command .configure []) ∧
    (crowded 1 waiting).takesNow (.command .configure someConfigure) ∧ (crowded 1 waiting).bus.queue ≠ [] := by
  simp only [State.takesNow]; decide

/-- R172: the clamped settings, then the restart TALLY with RESULT DONE behind it. -/
theorem test_configure :
    leaves (.configure someConfigure) waiting
      (fun t => (t.station.state, t.station.settings, t.meter.remaining, t.meter.offPeakLength, t.home.count)) =
      some (.inService, some { someSettings with answerRings := 1, detachGrace := 150, sessionCap := 1 }, 1, some 86400, 512) ∧
    leaves (.configure someConfigure) waiting (fun t => t.bus.queue.map Entry.payload) =
      some [.tally { count := 0, restart := true }, .reply .result [32, 0]] := by decide

theorem witness_StatusDataLayout :
    starting.takesNow (.command .statusRead (bytesOf 1 0)) ∧ live.takesNow (.command .statusRead (bytesOf 1 1)) ∧
    live.takesNow (.command .statusRead [2]) ∧ 1 < fieldOf [2] 0 1 ∧
    (live.station.state ≠ .strapFault ∧ live.own ≤ 15 ∧ live.census < 256 ∧ live.home.unbilled < 16777216 ∧ live.meter.overflow < 65536 ∧
      live.station.outputDiscards < 65536) ∧
    (7 = 4 * 1 + 3 ∧ live.lines[7].speedClass < 4 ∧ live.lines[7].framingErrors < 256 ∧
      live.lines[7].receiveOverruns < 256 ∧ live.lines[7].outputDiscards < 256) := by
  simp only [State.takesNow]; decide

/-- Formats: station 5 in service with eight lines, census and tally 1, line 2 ONLINE at class 3. -/
theorem test_status_read :
    leaves (.statusRead [0]) onLine (fun t => t.bus.queue.map Entry.payload) =
      some [.reply .statusData [0, 128, 21, 1, 1, 0, 0, 0, 0, 0, 0, 0, 0, 0, 16, 0, 0, 0, 16, 0, 0, 0, 115, 0, 0, 0, 16, 0, 0, 0]] := by
  decide

theorem witness_FaultEventsLogged :
    (({ live with faults := { live.faults with masks := 0xFFFF } } : State).faults.masks.getLsbD FaultKind.busJam.code = true) ∧
    live.faults.masks.getLsbD FaultKind.busJam.code = false ∧ live.faults.selected.getLsbD FaultKind.busJam.code = false ∧
    ({ live.faults with selected := FaultKind.busJam.bit, count := 127 } : FaultLog).selected.getLsbD
      FaultKind.busJam.code = true ∧ 127 ≤ 127 ∧ 126 < 127 ∧
    (live.faults.severityLog FaultKind.busJam.severity).first = none ∧
    (live.faults.severityLog FaultKind.busJam.severity).action ≠ .none ∧
    (live.faults.severityLog FaultKind.busCheck.severity).action = .none ∧ live.station.state ≠ .strapFault ∧
    live.bus.queue.length < 24 ∧ 24 ≤ (crowded 24 live).bus.queue.length ∧
    live.permission = true ∧ waiting.permission = false ∧ live.faults.failing.action = .noticeAndBusyOut ∧ (ringingAt 1 .present).lines[2].state = .ringing := by decide

theorem witness_masked_event : live.ringingPermitted := by
  intro l h; revert h; revert l; decide

/-- The worked example of section 11.5: BUS_JAM fills FAILING, is counted, sends a notice and takes line 2 out of RINGING. -/
theorem test_busy_out :
    let t := logFault .busJam { Subject.blank with address := some 3 }
      { ringingAt 1 .absent with faults := { live.faults with selected := FaultKind.busJam.bit, stationTime := 4210 } }
    (t.faults.failing.first.map (fun r => (r.kind, r.time, r.subject.address)), t.faults.count, t.permission,
      t.lines[2].state, t.lines[2].ringCount, t.bus.queue.length) =
      (some (.busJam, 4210, some 3), 1, false, .idle, 0, 1) := by decide +kernel

/-- R179: a notice dropped by a full queue is logged as TX_QUEUE_FULL, and the second notice's drop joins the LATER set. -/
theorem test_notice_dropped :
    let t := logFault .busJam Subject.blank (crowded 24 live)
    (t.faults.failing.first.map FirstRecord.kind, t.faults.degraded.first.map FirstRecord.kind, t.faults.degraded.later,
      t.bus.queue.length) = (some .busJam, some .txQueueFull, FaultKind.txQueueFull.bit, 24) := by decide +kernel

theorem witness_FaultCommandFindings :
    live.takesNow (.command .faultRead [3]) ∧ 2 < fieldOf [3] 0 1 ∧ waiting.takesNow (.command .faultRead [2]) ∧
    [2] = bytesOf 1 Severity.failing.code ∧ (waiting.faults.severityLog .failing).first = none ∧
    live.takesNow (.command .faultClear [0, 0, 2, 0]) ∧ 1 < fieldOf [0, 0, 2, 0] 2 1 ∧
    live.takesNow (.command .faultClear (flagByte true ++ flagByte false ++ flagByte true ++ flagByte true)) ∧
    live.takesNow (.command .faultSetup [0, 0, 0, 0, 0, 3, 0]) ∧ 2 < fieldOf [0, 0, 0, 0, 0, 3, 0] 5 1 ∧
    live.takesNow (.command .faultSetup [0x80, 0, 0, 2, 0, 1, 2]) := by
  simp only [State.takesNow]; decide

/-- R184: the mask, the selection and the three actions. R183: a clear that flags the counter. -/
theorem test_fault_commands :
    leaves (.faultSetup [0x80, 0, 0, 2, 0, 1, 2]) live
      (fun t => (t.faults.masks, t.faults.selected, t.faults.failing.action, t.bus.queue.map Entry.payload)) =
      some (0x8000, 2, .noticeAndBusyOut, [.reply .result [47, 0]]) ∧
    leaves (.faultClear [0, 0, 0, 1]) { live with faults := { live.faults with count := 127, overflow := true } }
      (fun t => (t.faults.count, t.faults.overflow)) = some (0, false) ∧
    leaves (.faultRead [1]) live (fun t => t.bus.queue.map (fun e => e.payload.body.length)) = some [31] := by decide

theorem witness_SupplyEvents :
    live.inReset = false ∧ live.supply.state = .normal ∧ live.store.hold = .notHeld ∧ (heldStore live).store.hold = .held ∧
    held.inReset = true ∧ starting.inReset = false ∧ starting.supply.state = .low ∧
    starting.supply.recoveryRunning = false ∧
    ({ starting.supply with recoveryRunning := true } : Supply).recoveryRunning = true ∧
    (∀ e ∈ (crowded 24 onLine).bus.queue, e.payload.class = 3) ∧ onLine.bus.queue = [] := by decide

/-- R186, R109: the supply falls; POWER_LOW's notice and the checkpoint CHARGE are queued and the hold ends. -/
theorem test_supply_below_warn :
    leaves .supplyBelowWarn (heldStore onLine)
      (fun t => (t.supply.state, t.store.hold, t.table.slots[4].session.map Session.postCounter,
                 t.bus.queue.map (fun e => e.payload.class), t.permission)) =
      some (.low, .notHeld, some 0, [3, 2], false) := by decide

theorem test_supply_recovers :
    leaves .supplyAboveWarn starting (fun t => t.supply.recoveryRunning) = some true ∧
    leaves .recoveryTimerExpiry { live with supply := { state := .low, recoveryRunning := true, aboveWarn := true } }
      (fun t => (t.supply.state, t.permission)) = some (.normal, true) := by decide

/-- R185, R92, R130: a PIN reset keeps the fault log, the generations and the unbilled counter; a POWER_ON reset does not. -/
theorem test_resets_begin :
    leaves .resetPinAsserted { onLine with home := { onLine.home with unbilled := 3 } }
      (fun t => (t.table.slots[4], t.home.unbilled, t.station.state, t.inReset)) =
      some ({ Slot.cleared with generation := 17 }, 3, .starting, true) ∧
    leaves .powerApplied { onLine with home := { onLine.home with unbilled := 3 } }
      (fun t => (t.table.slots[4].generation, t.home.unbilled, t.store.clearComplete)) = some (0, 0, false) := by
  decide +kernel

/-- The straps of station 12 with four lines. -/
def fourLines : Straps := { address := 12, eightLines := false }

theorem witness_ResetsBegin :
    (migrating 255).store.access = some .migration ∧ (migrating 255).wordsCanonical ∧
    (∀ n ∈ (migrating 255).accessWords, n < 2048) ∧
    (migrating 254).store.migration = some { segment := 3, pendingEntry := some 21, pointer := 254, timerRunning := false } ∧
    live.store.access = none := by
  refine ⟨by decide, by unfold State.wordsCanonical; decide, by decide, by decide, by decide⟩

theorem witness_ResetsEnd :
    fourLines.address < 16 ∧ (held.station.force.pin = true ∧ held.station.force.powerOn = false ∧
      held.station.force.brownout = false) ∧ live.station.force.pin = false ∧
    ({ ResetForce.clear with powerOn := true, pin := true } : ResetForce).powerOn = true ∧
    live.takesNow (.command .stationReset [1, 2]) ∧ held.inReset = true ∧
    (starting.inReset = false ∧ starting.station.state = .starting ∧ starting.store.clearComplete = false) := by
  simp only [State.takesNow]; decide

/-- R187 to R189, R21: a PIN reset of a station whose store is clear ends in AWAITING_CONFIG; the straps say line 4 is
DISABLED. Address 0 is a STRAP_FAULT. -/
theorem test_resets_end :
    leaves (.resetPinReleased fourLines) held
      (fun t => (t.station.state, t.own, t.station.resetCause, t.lines[3].state, t.lines[4].state)) =
      some (.awaitingConfig, 12, .pin, .idle, .disabled) ∧
    leaves (.stationReset [] { address := 0, eightLines := true }) live
      (fun t => (t.station.state, t.station.resetCause)) = some (.strapFault, .command) ∧
    leaves .storeClearComplete starting (fun t => t.station.state) = some .awaitingConfig := by decide +kernel

/-- R189: from the state after reset the store clear opens the station; before it a CONFIGURE changes nothing. -/
theorem test_first_steps :
    leaves .storeClearComplete State.reset (fun t => t.station.state) = some .awaitingConfig ∧
    leaves (.configure someConfigure) State.reset (fun t => t.station.state) = some .starting := by decide +kernel

/-! ### Witnesses: what every step keeps -/

theorem witness_StepsKeepStoreQueueAndRinging :
    (withRecord someRecord live).wordsCanonical ∧ live.queueFits ∧ live.ringingPermitted ∧
    ∃ t, step { live with pending := [.ringBurst 3] } = .next t := by
  refine ⟨?_, by unfold State.queueFits; decide, witness_masked_event, ⟨_, rfl⟩⟩
  unfold State.wordsCanonical; decide +kernel

theorem witness_StepsKeepLinesShaped : onLine.linesShaped ∧
    ∃ t, step { onLine with pending := [.carrierLoss 2] } = .next t := by
  refine ⟨?_, ⟨_, rfl⟩⟩
  intro l; unfold Line.shaped; revert l; decide

theorem witness_StepsKeepBounds : onLine.oneInFlight ∧ onLine.queueUnrepeated ∧ onLine.ringsFit ∧ onLine.digestsAgree ∧
    onLine.homeFits ∧ onLine.ownCensusAbsent ∧ onLine.faultCountFits ∧ (homing .detached).homeListConsistent ∧
    onLine.meterFits ∧ (homing .detached).withinStore ∧
    (∃ t, step { homing .detached with pending := [.silenceTimerExpiry itsHandle] } = .next t) ∧
    ∃ t, step { onLine with pending := [.carrierLoss 2] } = .next t := by
  refine ⟨by unfold State.oneInFlight; decide, ⟨fun _ => Nat.zero_le _, by decide, by decide⟩,
    by unfold State.ringsFit; decide, fun l d h => ?_, ⟨by decide, by decide⟩, ⟨by decide, by decide, by decide⟩,
    by unfold State.faultCountFits; decide, ⟨by decide, by decide, fun h => ?_, by decide, fun c h => nomatch h⟩,
    ⟨by decide, by decide, fun k x h => ?_⟩, witness_withinStore, ⟨_, rfl⟩, ⟨_, rfl⟩⟩
  · have talks : ∀ l : Fin 8, onLine.lines[l].dialogue = none := by decide
    exact absurd ((talks l).symm.trans h) (by simp)
  · simp [homing, someEntry, eq_comm]
  · have holds : ∀ k : Fin 12, onLine.table.slots[k].session = if k = 4 then some (someSession .active) else none := by decide
    rw [holds] at h
    split at h <;> cases h
    decide

theorem witness_StepsKeepCallsConsistent : onLine.callsConsistent ∧
    ∃ t, step { onLine with pending := [.carrierLoss 2] } = .next t := by
  have talks : ∀ l : Fin 8, onLine.lines[l].dialogue = none := by decide
  have serves : ∀ (l : Fin 8) (k : Fin 12), onLine.lines[l].servedSlot = some k → l = 2 ∧ k = 4 := by decide
  have holds : ∀ k : Fin 12, onLine.table.slots[k].session = if k = 4 then some (someSession .active) else none := by decide
  refine ⟨⟨witness_StepsKeepLinesShaped.1, ⟨fun l k h => ?_, fun k x h => ?_⟩, ⟨by decide, fun k => ?_⟩,
    ⟨fun l d h => ?_, fun e h => absurd (show e ∈ ([] : List Entry) from h) List.not_mem_nil, by decide⟩,
    witness_StepsKeepBounds.2.1⟩, ⟨_, rfl⟩⟩
  · obtain ⟨rfl, rfl⟩ := serves l k h
    exact ⟨_, holds 4, by decide⟩
  · rw [holds] at h
    split at h <;> cases h
    subst k
    exact ⟨fun l h => by cases h; decide, by simp [Session.holdsLine, someSession]⟩
  · refine ⟨fun h => (nomatch h), fun ⟨x, h, hx⟩ => ?_⟩
    rw [holds] at h
    split at h <;> cases h
    cases hx
  · exact absurd ((talks l).symm.trans h) (by simp)

end Sys2Proof.Tests
end

section
/-! The character paths (02_character_paths.md): the transmit ring's rules as equations of `Line.place` and `Line.joinHost`, the
matching of a handle, the taking of a frame, and from them the statements about station texts (R31) and host data (R27 to
R29). -/

namespace Sys2Proof.Machine

/-! ### The line -/

theorem LineState.locked_iff (x : LineState) : x.locked = true ↔ x = .signOn ∨ x = .claiming ∨ x = .online := by
  cases x <;> simp [LineState.locked]

theorem LineState.locked_eq_false_iff (x : LineState) :
    x.locked = false ↔ x ≠ .signOn ∧ x ≠ .claiming ∧ x ≠ .online := by
  cases x <;> simp [LineState.locked]

@[simp] theorem State.setLine_self (l : Fin 8) (s : State) : s.setLine l s.lines[l] = s := by
  simp [State.setLine]

theorem State.modLine_eq_setLine (l : Fin 8) (f : Line → Line) (s : State) : s.modLine l f = s.setLine l (f s.lines[l]) := rfl

/-! ### A station text by the steps of R31 -/

section
variable {text : List Nat} {x : Line}

theorem Line.place_of_room (locked : x.state.locked = true)
    (room : x.txStation.length + x.txHost.length + text.length ≤ 64) :
    Line.place text x = { x with txStation := x.txStation ++ text } := by
  cases text with
  | nil => simp [Line.place]
  | cons c cs => simp only [Line.place, Line.txCount, Config.txPlaces, locked, room]; rfl

theorem Line.place_making_room (locked : x.state.locked = true)
    (ringHolds : x.txStation.length + x.txHost.length ≤ 64)
    (full : 64 < x.txStation.length + x.txHost.length + text.length)
    (fits : x.txStation.length + text.length ≤ 64) :
    Line.place text x =
      ({ x with txStation := x.txStation ++ text,
                txHost := x.txHost.take (64 - (x.txStation.length + text.length)) }).discard
        (x.txHost.length - (64 - (x.txStation.length + text.length))) := by
  have nonempty : text ≠ [] := by rintro rfl; simp at full; omega
  simp [Line.place, Line.txCount, Config.txPlaces, locked, nonempty, Nat.not_le.2 full, fits]

theorem Line.place_of_no_room (locked : x.state.locked = true)
    (ringHolds : x.txStation.length + x.txHost.length ≤ 64) (tooLong : 64 < x.txStation.length + text.length) :
    Line.place text x = x.discard text.length := by
  have nonempty : text ≠ [] := by rintro rfl; simp at tooLong; omega
  have full : ¬ x.txStation.length + x.txHost.length + text.length ≤ 64 := by omega
  simp [Line.place, Line.txCount, Config.txPlaces, locked, nonempty, full, Nat.not_le.2 tooLong]

end

/-! ### Host characters (R28) -/

theorem Line.joinHost_eq (chars : List Nat) (x : Line) {free : Nat}
    (hfree : free = 64 - (x.txStation.length + x.txHost.length)) :
    Line.joinHost chars x =
      { x with txHost := x.txHost ++ chars.take free,
               outputDiscards := if chars.length ≤ free then min 255 x.outputDiscards
                                 else min 255 (x.outputDiscards + (chars.length - free)) } := by
  have counted : min (x.outputDiscards + (chars.length - free)) 255 =
      if chars.length ≤ free then min 255 x.outputDiscards else min 255 (x.outputDiscards + (chars.length - free)) := by
    split <;> omega
  rw [← counted, hfree]
  rfl

/-! ### Handles (R76, R77) -/

theorem State.slotOf_eq_some_iff {s : State} {h : Handle} {k : Fin 12} :
    s.slotOf h = some k ↔ h.station = s.own ∧ h.slot = k := by
  unfold State.slotOf
  split
  · next own =>
    split
    · simp [own, Fin.ext_iff]
    · next outside => simp only [reduceCtorEq, false_iff]; omega
  · next foreign => simp [foreign]

/-- R77: a handle matches the slot whose handle it is, with the session there. -/
theorem State.matched_eq_some_iff {s : State} {h : Handle} {k : Fin 12} {x : Session} :
    s.matched h = some (k, x) ↔ h = s.handleAt k ∧ s.table.slots[k].session = some x := by
  have isHandle : h = s.handleAt k ↔ s.slotOf h = some k ∧ s.table.slots[k].generation = h.generation := by
    rw [State.slotOf_eq_some_iff, eq_comm (b := h.generation), and_assoc]
    cases h
    simp [State.handleAt]
  rw [isHandle]
  unfold State.matched
  cases hj : s.slotOf h with
  | none => simp
  | some j =>
    by_cases current : s.table.slots[j].generation = h.generation
    · cases hx : s.table.slots[j].session <;> grind
    · grind

/-! ### Frames taken (R55, R165) -/

@[simp] theorem State.taking_lines (f : Handed) (s : State) : (s.taking f).lines = s.lines := rfl

@[simp] theorem State.taking_table (f : Handed) (s : State) : (s.taking f).table = s.table := rfl

@[simp] theorem State.taking_station (f : Handed) (s : State) : (s.taking f).station = s.station := rfl

@[simp] theorem State.taking_handleAt (f : Handed) (s : State) (k : Fin 12) : (s.taking f).handleAt k = s.handleAt k := rfl

theorem takeHanded_of_takesNow {f : Handed} {s : State} (act : State → State) (h : s.takesNow f) :
    takeHanded f act s = act (s.taking f) := by
  obtain ⟨served, free⟩ := h
  simp [takeHanded, State.taking, served, free]

theorem exec_data_of_takesNow {d : DataBody} {s : State} (h : s.takesNow (.data d)) :
    exec (.data d) s = .next (settleData d (s.taking (.data d))) :=
  congrArg Host.Outcome.next (takeHanded_of_takesNow (settleData d) h)

/-! ### DATA from the host adapter (R27 to R29) -/

theorem SessionState.metered_iff (x : SessionState) : x.metered = true ↔ x = .active ∨ x = .cutoffGrace := by
  cases x <;> simp [SessionState.metered]

theorem SessionState.metered_eq_false_iff (x : SessionState) : x.metered = false ↔ x ≠ .active ∧ x ≠ .cutoffGrace := by
  cases x <;> simp [SessionState.metered]

theorem settleData_bound {d : DataBody} {s : State} {k : Fin 12} {x : Session} {l : Fin 8}
    (hm : s.matched d.handle = some (k, x)) (metered : x.state.metered = true) (bound : x.line = some l) :
    settleData d s =
      if d.hangUpFlag then endSession k .normalHangup (hangUp l (s.modLine l (Line.joinHost d.chars)))
      else s.modLine l (Line.joinHost d.chars) := by
  simp [settleData, hm, metered, bound]

theorem settleData_unmatched {d : DataBody} {s : State}
    (h : ∀ k x, s.matched d.handle = some (k, x) → x.state.metered = false) : settleData d s = discardFrame s := by
  unfold settleData
  cases hm : s.matched d.handle with
  | none => rfl
  | some p => simp [h p.1 p.2 hm]

/-! ### The statements -/

/-- Settles O9, by the three ways R31 treats a text: room as it stands, room made from the HOST characters, no room. -/
theorem stationTextPlaced : Obligations.StationTextPlaced := by
  intro l s text
  refine ⟨fun notInCall => ?_, fun inCall ringHolds => ?_⟩
  · rw [placeText_eq, Line.place_unlocked ((LineState.locked_eq_false_iff _).2 notInCall), State.setLine_self]
  have locked := (LineState.locked_iff _).2 inCall
  rw [placeText_eq]
  by_cases room : s.lines[l].txStation.length + s.lines[l].txHost.length + text.length ≤ 64
  · refine ⟨s.lines[l].txHost, [], 0, ?_, by simp, by simp, by omega, by omega⟩
    rw [Line.place_of_room locked room, if_pos (by omega), if_pos rfl]
  by_cases fits : s.lines[l].txStation.length + text.length ≤ 64
  · refine ⟨_, _, s.lines[l].txHost.length - (64 - (s.lines[l].txStation.length + text.length)), ?_,
      (List.take_append_drop (64 - (s.lines[l].txStation.length + text.length)) _).symm, by omega,
      fun _ _ => ⟨List.length_drop.symm, by rw [List.length_take]; omega⟩, by omega⟩
    rw [Line.place_making_room locked ringHolds (by omega) fits, if_pos fits, if_neg (by omega), min_comm]
    rfl
  · refine ⟨s.lines[l].txHost, [], text.length, ?_, by simp, by omega, by omega, by simp⟩
    rw [Line.place_of_no_room locked ringHolds (by omega), if_neg fits, if_neg (by omega), min_comm]
    rfl

/-- Settles O10: the frame is taken, and what it does turns on whether its handle matches a session that is metered, which the
states ACTIVE and CUTOFF_GRACE are. -/
theorem hostDataToTheTerminal : Obligations.HostDataToTheTerminal := by
  rintro s u d taken rfl
  rw [exec_data_of_takesNow taken]
  refine ⟨fun k x l hh hx hstate bound free v hfree hv => ?_, fun noneMetered => ?_⟩
  · have placed : (s.taking (.data d)).modLine l (Line.joinHost d.chars) = v := by
      rw [hv, State.modLine_eq_setLine, State.taking_lines, Line.joinHost_eq d.chars _ hfree]
    have matched : (s.taking (.data d)).matched d.handle = some (k, x) := State.matched_eq_some_iff.2 ⟨hh, hx⟩
    rw [settleData_bound matched ((SessionState.metered_iff _).2 hstate) bound, placed]
    exact ⟨fun noHangUp => by simp [noHangUp], fun withHangUp => by simp [withHangUp]⟩
  · rw [settleData_unmatched fun k x hm => ?_]
    · rw [discardFrame, State.taking_station, min_comm]
    · obtain ⟨hh, hx⟩ := State.matched_eq_some_iff.1 hm
      exact (SessionState.metered_eq_false_iff _).2 (noneMetered k x hh hx)

end Sys2Proof.Machine
end

section
/-! Signing on (03_signing_on.md): the DENY that settles a claim. A text on a line leaves its dialogue alone, so the
updates of one line by R49 and R50 join into one; from there each reason's way is an equation of `denyLine`. -/

namespace Sys2Proof.Machine

/-! ### Updates of one place -/

section
variable (l : Fin 8) (k : Fin 12) (s : State)

theorem State.setLine_line (x : Line) : (s.setLine l x).lines[l] = x := by
  simp

@[simp] theorem State.setLine_setLine (x y : Line) : (s.setLine l x).setLine l y = s.setLine l y := by
  simp [State.setLine]

@[simp] theorem State.setSlot_setSlot (x y : Slot) : (s.setSlot k x).setSlot k y = s.setSlot k y := by
  simp [State.setSlot]

theorem State.setSlot_slot (x : Slot) : (s.setSlot k x).table.slots[k] = x := by
  simp

@[simp] theorem State.userPrompt_setLine (x : Line) : (s.setLine l x).userPrompt = s.userPrompt := rfl

end

theorem placeText_setLine (l : Fin 8) (t : List Nat) (x : Line) (s : State) :
    placeText l t (s.setLine l x) = s.setLine l (Line.place t x) := by
  rw [placeText_eq, State.setLine_line, State.setLine_setLine]

/-- R31 asks nothing of the line's dialogue. -/
theorem Line.place_withDialogue (t : List Nat) (x : Line) (d : Option Dialogue) :
    Line.place t { x with dialogue := d } = { Line.place t x with dialogue := d } := by
  simp only [Line.place, Line.txCount]
  split_ifs <;> rfl

/-! ### Back to the USER phase (R49) -/

/-- The dialogue as the USER phase takes it up again, with the attempts given (R49). -/
def Dialogue.retried (attempts : Nat) (c : Dialogue) : Dialogue :=
  { c with attempts := attempts, phase := .user, step := .entry, entry := [], userNumber := none, digest := 0,
           awaitedSlot := none }

theorem Line.resume_of_claiming {x : Line} {c : Dialogue} (claiming : x.state = .claiming)
    (inDialogue : x.dialogue = some c) :
    Line.resume x = { x with state := .signOn, servedSlot := none, dialogue := some (c.retried c.attempts) } := by
  simp [Line.resume, Dialogue.retried, claiming, inDialogue]

section
variable {l : Fin 8} {c : Dialogue} {u : State}

/-- A text and then the prompt, on a line whose claim is over: the dialogue that the text left is the one taken up (R49). -/
theorem resumeDialogue_placeText {x : Line} (t : List Nat) (claiming : x.state = .claiming)
    (inDialogue : x.dialogue = some c) :
    resumeDialogue l (placeText l t (u.setLine l x)) =
      u.setLine l (Line.place u.userPrompt
        { Line.place t x with state := .signOn, servedSlot := none, dialogue := some (c.retried c.attempts) }) := by
  obtain ⟨state, dialogue, -, -⟩ := Line.place_keeps t x
  rw [placeText_setLine, resumeDialogue, State.modLine_eq_setLine, State.setLine_line, State.setLine_setLine,
    placeText_setLine, State.userPrompt_setLine, Line.resume_of_claiming (state.trans claiming) (dialogue.trans inDialogue)]

/-! ### An attempt used up (R50) -/

theorem failedSignOn_eq (inDialogue : u.lines[l].dialogue = some c) :
    failedSignOn l u =
      (if c.attempts + 1 < 3 then resumeDialogue l else hangUp l)
        (placeText l FixedText.signOnFailed.chars
          (u.setLine l { u.lines[l] with dialogue := some { c with attempts := c.attempts + 1 } })) := by
  simp only [failedSignOn, placeFixed, State.modLine_eq_setLine, inDialogue, Option.map_some]
  split_ifs <;> rfl

/-! ### The caller's side of a DENY, reason by reason -/

theorem denyLine_of_hangUp {r : DenyReason} {t : FixedText}
    (text : r = .locked ∧ t = .accountLocked ∨ r = .limit ∧ t = .sessionLimit ∨ r = .credit ∧ t = .noCredit ∨
      r = .recordFault ∧ t = .accountFault ∨ r = .homeFull ∧ t = .systemFull) :
    denyLine l r u = hangUp l (placeText l t.chars u) := by
  obtain ⟨rfl, rfl⟩ | ⟨rfl, rfl⟩ | ⟨rfl, rfl⟩ | ⟨rfl, rfl⟩ | ⟨rfl, rfl⟩ := text <;> rfl

theorem denyLine_of_failedSignOn {r : DenyReason} (failed : r = .badDigest ∨ r = .noAccount) :
    denyLine l r u = failedSignOn l u := by
  obtain rfl | rfl := failed <;> rfl

theorem denyLine_of_retry {r : DenyReason} {t : FixedText} {attempts : Nat} (claiming : u.lines[l].state = .claiming)
    (inDialogue : u.lines[l].dialogue = some c)
    (retry : r = .homeBusy ∧ t = .tryAgain ∧ attempts = c.attempts ∨
      (r = .badDigest ∨ r = .noAccount) ∧ t = .signOnFailed ∧ attempts = c.attempts + 1 ∧ attempts < 3) :
    denyLine l r u =
      u.setLine l (Line.place u.userPrompt
        { Line.place t.chars u.lines[l] with
          state := .signOn, servedSlot := none, dialogue := some (c.retried attempts) }) := by
  obtain ⟨rfl, rfl, rfl⟩ | ⟨failed, rfl, rfl, below⟩ := retry
  · have resumed := resumeDialogue_placeText (l := l) (u := u) FixedText.tryAgain.chars claiming inDialogue
    rwa [State.setLine_self] at resumed
  · rw [denyLine_of_failedSignOn failed, failedSignOn_eq inDialogue, if_pos below,
      resumeDialogue_placeText (x := { u.lines[l] with dialogue := some { c with attempts := c.attempts + 1 } }) _
        claiming rfl, Line.place_withDialogue]
    rfl

end

/-! ### The claim that a DENY settles (R46, R48) -/

theorem exec_deny_of_takesNow {source : Nat} {d : DenyBody} {s : State} (h : s.takesNow (.deny source d)) :
    exec (.deny source d) s = .next (settleDeny source d (s.taking (.deny source d))) :=
  congrArg Host.Outcome.next (takeHanded_of_takesNow (settleDeny source d) h)

theorem settleDeny_of_claim {source : Nat} {d : DenyBody} {k : Fin 12} {l : Fin 8} {x : Session} {s : State}
    (handle : d.handle = s.handleAt k) (first : s.table.slots[k].replySource = none)
    (session : s.table.slots[k].session = some x) (claiming : x.state = .claiming) (kept : x.abandoned = false)
    (bound : x.line = some l) :
    settleDeny source d s =
      denyLine l d.reason
        (s.setSlot k { s.table.slots[k] with replySource := some source, claimTimer := none, session := none }) := by
  have named : s.slotOf d.handle = some k := State.slotOf_eq_some_iff.2 (by simp [handle, State.handleAt])
  have current : s.table.slots[k].generation = d.handle.generation := by simp [handle, State.handleAt]
  have freed : freeSlot k (s.modSlot k fun y => { y with replySource := some source }) =
      s.setSlot k { s.table.slots[k] with replySource := some source, claimTimer := none, session := none } := by
    rw [freeSlot, State.modSlot, State.modSlot, State.setSlot_slot, State.setSlot_setSlot]
    rfl
  have held : (s.modSlot k fun y => { y with replySource := some source }).table.slots[k].session = some x := by
    rw [State.modSlot, State.setSlot_slot, session]
  simp only [settleDeny, named, current, ne_eq, not_true_eq_false, if_false, first, held, claiming, if_true, kept,
    Bool.false_eq_true, bound, freed]

/-- Settles O15: the DENY frees the slot of its claim, and its reason alone says what becomes of the line. -/
theorem denySettlesTheClaim : Obligations.DenySettlesTheClaim := by
  rintro source d k l x c s u taken handle first session claiming kept bound lineClaiming inDialogue hu
  have denied : exec (.deny source d) s = .next (denyLine l d.reason u) := by
    rw [exec_deny_of_takesNow taken, hu]
    exact congrArg Host.Outcome.next (settleDeny_of_claim handle first session claiming kept bound)
  have sameLines : u.lines = s.lines := by rw [hu]; rfl
  have samePrompt : u.userPrompt = s.userPrompt := by rw [hu]; rfl
  rw [denied, ← samePrompt]
  rw [← sameLines] at lineClaiming inDialogue ⊢
  refine ⟨fun t text => ?_, fun attempts t retry => ?_, fun failed spent => ?_⟩
  · rw [denyLine_of_hangUp text]
  · rw [denyLine_of_retry lineClaiming inDialogue retry]
    rfl
  · rw [denyLine_of_failedSignOn failed, failedSignOn_eq inDialogue, if_neg (by omega)]

end Sys2Proof.Machine
end

section
/-! The account home (04_account_homes.md): the DETACH, as equations of `HomeEntry.detach` and `takeDetach` for each finding of the
range and the session list. -/

namespace Sys2Proof.Machine

/-! ### DETACH taken by the home (R65) -/

@[simp] theorem State.taking_home (f : Handed) (s : State) : (s.taking f).home = s.home := rfl

/-- R57, R65: every DETACH restarts the silence timer, and a state other than ACTIVE stays. -/
theorem HomeEntry.detach_eq (e : HomeEntry) :
    e.detach = { e with state := if e.state = .active then .detached else e.state, silence := 180, expiryPutOff := false } := by
  unfold HomeEntry.detach
  split <;> rfl

theorem exec_detach_of_takesNow {d : DetachBody} {s : State} (h : s.takesNow (.detach d)) :
    exec (.detach d) s = .next (takeDetach d (s.taking (.detach d))) :=
  congrArg Host.Outcome.next (takeHanded_of_takesNow (takeDetach d) h)

section
variable {d : DetachBody} {s : State}

theorem takeDetach_of_outOfRange (out : s.home.inRange d.account = false) : takeDetach d s = s := by
  simp [takeDetach, out]

theorem takeDetach_of_notFound (absent : s.home.find d.handle = none) : takeDetach d s = s := by
  simp [takeDetach, absent]

/-- R65: the handle alone finds the entry, and its state alone says whether the handle joins the detach order. -/
theorem takeDetach_of_found {e : HomeEntry} (within : s.home.inRange d.account = true)
    (found : s.home.find d.handle = some e) :
    takeDetach d s = s.setHome { s.home.modEntry d.handle HomeEntry.detach with
      detachOrder := if e.state = .active then s.home.detachOrder ++ [d.handle] else s.home.detachOrder } := by
  simp only [takeDetach, within, found, if_true]
  split <;> rfl

end

/-- Settles O28, by what the home finds: an account outside its range, no entry of the handle, or the entry. -/
theorem detachTakenByTheHome : Obligations.DetachTakenByTheHome := by
  rintro d s u taken rfl
  rw [exec_detach_of_takesNow taken]
  refine ⟨?_, fun e within found => ?_⟩
  · rintro (out | absent)
    · rw [takeDetach_of_outOfRange (by rwa [State.taking_home])]
    · rw [takeDetach_of_notFound (by rwa [State.taking_home])]
  · rw [takeDetach_of_found (by rwa [State.taking_home]) (by rwa [State.taking_home])]
    simp only [State.setHome, Home.modEntry, HomeEntry.detach_eq, State.taking_home]

end Sys2Proof.Machine
end

section
/-! Sessions (05_sessions.md): FORCE OFF, as equations of `forceOff` for each finding of the command and of `forceOffSession`
for each state of the session found. -/

namespace Sys2Proof

/-! ### The handle in a body (10_rack_bus.md, Formats) -/

theorem Handle.wf_iff (h : Handle) : h.wf = true ↔ h.station < 256 ∧ h.slot < 256 ∧ h.generation < 256 := by
  simp [Handle.wf, and_assoc]

/-- A handle each of whose fields fits its byte reads back as sent. -/
theorem handleOf_bytes {h : Handle} (fits : h.wf = true) : handleOf h.bytes 0 = h := by
  obtain ⟨station, slot, generation⟩ := (Handle.wf_iff h).1 fits
  cases h
  simp_all [handleOf, fieldOf, numberOf, Handle.bytes, Nat.mod_eq_of_lt]

end Sys2Proof

namespace Sys2Proof.Machine

theorem forceOffOf_bytes {h : Handle} (fits : h.wf = true) : forceOffOf h.bytes = some h := by
  rw [forceOffOf, handleOf_bytes fits]
  rfl

/-! ### The session found (R84) -/

@[simp] theorem State.taking_matched (f : Handed) (s : State) (h : Handle) : (s.taking f).matched h = s.matched h := rfl

theorem State.modSession_of_session {k : Fin 12} {x : Session} {s : State} (f : Session → Session)
    (session : s.table.slots[k].session = some x) :
    s.modSession k f = s.setSlot k { s.table.slots[k] with session := some (f x) } := by
  rw [State.modSession, State.modSlot, session, Option.map_some]

section
variable {k : Fin 12} {x : Session} {l : Fin 8} {s : State}

theorem forceOffSession_of_metered (metered : x.state = .active ∨ x.state = .cutoffGrace) (bound : x.line = some l) :
    forceOffSession k x s = endSession k .forced (hangUp l (placeText l FixedText.forcedOff.chars s)) := by
  obtain state | state := metered <;> rw [forceOffSession, state, bound] <;> rfl

theorem forceOffSession_of_detached (detached : x.state = .detached) :
    forceOffSession k x s = endSession k .forced s := by
  rw [forceOffSession, detached]

/-- R51: the slot of an abandoned claim stays reserved, bound to no line. -/
theorem forceOffSession_of_claiming (claiming : x.state = .claiming) (kept : x.abandoned = false)
    (bound : x.line = some l) (session : s.table.slots[k].session = some x) :
    forceOffSession k x s = hangUp l (placeText l FixedText.forcedOff.chars
      (s.setSlot k { s.table.slots[k] with session := some { x with abandoned := true, line := none } })) := by
  simp only [forceOffSession, claiming, kept, Bool.false_eq_true, if_false, bound, hangUpWith, placeFixed,
    State.modSession_of_session _ session]

theorem forceOffSession_of_left (left : x.state = .ending ∨ x.state = .claiming ∧ x.abandoned = true) :
    forceOffSession k x s = s := by
  obtain ending | ⟨claiming, abandoned⟩ := left
  · rw [forceOffSession, ending]
  · simp only [forceOffSession, claiming, abandoned, if_true]

end

/-! ### FORCE OFF taken (R84) -/

theorem State.inService_iff (s : State) : s.inService = true ↔ s.station.state = .inService := by
  simp [State.inService]

theorem exec_forceOff_of_takesNow {b : List Byte} {s : State} (h : s.takesNow (.command .forceOff b)) :
    exec (.forceOff b) s = .next (forceOff b (s.taking (.command .forceOff b))) :=
  congrArg Host.Outcome.next (takeHanded_of_takesNow (forceOff b) h)

section
variable {b : List Byte} {h : Handle} {s : State}

theorem forceOff_of_notInService (out : s.station.state ≠ .inService) :
    forceOff b s = offerResult .forceOff .refusedState [] s := by
  simp [forceOff, State.inService_iff, out]

theorem forceOff_of_badLength (serving : s.station.state = .inService) (bad : b.length ≠ 3) :
    forceOff b s = offerResult .forceOff .badField [] s := by
  simp [forceOff, forceOffOf, (State.inService_iff s).2 serving, bad]

theorem forceOff_of_unmatched (serving : s.station.state = .inService) (fits : h.wf = true) (absent : s.matched h = none) :
    forceOff h.bytes s = offerResult .forceOff .notFound [] s := by
  simp [forceOff, forceOffOf_bytes fits, (State.inService_iff s).2 serving, absent]

/-- R84: the RESULT is offered to the state that the ending's own frames have left. -/
theorem forceOff_of_matched {k : Fin 12} {x : Session} (serving : s.station.state = .inService) (fits : h.wf = true)
    (found : s.matched h = some (k, x)) :
    forceOff h.bytes s = offerResult .forceOff .done [] (forceOffSession k x s) := by
  simp [forceOff, forceOffOf_bytes fits, (State.inService_iff s).2 serving, found]

end

/-- Settles O21, by what the command finds: the station state, the body, the session of the handle, and that session's state. -/
theorem forceOffFindings : Obligations.ForceOffFindings := by
  intro b s u taken hu
  have sameStation : s.station = u.station := by rw [hu, State.taking_station]
  have sameTable : s.table = u.table := by rw [hu, State.taking_table]
  have sameMatched : ∀ h, s.matched h = u.matched h := by simp [hu]
  rw [exec_forceOff_of_takesNow taken, ← hu]
  simp only [sameStation, sameTable, sameMatched]
  refine ⟨fun out => by rw [forceOff_of_notInService out], fun serving =>
    ⟨fun bad => by rw [forceOff_of_badLength serving bad], ?_⟩⟩
  rintro h rfl fits
  refine ⟨fun absent => by rw [forceOff_of_unmatched serving fits absent], fun k x found => ?_⟩
  rw [forceOff_of_matched serving fits found]
  refine ⟨fun l metered bound => ?_, fun detached => ?_, fun l claiming kept bound => ?_, fun left => ?_⟩
  · rw [forceOffSession_of_metered metered bound]
  · rw [forceOffSession_of_detached detached]
  · obtain ⟨-, session⟩ := State.matched_eq_some_iff.1 found
    rw [forceOffSession_of_claiming claiming kept bound session]
  · rw [forceOffSession_of_left left]

end Sys2Proof.Machine
end

section
/-! The rack bus (10_rack_bus.md): which contents `readContents` refuses, kind by kind, the frame that has passed its check as
equations of `takePassed`, and the train as an equation of `takeTrain` for each finding (R163, R164). -/

namespace Sys2Proof

/-! ### Enumerations -/

theorem denyReasonOf_eq_none_iff (n : Nat) : denyReasonOf n = none ↔ 7 < n := by
  unfold denyReasonOf
  split <;> simp
  grind

theorem endCauseOf_eq_none_iff (n : Nat) : endCauseOf n = none ↔ 10 < n := by
  unfold endCauseOf
  split <;> simp
  grind

theorem commandKindOf_eq_none_iff (n : Nat) : commandKindOf n = none ↔ ¬ (32 ≤ n ∧ n ≤ 49) := by
  unfold commandKindOf
  split <;> simp
  grind

/-! ### Bodies that are refused (R164) -/

section
variable (b : List Byte)

theorem claimOf_eq_none_iff : claimOf b = none ↔ b.length ≠ 11 := by
  simp [claimOf]

/-- R164: the kind of a GRANT agrees with its length, or the GRANT is refused. -/
theorem grantOf_eq_none_iff :
    grantOf b = none ↔
      ¬ (b.length = 8 ∧ fieldOf b 6 1 = 0 ∨ b.length = 11 ∧ fieldOf b 6 1 = 1) ∨ 7 < fieldOf b 7 1 := by
  unfold grantOf
  split_ifs with accountClass terminal resume
  · simp [terminal, accountClass]
  · simp [resume, accountClass]
  · simp [terminal, resume]
  · simp [Nat.not_le.1 accountClass]

theorem denyOf_eq_none_iff : denyOf b = none ↔ b.length ≠ 7 ∨ 7 < fieldOf b 6 1 := by
  rw [← denyReasonOf_eq_none_iff]
  unfold denyOf
  split_ifs with long
  · cases denyReasonOf (fieldOf b 6 1) <;> simp [long]
  · simp [long]

/-- R164: the final flag of a CHARGE agrees with its length, or the CHARGE is refused. -/
theorem chargeOf_eq_none_iff :
    chargeOf b = none ↔
      ¬ (b.length = 11 ∧ fieldOf b 10 1 % 2 = 0 ∨
        b.length = 12 ∧ fieldOf b 10 1 % 2 = 1 ∧ fieldOf b 11 1 ≤ 10) := by
  rw [← Nat.not_lt (b := fieldOf b 11 1), ← endCauseOf_eq_none_iff]
  unfold chargeOf
  split_ifs with running final
  · simp [running]
  · cases endCauseOf (fieldOf b 11 1) <;> simp [final]
  · grind

theorem cutoffOf_eq_none_iff : cutoffOf b = none ↔ b.length ≠ 9 := by
  simp [cutoffOf]

theorem refuseOf_eq_none_iff : refuseOf b = none ↔ b.length ≠ 9 := by
  simp [refuseOf]

theorem detachOf_eq_none_iff : detachOf b = none ↔ b.length ≠ 6 := by
  simp [detachOf]

theorem tallyOf_eq_none_iff : tallyOf b = none ↔ b.length ≠ 2 := by
  simp [tallyOf]

theorem dataOf_eq_none_iff :
    dataOf b = none ↔ b.length < 4 ∨ 36 < b.length ∨ ∃ c ∈ b.drop 4, 127 < c.toNat := by
  simp only [dataOf, ite_eq_right_iff, reduceCtorEq, imp_false, List.all_eq_true, decide_eq_true_eq, not_and_or, not_le,
    not_forall, exists_prop]

end

theorem readingOf_eq_bad_iff {α : Type} (f : α → Handed) (o : Option α) : readingOf f o = .bad ↔ o = none := by
  cases o <;> simp [readingOf]

/-- A kind without a body of its own is a reply's or a command's, or no kind at all. -/
theorem readContents_eq_bad_iff_of_noBody {kind : Nat} (source : Nat) (body : List Byte) (noBody : ¬ (1 ≤ kind ∧ kind ≤ 9)) :
    readContents source kind body = .bad ↔ ¬ (64 ≤ kind ∧ kind ≤ 69) ∧ ¬ (32 ≤ kind ∧ kind ≤ 49) := by
  rw [← commandKindOf_eq_none_iff]
  unfold readContents
  iterate 9 rw [if_neg (by omega)]
  split_ifs with reply
  · simp [reply]
  · cases commandKindOf kind <;> simp [reply]

/-- R164: the contents that are refused. -/
theorem readContents_eq_bad_iff (source kind : Nat) (body : List Byte) :
    readContents source kind body = .bad ↔
      ¬ (1 ≤ kind ∧ kind ≤ 9 ∨ 32 ≤ kind ∧ kind ≤ 49 ∨ 64 ≤ kind ∧ kind ≤ 69) ∨
      (kind = 1 ∧ body.length ≠ 11) ∨
      (kind = 2 ∧ (¬ (body.length = 8 ∧ fieldOf body 6 1 = 0 ∨ body.length = 11 ∧ fieldOf body 6 1 = 1) ∨
        7 < fieldOf body 7 1)) ∨
      (kind = 3 ∧ (body.length ≠ 7 ∨ 7 < fieldOf body 6 1)) ∨
      (kind = 4 ∧ ¬ (body.length = 11 ∧ fieldOf body 10 1 % 2 = 0 ∨
        body.length = 12 ∧ fieldOf body 10 1 % 2 = 1 ∧ fieldOf body 11 1 ≤ 10)) ∨
      ((kind = 5 ∨ kind = 6) ∧ body.length ≠ 9) ∨
      (kind = 7 ∧ body.length ≠ 6) ∨
      (kind = 8 ∧ body.length ≠ 2) ∨
      (kind = 9 ∧ (body.length < 4 ∨ 36 < body.length ∨ ∃ c ∈ body.drop 4, 127 < c.toNat)) := by
  rw [← claimOf_eq_none_iff, ← grantOf_eq_none_iff, ← denyOf_eq_none_iff, ← chargeOf_eq_none_iff, ← detachOf_eq_none_iff,
    ← tallyOf_eq_none_iff, ← dataOf_eq_none_iff]
  by_cases hasBody : 1 ≤ kind ∧ kind ≤ 9
  · obtain ⟨low, high⟩ := hasBody
    interval_cases kind <;>
      simp [readContents, readingOf_eq_bad_iff, cutoffOf_eq_none_iff, refuseOf_eq_none_iff]
  · rw [readContents_eq_bad_iff_of_noBody source body hasBody]
    exact ⟨fun unknown => .inl (by omega), fun refused => by omega⟩

end Sys2Proof

namespace Sys2Proof.Machine

/-! ### The findings on a train (R164) -/

section
variable {bytes : List Byte} {n : Nat}

theorem findingOf_broken : findingOf bytes true = .broken := rfl

theorem findingOf_of_incomplete (hn : n = fieldOf bytes 3 1)
    (short : bytes.length < 4 ∨ n ≤ 40 ∧ bytes.length < 6 + n) : findingOf bytes false = .incomplete := by
  simp only [findingOf, ← hn, short, Bool.false_eq_true, if_true, if_false]

theorem findingOf_of_wrong (hn : n = fieldOf bytes 3 1) (header : 4 ≤ bytes.length)
    (wrong : 40 < n ∨ 6 + n < bytes.length ∨
      n ≤ 40 ∧ bytes.length = 6 + n ∧ fieldOf bytes (4 + n) 2 ≠ (frameCheck (bytes.take (4 + n))).toNat) :
    findingOf bytes false = .lengthAbove ∨ findingOf bytes false = .tooLong ∨ findingOf bytes false = .checkDisagrees := by
  have complete : ¬ (bytes.length < 4 ∨ n ≤ 40 ∧ bytes.length < 6 + n) := by omega
  simp only [findingOf, ← hn, complete, Bool.false_eq_true, if_false]
  split_ifs with above long differs
  · simp
  · simp
  · simp
  · obtain above' | long' | ⟨-, -, differs'⟩ := wrong
    · exact absurd above' above
    · exact absurd long' long
    · exact absurd differs'.symm differs

theorem findingOf_of_passed (hn : n = fieldOf bytes 3 1) (fits : n ≤ 40) (whole : bytes.length = 6 + n)
    (agrees : fieldOf bytes (4 + n) 2 = (frameCheck (bytes.take (4 + n))).toNat) : findingOf bytes false = .passed := by
  have complete : ¬ (bytes.length < 4 ∨ n ≤ 40 ∧ bytes.length < 6 + n) := by omega
  simp only [findingOf, ← hn, complete, Bool.false_eq_true, if_false]
  rw [if_neg (by omega), if_neg (by omega), if_neg (not_not.2 agrees.symm)]

end

/-! ### A frame that has passed the check (R164) -/

section
variable {destination source kind : Nat} {body : List Byte} {s : State}

theorem takePassed_of_noMember (outside : 15 < source) :
    takePassed destination source kind body s = logFault .busCheck { Subject.blank with address := some source } s := by
  simp [takePassed, outside, Nat.not_le.2 outside]

/-- R164: the source of a frame with refused contents is the last sender all the same. -/
theorem takePassed_of_refused (member : source ≤ 15)
    (refused : (15 < destination ∧ destination ≠ 255) ∨ readContents source kind body = .bad) :
    takePassed destination source kind body s =
      logFault .busCheck { Subject.blank with address := some source }
        { s with bus := { s.bus with lastSender := source } } := by
  simp only [takePassed, member, if_true, if_neg (Nat.not_lt.2 member)]
  split_ifs with elsewhere
  · rfl
  · rw [refused.resolve_left elsewhere]

theorem takePassed_of_notTaken (member : source ≤ 15) (reaches : destination ≤ 15 ∨ destination = 255)
    (reply : readContents source kind body = .notTaken) :
    takePassed destination source kind body s = { s with bus := { s.bus with lastSender := source } } := by
  have within : ¬ (15 < destination ∧ destination ≠ 255) := by omega
  simp only [takePassed, member, if_true, if_neg (Nat.not_lt.2 member), if_neg within, reply]

theorem takePassed_of_frame {f : Handed} (member : source ≤ 15) (reaches : destination ≤ 15 ∨ destination = 255)
    (frame : readContents source kind body = .frame f) :
    takePassed destination source kind body s =
      handOver destination source f { s with bus := { s.bus with lastSender := source } } := by
  have within : ¬ (15 < destination ∧ destination ≠ 255) := by omega
  simp only [takePassed, member, if_true, if_neg (Nat.not_lt.2 member), if_neg within, frame]

end

/-! ### A train received (R163, R164) -/

section
variable {bytes : List Byte} {broken : Bool} {s : State}

theorem takeTrain_of_incomplete (finding : findingOf bytes broken = .incomplete) : takeTrain bytes broken s = s := by
  rw [takeTrain, finding]

theorem takeTrain_of_passed (finding : findingOf bytes broken = .passed) :
    takeTrain bytes broken s =
      takePassed (fieldOf bytes 0 1) (fieldOf bytes 1 1) (fieldOf bytes 2 1)
        ((bytes.drop 4).take (fieldOf bytes 3 1)) s := by
  rw [takeTrain, finding]

theorem takeTrain_of_broken : takeTrain bytes true s = logFault .busCheck Subject.blank s := by
  rw [takeTrain, findingOf_broken]

theorem takeTrain_of_wrong (finding : findingOf bytes broken = .lengthAbove ∨ findingOf bytes broken = .tooLong ∨
      findingOf bytes broken = .checkDisagrees) :
    takeTrain bytes broken s = logFault .busCheck Subject.blank s := by
  obtain above | long | differs := finding
  · rw [takeTrain, above]
  · rw [takeTrain, long]
  · rw [takeTrain, differs]

theorem receiveTrain_of_awaitsIdle (waits : s.bus.awaitsIdle = true) : receiveTrain bytes broken s = s := by
  rw [receiveTrain, if_pos waits]

theorem receiveTrain_of_broken (listens : s.bus.awaitsIdle = false) :
    receiveTrain bytes true s = logFault .busCheck Subject.blank { s with bus := { s.bus with awaitsIdle := true } } := by
  simp only [receiveTrain, listens, Bool.false_eq_true, if_false, takeTrain_of_broken]

theorem receiveTrain_of_unbroken (listens : s.bus.awaitsIdle = false) :
    receiveTrain bytes false s = takeTrain bytes false s := by
  have unchanged : { s with bus := { s.bus with awaitsIdle := false } } = s := by rw [← listens]
  rw [receiveTrain, if_neg (Bool.eq_false_iff.1 listens), unchanged]

theorem exec_frameReceived_of_strapFault (fault : s.station.state = .strapFault) :
    exec (.frameReceived bytes broken) s = .next s := by
  simp [exec, execFrameReceived, awake, fault]

theorem exec_frameReceived_of_running (noReset : s.inReset = false) (running : s.station.state ≠ .strapFault) :
    exec (.frameReceived bytes broken) s = .next (receiveTrain bytes broken (busTaken s)) := by
  simp [exec, execFrameReceived, awake, noReset, running]

end

/-- Settles O41: whether the receiver takes the train at all, then the train by its first finding, and a frame that passes by
its source, its destination and what its contents read as. -/
theorem trainsAndContentsChecked : Obligations.TrainsAndContentsChecked := by
  refine ⟨?_, ?_, readContents_eq_bad_iff⟩
  · rintro bytes broken n s u bad noReset hn hu rfl
    obtain rfl : u = busTaken s := hu
    refine ⟨exec_frameReceived_of_strapFault, fun running waits => ?_, fun running listens => ?_⟩
    · rw [exec_frameReceived_of_running noReset running, receiveTrain_of_awaitsIdle (s := busTaken s) waits]
    have listens : (busTaken s).bus.awaitsIdle = false := listens
    rw [exec_frameReceived_of_running noReset running]
    refine ⟨?_, ?_, ?_, ?_⟩
    · rintro rfl
      rw [receiveTrain_of_broken listens]
    · rintro rfl short
      rw [receiveTrain_of_unbroken listens, takeTrain_of_incomplete (findingOf_of_incomplete hn short)]
    · rintro rfl header wrong
      rw [receiveTrain_of_unbroken listens, takeTrain_of_wrong (findingOf_of_wrong hn header wrong)]
    · rintro rfl fits whole agrees
      rw [receiveTrain_of_unbroken listens, takeTrain_of_passed (findingOf_of_passed hn fits whole agrees), hn]
  · rintro destination source kind body s v rfl
    exact ⟨takePassed_of_noMember, takePassed_of_refused, fun member reaches =>
      ⟨takePassed_of_notTaken member reaches, fun _ => takePassed_of_frame member reaches⟩⟩

end Sys2Proof.Machine
end

section
/-! STATUS READ (R173): the fields of a body laid out with `bytesOf`, one after the other, and from them the reply's 30 bytes. -/

namespace Sys2Proof

/-! ### Fields of a body (10_rack_bus.md, Formats) -/

@[simp] theorem length_bytesOf (width n : Nat) : (bytesOf width n).length = width := by
  induction width with
  | zero => rfl
  | succ width ih => rw [bytesOf, List.length_cons, ih]

/-- The most significant byte comes first. -/
theorem numberOf_cons (b : Byte) (bs : List Byte) : numberOf (b :: bs) = b.toNat * 256 ^ bs.length + numberOf bs := by
  have shifted (a : Nat) : bs.foldl (fun a b => a * 256 + b.toNat) a = a * 256 ^ bs.length + numberOf bs := by
    unfold numberOf
    induction bs generalizing a with
    | nil => simp
    | cons c cs ih =>
      rw [List.foldl_cons, List.foldl_cons, ih, ih (0 * 256 + c.toNat), List.length_cons]
      ring
  simpa [numberOf] using shifted b.toNat

theorem numberOf_bytesOf (width n : Nat) : numberOf (bytesOf width n) = n % 256 ^ width := by
  induction width with
  | zero => simp [bytesOf, numberOf, Nat.mod_one]
  | succ width ih =>
    rw [bytesOf, numberOf_cons, ih, length_bytesOf, Nat.mod_pow_succ, BitVec.toNat_ofNat, Nat.mul_comm, Nat.add_comm]

theorem fieldOf_append_of_le {bs rest : List Byte} {start len : Nat} (past : bs.length ≤ start) :
    fieldOf (bs ++ rest) start len = fieldOf rest (start - bs.length) len := by
  rw [fieldOf, List.drop_append, List.drop_of_length_le past, List.nil_append, fieldOf]

section
variable {width n : Nat} {rest : List Byte}

theorem fieldOf_bytesOf_append_of_le {start len : Nat} (past : width ≤ start) :
    fieldOf (bytesOf width n ++ rest) start len = fieldOf rest (start - width) len := by
  rw [fieldOf_append_of_le (by rwa [length_bytesOf]), length_bytesOf]

theorem fieldOf_bytesOf_append : fieldOf (bytesOf width n ++ rest) 0 width = n % 256 ^ width := by
  rw [fieldOf, List.drop_zero, List.take_left' (length_bytesOf width n), numberOf_bytesOf]

end

/-- Entries of one length lie one after the other in a body. -/
theorem fieldOf_flatMap {α : Type} {f : α → List Byte} {size : Nat} (sized : ∀ x, (f x).length = size) {xs : List α} {j : Nat}
    {x : α} (entry : xs[j]? = some x) (i len : Nat) :
    fieldOf (xs.flatMap f) (size * j + i) len = fieldOf (f x ++ (xs.drop (j + 1)).flatMap f) i len := by
  induction j generalizing xs with
  | zero =>
    obtain ⟨ys, rfl⟩ : ∃ ys, xs = x :: ys := by cases xs <;> simp_all
    simp
  | succ j ih =>
    cases xs with
    | nil => simp at entry
    | cons y ys =>
      have past : size * (j + 1) + i - size = size * j + i := by rw [Nat.mul_succ]; omega
      rw [List.flatMap_cons, fieldOf_append_of_le (by rw [sized, Nat.mul_succ]; omega), sized, past, ih (by simpa using entry),
        List.drop_succ_cons]

end Sys2Proof

namespace Sys2Proof.Machine

/-! ### Codes and the ranges they keep (Enumerations) -/

theorem LineState.code_le (x : LineState) : x.code ≤ 8 := by
  cases x <;> simp [LineState.code]

theorem ResetKind.code_le (x : ResetKind) : x.code ≤ 3 := by
  cases x <;> simp [ResetKind.code]

theorem HoldState.code_le (x : HoldState) : x.code ≤ 2 := by
  cases x <;> simp [HoldState.code]

/-- The formats give no code of STRAP_FAULT. -/
theorem StationState.code_eq {x : StationState} (running : x ≠ .strapFault) :
    x.code = if x = .starting then 0 else if x = .awaitingConfig then 1 else 2 := by
  cases x <;> simp_all [StationState.code]

/-- R91: the census counts the station's own sessions. -/
theorem State.tally_le_census (s : State) : s.tally ≤ s.census := Nat.le_add_right _ _

/-! ### The body of STATUS DATA (R173) -/

theorem Line.length_statusBytes (l : Line) : l.statusBytes.length = 4 := by
  simp [Line.statusBytes]

theorem Line.statusBytes_fields {l : Line} (rest : List Byte) (speedClass : l.speedClass < 4)
    (framing : l.framingErrors < 256) (overruns : l.receiveOverruns < 256) (discards : l.outputDiscards < 256) :
    fieldOf (l.statusBytes ++ rest) 0 1 = 16 * l.state.code + l.speedClass ∧
    fieldOf (l.statusBytes ++ rest) 1 1 = l.framingErrors ∧ fieldOf (l.statusBytes ++ rest) 2 1 = l.receiveOverruns ∧
    fieldOf (l.statusBytes ++ rest) 3 1 = l.outputDiscards := by
  have code := l.state.code_le
  simp only [Line.statusBytes, List.append_assoc, fieldOf_bytesOf_append, fieldOf_bytesOf_append_of_le, Nat.reduceLeDiff,
    Nat.reduceSub]
  omega

section
variable {part : Nat} {s : State}

theorem length_statusBody (within : part ≤ 1) : (statusBody part s).length = 30 := by
  have four : ((s.lines.toList.drop (4 * part)).take 4).length = 4 := by simp; omega
  have entries : (((s.lines.toList.drop (4 * part)).take 4).flatMap Line.statusBytes).length = 4 * 4 := by
    rw [List.length_flatMap, List.map_congr_left fun l _ => l.length_statusBytes, List.map_const', List.sum_replicate, four]
    rfl
  simp only [statusBody, List.length_append, length_bytesOf, entries]

theorem statusBody_fields (part : Nat) (s : State) :
    fieldOf (statusBody part s) 0 1 = part % 256 ∧
    fieldOf (statusBody part s) 1 1 =
      (s.station.state.code * 64 + s.station.resetCause.code * 16 + s.store.hold.code * 4 +
        (if s.supply.state = .low then 2 else 0)) % 256 ∧
    fieldOf (statusBody part s) 2 1 = (s.own % 16 + (if s.station.eightLines then 16 else 0)) % 256 ∧
    fieldOf (statusBody part s) 3 1 = s.census % 256 ∧ fieldOf (statusBody part s) 4 1 = s.tally % 256 ∧
    fieldOf (statusBody part s) 5 2 = migrationField s.store.migration % 65536 ∧
    fieldOf (statusBody part s) 7 3 = s.home.unbilled % 16777216 ∧
    fieldOf (statusBody part s) 10 2 = s.meter.overflow % 65536 ∧
    fieldOf (statusBody part s) 12 2 = s.station.outputDiscards % 65536 := by
  simp only [statusBody, List.append_assoc, fieldOf_bytesOf_append, fieldOf_bytesOf_append_of_le, Nat.reduceLeDiff,
    Nat.reduceSub, Nat.reducePow, and_self]

/-- R173: the entries of the four lines of the part follow the 14 bytes of the station. -/
theorem fieldOf_statusBody_line {j : Nat} {l : Fin 8} (four : j < 4) (line : l.val = 4 * part + j) :
    ∃ rest, ∀ i len, fieldOf (statusBody part s) (14 + 4 * j + i) len = fieldOf (s.lines[l].statusBytes ++ rest) i len := by
  have entry : ((s.lines.toList.drop (4 * part)).take 4)[j]? = some s.lines[l] := by
    simp [four, ← line]
  refine ⟨(((s.lines.toList.drop (4 * part)).take 4).drop (j + 1)).flatMap Line.statusBytes, fun i len => ?_⟩
  rw [← fieldOf_flatMap Line.length_statusBytes entry, statusBody, fieldOf_append_of_le (by simp; omega)]
  congr 1
  simp
  omega

end

/-! ### STATUS READ taken (R173) -/

theorem exec_statusRead_of_takesNow {b : List Byte} {s : State} (h : s.takesNow (.command .statusRead b)) :
    exec (.statusRead b) s = .next (takeStatusRead b (s.taking (.command .statusRead b))) :=
  congrArg Host.Outcome.next (takeHanded_of_takesNow (takeStatusRead b) h)

theorem takeStatusRead_of_badPart {b : List Byte} {s : State} (bad : b.length ≠ 1 ∨ 1 < fieldOf b 0 1) :
    takeStatusRead b s = offerResult .statusRead .badField [] s := by
  have unread : statusPartOf b = none := if_neg (by omega)
  rw [takeStatusRead, unread]

theorem takeStatusRead_of_part {part : Nat} {s : State} (within : part ≤ 1) :
    takeStatusRead (bytesOf 1 part) s = offerReply .statusData (statusBody part s) s := by
  have read : fieldOf (bytesOf 1 part) 0 1 = part := by
    have field := fieldOf_bytesOf_append (width := 1) (n := part) (rest := [])
    rw [List.append_nil] at field
    omega
  have part_read : statusPartOf (bytesOf 1 part) = some part := by
    rw [statusPartOf, length_bytesOf, read, if_pos ⟨rfl, within⟩]
  rw [takeStatusRead, part_read]

@[simp] theorem statusBody_taking (part : Nat) (f : Handed) (s : State) :
    statusBody part (s.taking f) = statusBody part s := rfl

/-- Settles O50: the reply is STATUS DATA for a part of 0 or 1, and its fields are those that `statusBody` lays out, each within
its width. -/
theorem statusDataLayout : Obligations.StatusDataLayout := by
  refine ⟨?_, ?_⟩
  · rintro b s u taken rfl
    rw [exec_statusRead_of_takesNow taken]
    refine ⟨fun bad => by rw [takeStatusRead_of_badPart bad], ?_⟩
    rintro part within rfl
    rw [takeStatusRead_of_part within, statusBody_taking]
  · rintro part s d within running own census unbilled overflow discards rfl
    obtain ⟨hpart, hstation, hstraps, hcensus, htally, hmigration, hunbilled, hoverflow, hdiscards⟩ := statusBody_fields part s
    have tally := s.tally_le_census
    refine ⟨length_statusBody within, by omega, ?_, by rw [hstraps]; grind, by omega, by omega, ?_, ?_, by omega, by omega,
      by omega, ?_⟩
    · have state := StationState.code_eq running
      have cause := s.station.resetCause.code_le
      have hold := s.store.hold.code_le
      rw [hstation, Nat.mod_eq_of_lt (by grind), state, Nat.mul_comm 64, Nat.mul_comm 16, Nat.mul_comm 4]
      refine congrArg₂ _ (congrArg₂ _ (congrArg₂ _ rfl ?_) ?_) ?_
      · cases s.station.resetCause <;> rfl
      · cases s.store.hold <;> rfl
      · cases s.supply.state <;> rfl
    · intro idle
      rw [hmigration, idle]
      rfl
    · intro m migrating pointer
      rw [hmigration, migrating, migrationField]
      omega
    · intro j l four line speedClass framing overruns dropped
      obtain ⟨rest, entry⟩ := fieldOf_statusBody_line (s := s) four line
      rw [show 15 + 4 * j = 14 + 4 * j + 1 by omega, show 16 + 4 * j = 14 + 4 * j + 2 by omega,
        show 17 + 4 * j = 14 + 4 * j + 3 by omega, entry, entry, entry, ← Nat.add_zero (14 + 4 * j), entry]
      exact Line.statusBytes_fields rest speedClass framing overruns dropped

end Sys2Proof.Machine
end

section
/-! Faults (11_faults_supply_and_start_up.md): the bodies of the three fault commands, refused or read back as sent, and each
command as an equation of its `take…` function for either finding (R181 to R184). -/

namespace Sys2Proof

/-! ### Flags in a body (10_rack_bus.md, Formats) -/

theorem flagOf_eq_none_iff (n : Nat) : flagOf n = none ↔ 1 < n := by
  unfold flagOf
  split_ifs <;> simp <;> omega

/-- A flag is a number of one byte, so the fields of a body that holds flags are read like the fields of any other. -/
theorem flagByte_eq_bytesOf (b : Bool) : flagByte b = bytesOf 1 b.toNat := by
  cases b <;> rfl

theorem flagOf_toNat (b : Bool) : flagOf b.toNat = some b := by
  cases b <;> rfl

/-- The last field of a body. -/
theorem fieldOf_bytesOf (width n : Nat) : fieldOf (bytesOf width n) 0 width = n % 256 ^ width := by
  rw [← fieldOf_bytesOf_append (rest := []), List.append_nil]

end Sys2Proof

namespace Sys2Proof.Machine

/-! ### Severities and actions (Enumerations) -/

theorem severityOf_eq_none_iff (n : Nat) : severityOf n = none ↔ 2 < n := by
  unfold severityOf
  split <;> simp
  grind

theorem actionOf_eq_none_iff (n : Nat) : actionOf n = none ↔ 2 < n := by
  unfold actionOf
  split <;> simp
  grind

theorem Severity.code_lt (v : Severity) : v.code < 3 := by
  cases v <;> simp [Severity.code]

theorem severityOf_code (v : Severity) : severityOf v.code = some v := by
  cases v <;> rfl

/-! ### Bodies that are refused (R182 to R184) -/

section
variable (b : List Byte)

theorem faultReadOf_eq_none_iff : faultReadOf b = none ↔ b.length ≠ 1 ∨ 2 < fieldOf b 0 1 := by
  rw [← severityOf_eq_none_iff, faultReadOf]
  split_ifs with long <;> simp [long]

/-- R183: one flag above 1 refuses the whole command. -/
theorem faultClearOf_eq_none_iff : faultClearOf b = none ↔ b.length ≠ 4 ∨ ∃ i < 4, 1 < fieldOf b i 1 := by
  simp only [← flagOf_eq_none_iff, faultClearOf]
  split_ifs with long
  · simp only [long, ne_eq, not_true_eq_false, false_or]
    obtain corrected | ⟨c, corrected⟩ := (flagOf (fieldOf b 0 1)).eq_none_or_eq_some
    · exact iff_of_true (by rw [corrected]) ⟨0, by decide, corrected⟩
    obtain degraded | ⟨d, degraded⟩ := (flagOf (fieldOf b 1 1)).eq_none_or_eq_some
    · exact iff_of_true (by rw [corrected, degraded]) ⟨1, by decide, degraded⟩
    obtain failing | ⟨f, failing⟩ := (flagOf (fieldOf b 2 1)).eq_none_or_eq_some
    · exact iff_of_true (by rw [corrected, degraded, failing]) ⟨2, by decide, failing⟩
    obtain counter | ⟨k, counter⟩ := (flagOf (fieldOf b 3 1)).eq_none_or_eq_some
    · exact iff_of_true (by rw [corrected, degraded, failing, counter]) ⟨3, by decide, counter⟩
    refine iff_of_false (by simp [corrected, degraded, failing, counter]) ?_
    rintro ⟨i, below, unread⟩
    interval_cases i <;> simp_all
  · simp [long]

/-- R184: one action above 2 refuses the whole command. -/
theorem faultSetupOf_eq_none_iff :
    faultSetupOf b = none ↔ b.length ≠ 7 ∨ ∃ i, 4 ≤ i ∧ i < 7 ∧ 2 < fieldOf b i 1 := by
  simp only [← actionOf_eq_none_iff, faultSetupOf]
  split_ifs with long
  · simp only [long, ne_eq, not_true_eq_false, false_or]
    obtain corrected | ⟨c, corrected⟩ := (actionOf (fieldOf b 4 1)).eq_none_or_eq_some
    · exact iff_of_true (by rw [corrected]) ⟨4, by decide, by decide, corrected⟩
    obtain degraded | ⟨d, degraded⟩ := (actionOf (fieldOf b 5 1)).eq_none_or_eq_some
    · exact iff_of_true (by rw [corrected, degraded]) ⟨5, by decide, by decide, degraded⟩
    obtain failing | ⟨f, failing⟩ := (actionOf (fieldOf b 6 1)).eq_none_or_eq_some
    · exact iff_of_true (by rw [corrected, degraded, failing]) ⟨6, by decide, by decide, failing⟩
    refine iff_of_false (by simp [corrected, degraded, failing]) ?_
    rintro ⟨i, low, high, unread⟩
    interval_cases i <;> simp_all
  · simp [long]

end

/-! ### Bodies read back as sent -/

theorem faultReadOf_bytesOf (v : Severity) : faultReadOf (bytesOf 1 v.code) = some v := by
  have code := v.code_lt
  rw [faultReadOf, length_bytesOf, if_pos rfl, fieldOf_bytesOf, Nat.mod_eq_of_lt (by omega), severityOf_code]

theorem faultClearOf_flagBytes (c d f k : Bool) :
    faultClearOf (flagByte c ++ flagByte d ++ flagByte f ++ flagByte k) =
      some { corrected := c, degraded := d, failing := f, counter := k } := by
  have fits (x : Bool) : x.toNat % 256 = x.toNat := Nat.mod_eq_of_lt (by have := x.toNat_lt; omega)
  simp [faultClearOf, flagByte_eq_bytesOf, fieldOf_bytesOf_append, fieldOf_bytesOf_append_of_le, fieldOf_bytesOf, fits,
    flagOf_toNat]

theorem faultSetupOf_bytesOf {masks selected : KindSet} {x y z : Nat} {c d f : Action} (corrected : actionOf x = some c)
    (degraded : actionOf y = some d) (failing : actionOf z = some f) :
    faultSetupOf (bytesOf 2 masks.toNat ++ bytesOf 2 selected.toNat ++ bytesOf 1 x ++ bytesOf 1 y ++ bytesOf 1 z) =
      some { masks := masks, selected := selected, corrected := c, degraded := d, failing := f } := by
  have fits {n : Nat} {a : Action} (action : actionOf n = some a) : n % 256 = n := by
    have := mt (actionOf_eq_none_iff n).2 (by simp [action])
    omega
  have whole (set : KindSet) : set.toNat % 65536 = set.toNat := Nat.mod_eq_of_lt set.isLt
  simp [faultSetupOf, fieldOf_bytesOf_append, fieldOf_bytesOf_append_of_le, fieldOf_bytesOf, whole, fits corrected,
    fits degraded, fits failing, corrected, degraded, failing]

@[simp] theorem State.taking_faults (f : Handed) (s : State) : (s.taking f).faults = s.faults := rfl

/-! ### FAULT READ (R181, R182) -/

theorem exec_faultRead_of_takesNow {b : List Byte} {s : State} (h : s.takesNow (.command .faultRead b)) :
    exec (.faultRead b) s = .next (takeFaultRead b (s.taking (.command .faultRead b))) :=
  congrArg Host.Outcome.next (takeHanded_of_takesNow (takeFaultRead b) h)

theorem takeFaultRead_of_badBody {b : List Byte} {s : State} (bad : b.length ≠ 1 ∨ 2 < fieldOf b 0 1) :
    takeFaultRead b s = offerResult .faultRead .badField [] s := by
  rw [takeFaultRead, (faultReadOf_eq_none_iff b).2 bad]

theorem takeFaultRead_of_severity (v : Severity) (s : State) :
    takeFaultRead (bytesOf 1 v.code) s =
      offerReply .faultData (faultDataBody v (s.faults.severityLog v) s.faults.count s.faults.overflow) s := by
  rw [takeFaultRead, faultReadOf_bytesOf]

section
variable (v : Severity) {g : SeverityLog} (count : Nat) (overflow : Bool)

/-- R182: an empty FIRST record is 26 zeros, its flag among them. -/
theorem faultDataBody_of_noFirst (empty : g.first = none) :
    faultDataBody v g count overflow =
      bytesOf 1 v.code ++ List.replicate 26 0 ++
        (bytesOf 2 g.later.toNat ++ bytesOf 1 count ++ [if overflow then 1 else 0]) := by
  have zeros : [0] ++ bytesOf 1 0 ++ bytesOf 3 0 ++ Subject.blank.bytes = List.replicate 26 0 := by decide
  simp only [faultDataBody, empty]
  rw [zeros, List.append_assoc, List.append_assoc, ← List.append_assoc (bytesOf 2 _), flagByte]

theorem faultDataBody_of_first {r : FirstRecord} (first : g.first = some r) :
    faultDataBody v g count overflow =
      bytesOf 1 v.code ++ [1] ++ bytesOf 1 r.kind.code ++ bytesOf 3 r.time ++ r.subject.bytes ++
        (bytesOf 2 g.later.toNat ++ bytesOf 1 count ++ [if overflow then 1 else 0]) := by
  simp only [faultDataBody, first, flagByte, List.append_assoc]

end

/-! ### FAULT CLEAR (R183) -/

theorem exec_faultClear_of_takesNow {b : List Byte} {s : State} (h : s.takesNow (.command .faultClear b)) :
    exec (.faultClear b) s = .next (takeFaultClear b (s.taking (.command .faultClear b))) :=
  congrArg Host.Outcome.next (takeHanded_of_takesNow (takeFaultClear b) h)

theorem takeFaultClear_of_badBody {b : List Byte} {s : State} (bad : b.length ≠ 4 ∨ ∃ i < 4, 1 < fieldOf b i 1) :
    takeFaultClear b s = offerResult .faultClear .badField [] s := by
  rw [takeFaultClear, (faultClearOf_eq_none_iff b).2 bad]

theorem takeFaultClear_of_flags (c d f k : Bool) (s : State) :
    takeFaultClear (flagByte c ++ flagByte d ++ flagByte f ++ flagByte k) s =
      offerResult .faultClear .done [] (settlePermission
        { s with faults := s.faults.clear { corrected := c, degraded := d, failing := f, counter := k } }) := by
  rw [takeFaultClear, faultClearOf_flagBytes]

/-! ### FAULT SETUP (R184) -/

theorem exec_faultSetup_of_takesNow {b : List Byte} {s : State} (h : s.takesNow (.command .faultSetup b)) :
    exec (.faultSetup b) s = .next (takeFaultSetup b (s.taking (.command .faultSetup b))) :=
  congrArg Host.Outcome.next (takeHanded_of_takesNow (takeFaultSetup b) h)

theorem takeFaultSetup_of_badBody {b : List Byte} {s : State}
    (bad : b.length ≠ 7 ∨ ∃ i, 4 ≤ i ∧ i < 7 ∧ 2 < fieldOf b i 1) :
    takeFaultSetup b s = offerResult .faultSetup .badField [] s := by
  rw [takeFaultSetup, (faultSetupOf_eq_none_iff b).2 bad]

theorem takeFaultSetup_of_actions {masks selected : KindSet} {x y z : Nat} {c d f : Action} (corrected : actionOf x = some c)
    (degraded : actionOf y = some d) (failing : actionOf z = some f) (s : State) :
    takeFaultSetup (bytesOf 2 masks.toNat ++ bytesOf 2 selected.toNat ++ bytesOf 1 x ++ bytesOf 1 y ++ bytesOf 1 z) s =
      offerResult .faultSetup .done [] (settlePermission
        { s with faults :=
            s.faults.setup { masks := masks, selected := selected, corrected := c, degraded := d, failing := f } }) := by
  rw [takeFaultSetup, faultSetupOf_bytesOf corrected degraded failing]

/-- Settles O52, command by command: the body is refused, or it reads back as sent and the fault log alone says the reply or
becomes what the command makes of it. -/
theorem faultCommandFindings : Obligations.FaultCommandFindings := by
  intro b s
  refine ⟨?_, ?_, ?_⟩
  · rintro taken u rfl
    rw [exec_faultRead_of_takesNow taken]
    refine ⟨fun bad => by rw [takeFaultRead_of_badBody bad], ?_⟩
    rintro v g rest rfl rfl rfl
    rw [takeFaultRead_of_severity, State.taking_faults]
    exact ⟨fun empty => by rw [faultDataBody_of_noFirst _ _ _ empty],
      fun r first => by rw [faultDataBody_of_first _ _ _ first]⟩
  · rintro taken u rfl
    rw [exec_faultClear_of_takesNow taken]
    refine ⟨fun bad => by rw [takeFaultClear_of_badBody bad], ?_⟩
    rintro c d f k emptied rfl hemptied
    obtain rfl : emptied = SeverityLog.clearIf := funext₂ hemptied
    rw [takeFaultClear_of_flags]
    rfl
  · rintro taken u rfl
    rw [exec_faultSetup_of_takesNow taken]
    refine ⟨fun bad => by rw [takeFaultSetup_of_badBody bad], ?_⟩
    rintro masks selected c d f code noAction notice busyOut rfl
    have actionOf_code (a : Action) : actionOf (code a) = some a := by
      cases a <;> simp only [noAction, notice, busyOut, actionOf]
    rw [takeFaultSetup_of_actions (actionOf_code c) (actionOf_code d) (actionOf_code f)]
    rfl

end Sys2Proof.Machine
end

section
/-! What every step keeps: the invariants of `Safety.lean` that stand each on its own are gathered in one relation of two
states, `Keeps`. An update of one place keeps them when it keeps those that speak of that place, and so one lemma for each
operation is enough for all of them. -/

namespace Sys2Proof.Machine

/-! ### One place -/

/-- While a password is typed on the line its digest is that of the characters typed (R39). -/
def Line.digestAgrees (x : Line) : Prop :=
  ∀ d : Dialogue, x.dialogue = some d → d.phase = .password → d.step = .entry → d.digest = digestOf d.entry

/-- The rings of the line have their places (R22, R30). -/
def Line.ringsFit (x : Line) : Prop := x.rxRing.length ≤ 32 ∧ x.txCount ≤ 64

/-- The counts of a session record have their ranges (R102, R103, R106). -/
def Session.countsFit (x : Session) : Prop := x.total ≤ 16777215 ∧ x.remainder ≤ 999 ∧ x.postCounter ≤ 59

/-- What a line unit's change from `x` to `y` keeps. `permitted` is answering permission (R3), and `typing` is false where the
digest of the password entry is not asked to agree. -/
structure LineKeeps (permitted typing : Bool) (x y : Line) : Prop where
  shaped : x.shaped → y.shaped
  rings : x.ringsFit → y.ringsFit
  digest : typing = true → x.digestAgrees → y.digestAgrees
  ringing : y.state = .ringing → x.state = .ringing ∨ permitted = true

/-- The tests of which the transmit queue passes at most one entry each (R167, R169). -/
inductive QueueTest : (Entry → Bool) → Prop where
  | flying : QueueTest (fun e => e.inFlight)
  | charge (h : Handle) : QueueTest (Entry.chargesFor h)
  | tally : QueueTest Entry.isTally
  | data (l : Fin 8) : QueueTest (Entry.dataOn l)

/-- What a change of the transmit queue from `q` to `r` keeps. -/
structure QueueKeeps (q r : List Entry) : Prop where
  fits : q.length ≤ 24 → r.length ≤ 24
  once : ∀ p, QueueTest p → q.countP p ≤ 1 → r.countP p ≤ 1

/-- What an operation from `s` to `t` keeps: each invariant on its own. The digest is asked for every line but `free`. -/
structure Keeps (free : Option (Fin 8)) (s t : State) : Prop where
  words : s.wordsCanonical → t.wordsCanonical
  queue : QueueKeeps s.bus.queue t.bus.queue
  ringing : s.ringingPermitted → t.ringingPermitted
  shaped : s.linesShaped → t.linesShaped
  rings : s.ringsFit → t.ringsFit
  digests : (∀ l, free ≠ some l → s.lines[l].digestAgrees) → ∀ l, free ≠ some l → t.lines[l].digestAgrees
  home : s.homeFits → t.homeFits
  census : s.ownCensusAbsent → t.ownCensusAbsent
  faultCount : s.faultCountFits → t.faultCountFits
  homeList : s.homeListConsistent → t.homeListConsistent
  meter : s.meterFits → t.meterFits
  within : s.withinStore → t.withinStore

/-! ### The transmit queue -/

namespace QueueKeeps
variable {q r : List Entry}

theorem refl (q : List Entry) : QueueKeeps q q := ⟨id, fun _ _ => id⟩

theorem trans {p : List Entry} (h : QueueKeeps p q) (g : QueueKeeps q r) : QueueKeeps p r :=
  ⟨g.fits ∘ h.fits, fun p hp => g.once p hp ∘ h.once p hp⟩

theorem of_sublist (h : r.Sublist q) : QueueKeeps q r :=
  ⟨h.length_le.trans, fun _ _ => (h.countP_le).trans⟩

/-- An entry of a kind that the queue does not hold joins where there is room. -/
theorem append {e : Entry} (room : q.length < 24) (new : ∀ p, QueueTest p → p e = true → ∀ x ∈ q, p x = false) :
    QueueKeeps q (q ++ [e]) := by
  refine ⟨fun _ => by simpa using room, fun p hp h => ?_⟩
  cases he : p e with
  | false => simpa [List.countP_append, List.countP_cons, he] using h
  | true =>
    have none : q.countP p = 0 := List.countP_eq_zero.2 fun x hx => by simp [new p hp he x hx]
    simp [List.countP_append, he, none]

/-- Entries changed in place stay of their kinds, and none takes off. -/
theorem map {f : Entry → Entry} (same : ∀ p, QueueTest p → ∀ e ∈ q, p (f e) = true → p e = true) :
    QueueKeeps q (q.map f) := by
  refine ⟨fun h => by simpa using h, fun p hp h => ?_⟩
  rw [List.countP_map]
  exact (List.countP_mono_left fun e he h => same p hp e he h).trans h

end QueueKeeps

/-- A payload that is not of the kinds that the queue holds once. -/
def Payload.plain (y : Payload) : Prop := (∀ c o, y ≠ .charge c o) ∧ (∀ t, y ≠ .tally t) ∧ ∀ l h f, y ≠ .data l h f

/-- A WAITING entry of such a payload passes no test of the queue. -/
theorem QueueTest.fresh_eq_false {p : Entry → Bool} (hp : QueueTest p) (a : Nat) {y : Payload}
    (plain : y.plain) : p (Entry.fresh a y) = false := by
  obtain ⟨noCharge, noTally, noData⟩ := plain
  cases hp <;> cases y <;>
    simp_all [Entry.fresh, Entry.chargesFor, Entry.isTally, Entry.dataOn]

theorem QueueKeeps.append_plain {q : List Entry} {a : Nat} {y : Payload} (room : q.length < 24) (plain : y.plain) :
    QueueKeeps q (q ++ [Entry.fresh a y]) :=
  .append room fun _ hp he => absurd he (by simp [hp.fresh_eq_false a plain])

@[simp] theorem Payload.plain_claim (c : ClaimBody) : (Payload.claim c).plain := by simp [Payload.plain]
@[simp] theorem Payload.plain_grant (g : GrantBody) : (Payload.grant g).plain := by simp [Payload.plain]
@[simp] theorem Payload.plain_deny (d : DenyBody) : (Payload.deny d).plain := by simp [Payload.plain]
@[simp] theorem Payload.plain_cutoff (c : CutoffBody) : (Payload.cutoff c).plain := by simp [Payload.plain]
@[simp] theorem Payload.plain_refuse (r : RefuseBody) : (Payload.refuse r).plain := by simp [Payload.plain]
@[simp] theorem Payload.plain_detach (d : DetachBody) : (Payload.detach d).plain := by simp [Payload.plain]
@[simp] theorem Payload.plain_reply (k : ReplyKind) (b : List Byte) : (Payload.reply k b).plain := by simp [Payload.plain]

theorem State.room_iff (s : State) : s.room = true ↔ s.bus.queue.length < 24 := by simp [State.room]

/-- Waiting entries rewritten without a change of handle, line or kind keep what the queue keeps. -/
theorem QueueKeeps.rewrite {q : List Entry} (p : Entry → Bool) {f : Payload → Payload}
    (same : ∀ t, QueueTest t → ∀ e : Entry, t { e with payload := f e.payload } = t e) :
    QueueKeeps q (q.map (fun e => if p e && !e.inFlight then { e with payload := f e.payload } else e)) := by
  refine .map fun t ht e _ => ?_
  split
  · rw [same t ht]; exact id
  · exact id

/-- What an offer of a CHARGE that meets no other finds (R87, R107). -/
theorem State.no_charge_of_nothing {s : State} {h : Handle} (hn : s.holdingCharge h = .nothing) :
    ∀ e ∈ s.bus.queue, Entry.chargesFor h e = false := by
  rcases holdingCharge_cases h s with ⟨none, _⟩ | ⟨_, he⟩ | ⟨e, _, _, _, he⟩
  · exact none
  · rw [he] at hn; cases hn
  · rw [he] at hn; split at hn <;> cases hn

theorem State.none_of_holding_nothing {s : State} {p : Entry → Bool} (hn : s.holding p = .nothing) :
    ∀ e ∈ s.bus.queue, p e = false := by
  unfold State.holding at hn
  split at hn
  · next none => simpa using List.find?_eq_none.1 none
  · split at hn <;> cases hn

/-! ### Lines -/

namespace LineKeeps
variable {permitted typing : Bool} {x y : Line}

theorem refl : LineKeeps permitted typing x x := ⟨id, id, fun _ => id, .inl⟩

/-- A line whose state, slot, dialogue and timer are as before keeps all but the rings of itself. -/
theorem of_same (state : y.state = x.state) (slot : y.servedSlot = x.servedSlot) (dialogue : y.dialogue = x.dialogue)
    (timer : y.timer = x.timer) (rings : x.ringsFit → y.ringsFit) : LineKeeps permitted typing x y where
  shaped := by simp only [Line.shaped, state, slot, dialogue, timer]; exact id
  rings := rings
  digest _ := by simp only [Line.digestAgrees, dialogue]; exact id
  ringing h := .inl (state ▸ h)

/-- A line whose state and slot are as before, with its dialogue changed. -/
theorem of_dialogue {f : Dialogue → Dialogue}
    (agrees : typing = true → x.digestAgrees → ({ x with dialogue := x.dialogue.map f } : Line).digestAgrees) :
    LineKeeps permitted typing x { x with dialogue := x.dialogue.map f } where
  shaped := by simp only [Line.shaped, Option.isSome_map]; exact id
  rings := id
  digest := agrees
  ringing := .inl

end LineKeeps

theorem Line.digestAgrees_of_none {x : Line} (h : x.dialogue = none) : x.digestAgrees := by
  intro d hd; rw [h] at hd; cases hd

/-- The digest still agrees where a change leaves phase, step, entry and digest alone. -/
theorem Line.digestAgrees_map {x : Line} {f : Dialogue → Dialogue}
    (same : ∀ d, (f d).phase = .password → (f d).step = .entry →
      d.phase = .password ∧ d.step = .entry ∧ (d.digest = digestOf d.entry → (f d).digest = digestOf (f d).entry))
    (h : x.digestAgrees) (y : Line) (hy : y.dialogue = x.dialogue.map f) : y.digestAgrees := by
  intro d' hd' hp hs
  rw [hy] at hd'
  obtain ⟨d, hd, rfl⟩ := Option.map_eq_some_iff.1 hd'
  obtain ⟨hp', hs', hf⟩ := same d hp hs
  exact hf (h d hd hp' hs')

/-! ### Updates of one place -/

namespace Keeps
variable {free : Option (Fin 8)} {s t u : State}

theorem refl (s : State) : Keeps free s s :=
  ⟨id, .refl _, id, id, id, id, id, id, id, id, id, id⟩

theorem trans (h : Keeps free s t) (g : Keeps free t u) : Keeps free s u :=
  ⟨g.words ∘ h.words, h.queue.trans g.queue, g.ringing ∘ h.ringing, g.shaped ∘ h.shaped, g.rings ∘ h.rings,
   g.digests ∘ h.digests, g.home ∘ h.home, g.census ∘ h.census, g.faultCount ∘ h.faultCount, g.homeList ∘ h.homeList,
   g.meter ∘ h.meter, g.within ∘ h.within⟩

/-- `trans` with the later operation first, which says what state the earlier one left. -/
theorem after (g : Keeps free t u) (h : Keeps free s t) : Keeps free s u := h.trans g

theorem foldl {α : Type} {f : State → α → State} (hf : ∀ a s, Keeps free s (f s a)) (xs : List α) (s : State) :
    Keeps free s (xs.foldl f s) := by
  induction xs generalizing s with
  | nil => exact refl s
  | cons a xs ih => exact (hf a s).trans (ih _)

theorem setLines (v : Vector Line 8)
    (h : ∀ l : Fin 8, LineKeeps s.permission (decide (free ≠ some l)) s.lines[l] v[l]) :
    Keeps free s { s with lines := v } where
  words := id
  queue := .refl _
  ringing hr l hl := ((h l).ringing hl).elim (hr l) id
  shaped hs l := (h l).shaped (hs l)
  rings hs l := (h l).rings (hs l)
  digests hd l hl := (h l).digest (by simpa using hl) (hd l hl)
  home := id
  census := id
  faultCount := id
  homeList := id
  meter := id
  within := id

theorem setLine {l : Fin 8} {x : Line} (h : LineKeeps s.permission (decide (free ≠ some l)) s.lines[l] x) :
    Keeps free s (s.setLine l x) := by
  refine setLines _ fun m => ?_
  by_cases e : l = m
  · subst e; simpa using h
  · have : l.val ≠ m.val := fun e' => e (Fin.ext e')
    simpa [this] using LineKeeps.refl

theorem modLine {l : Fin 8} {f : Line → Line} (h : LineKeeps s.permission (decide (free ≠ some l)) s.lines[l] (f s.lines[l])) :
    Keeps free s (s.modLine l f) := setLine h

theorem setQueue {q : List Entry} (h : QueueKeeps s.bus.queue q) : Keeps free s (s.setQueue q) :=
  ⟨id, h, id, id, id, id, id, id, id, id, id, id⟩

theorem joinQueue {e : Entry} (h : QueueKeeps s.bus.queue (s.bus.queue ++ [e])) : Keeps free s (s.joinQueue e) := setQueue h

theorem rewriteWaiting (p : Entry → Bool) {f : Payload → Payload}
    (same : ∀ t, QueueTest t → ∀ e : Entry, t { e with payload := f e.payload } = t e) :
    Keeps free s (s.rewriteWaiting p f) := setQueue (.rewrite p same)

theorem removeFirst (p : Entry → Bool) : Keeps free s (s.removeFirst p) := setQueue (.of_sublist List.eraseP_sublist)

theorem removeYoungest (p : Entry → Bool) : Keeps free s (s.removeYoungest p) :=
  setQueue (.of_sublist (by simpa using (List.eraseP_sublist (p := p) (l := s.bus.queue.reverse)).reverse))

theorem setTable {T : SessionTable}
    (h : s.meterFits → ∀ (k : Fin 12) (x : Session), T.slots[k].session = some x → x.countsFit) :
    Keeps free s { s with table := T } :=
  ⟨id, .refl _, id, id, id, id, id, id, id, id, fun hm => ⟨hm.1, hm.2.1, h hm⟩, id⟩

/-- The table with its slots as they were. -/
theorem setTable_sameSlots {T : SessionTable} (h : T.slots = s.table.slots := by rfl) : Keeps free s { s with table := T } :=
  setTable fun hm => by rw [h]; exact hm.2.2

theorem setSlot {k : Fin 12} {x : Slot} (h : s.meterFits → ∀ y, x.session = some y → y.countsFit) :
    Keeps free s (s.setSlot k x) := by
  refine setTable fun hm j y hy => ?_
  by_cases e : k = j
  · subst e; exact h hm y (by simpa using hy)
  · have : k.val ≠ j.val := fun e' => e (Fin.ext e')
    exact hm.2.2 j y (by simpa [this] using hy)

theorem modSlot {k : Fin 12} {f : Slot → Slot}
    (h : s.meterFits → ∀ y, (f s.table.slots[k]).session = some y → y.countsFit) : Keeps free s (s.modSlot k f) := setSlot h

theorem modSession {k : Fin 12} {f : Session → Session} (h : ∀ x, x.countsFit → (f x).countsFit) :
    Keeps free s (s.modSession k f) := by
  refine modSlot fun hm y hy => ?_
  obtain ⟨x, hx, rfl⟩ := Option.map_eq_some_iff.1 hy
  exact h x (hm.2.2 k x hx)

theorem setMeter {m : Meter}
    (h : s.meterFits → (∀ i : Fin 64, m.tariffs[i].rate ≤ 4095 ∧ m.tariffs[i].surcharge ≤ 255) ∧ m.overflow ≤ 65535) :
    Keeps free s { s with meter := m } :=
  ⟨id, .refl _, id, id, id, id, id, id, id, id, fun hm => ⟨(h hm).1, (h hm).2, hm.2.2⟩, id⟩

/-- What a change of the home keeps: its lists, their consistency, its ranges. -/
theorem setHome {h : Home} (lists : s.homeFits → (s.setHome h).homeFits)
    (consistent : s.homeListConsistent → (s.setHome h).homeListConsistent)
    (within : s.withinStore → (s.setHome h).withinStore) : Keeps free s (s.setHome h) :=
  ⟨id, .refl _, id, id, id, id, lists, id, id, consistent, id, within⟩

theorem setStore {t : Store} (words : s.wordsCanonical → t.words.wf = true)
    (within : s.withinStore → (s.setStore t).withinStore) : Keeps free s (s.setStore t) :=
  ⟨words, .refl _, id, id, id, id, id, id, id, id, id, within⟩

/-- A store change of which the conditions on words and ranges know nothing. -/
theorem setStore_aside {t : Store} (words : t.words = s.store.words := by rfl)
    (pointer : t.scrubPointer = s.store.scrubPointer := by rfl) (migration : t.migration = s.store.migration := by rfl)
    (hostWork : t.hostWork = s.store.hostWork := by rfl) :
    Keeps free s (s.setStore t) := by
  refine setStore (fun h => by rw [words]; exact h) fun h => ?_
  simp only [State.withinStore, State.setStore_store, State.setStore_home, State.setStore_station, pointer, migration, hostWork]
  exact h

/-- A change of the fault log, its count within bounds, and permission derived anew (R3, R178). -/
theorem setFaults {f : FaultLog} (count : s.faultCountFits → f.count ≤ 127) :
    Keeps free s (settlePermission { s with faults := f }) := by
  have ringing := settlePermission_ringing { s with faults := f }
  rcases settlePermission_cases { s with faults := f } with ⟨_, he⟩ | ⟨_, he⟩
  · rw [he] at ringing ⊢
    exact ⟨id, .refl _, fun _ => ringing, id, id, id, id, id, count, id, id, id⟩
  · rw [he] at ringing ⊢
    have quiet (l : Fin 8) : LineKeeps s.permission (decide (free ≠ some l)) s.lines[l] (s.lines.map Line.quiet)[l] := by
      have : (s.lines.map Line.quiet)[l] = s.lines[l].quiet := by simp
      rw [this]
      unfold Line.quiet
      split
      · next h =>
        refine ⟨fun hs => ?_, id, fun _ => id, fun hr => by simp at hr⟩
        obtain ⟨slot, dialogue, -⟩ := hs
        rw [h] at slot dialogue
        exact ⟨slot, dialogue, fun hn => by simp at hn⟩
      · exact .refl
    have lines := setLines (free := free) _ quiet
    exact ⟨id, .refl _, fun _ => ringing, lines.shaped, lines.rings, lines.digests, id, id, count, id, id, id⟩

/-- The bus with its queue and its census as they were. -/
theorem setBus {b : Bus} (queue : b.queue = s.bus.queue) (census : b.census = s.bus.census) :
    Keeps free s { s with bus := b } where
  words := id
  queue := queue ▸ .refl _
  ringing := id
  shaped := id
  rings := id
  digests := id
  home := id
  census h := by
    simp only [State.ownCensusAbsent, census]
    exact h
  faultCount := id
  homeList := id
  meter := id
  within := id

end Keeps

end Sys2Proof.Machine
end

section
/-! What every step keeps: the offers to the transmit queue, the fault log, the record store's words and the account home. -/

namespace Sys2Proof.Machine

theorem FaultLog.take_count {f : FaultLog} (h : f.count ≤ 127) (e : FaultEvent) : (f.take e).count ≤ 127 := by
  have set (v : Severity) (l : SeverityLog) : (f.setSeverity v l).count = f.count := by cases v <;> rfl
  unfold FaultLog.take FaultLog.countEvent
  split
  · exact h
  · split
    · split
      · next lt => simpa [set] using lt
      · simp
    · rw [set]; exact h

/-- The queue as a class-1 frame leaves it that takes the place of a waiting DATA entry (R170). -/
theorem QueueKeeps.displace {q : List Entry} {p : Entry → Bool} {a : Nat} {y : Payload}
    (found : q.any p = true) (plain : y.plain) : QueueKeeps q ((q.reverse.eraseP p).reverse ++ [Entry.fresh a y]) := by
  have shorter : (q.reverse.eraseP p).length = q.length - 1 := by
    obtain ⟨e, he, hp⟩ := List.any_eq_true.1 found
    rw [List.length_eraseP_of_mem (List.mem_reverse.2 he) hp, List.length_reverse]
  have sub : (q.reverse.eraseP p).reverse.Sublist q := by
    simpa using (List.eraseP_sublist (p := p) (l := q.reverse)).reverse
  have nonempty : 0 < q.length := List.length_pos_of_mem (List.any_eq_true.1 found).choose_spec.1
  refine ⟨fun h => by simp [shorter]; omega, fun t ht h => ?_⟩
  rw [List.countP_append, List.countP_singleton, ht.fresh_eq_false a plain]
  simpa using sub.countP_le.trans h

/-- The words of a record that the store has. -/
theorem mem_recordWords_lt {index w : Nat} (h : index < 512) (hw : w ∈ recordWords index) : w < Config.storeWords := by
  simp only [recordWords, List.mem_cons, List.not_mem_nil, or_false] at hw
  show w < 2048
  omega

namespace Keeps
variable {free : Option (Fin 8)} {s : State}

/-! ### Offers that log no fault -/

theorem joinPlain {a : Nat} {y : Payload} (room : s.room = true) (plain : y.plain) :
    Keeps free s (s.joinQueue (Entry.fresh a y)) := joinQueue (.append_plain (s.room_iff.1 room) plain)

/-- A CHARGE joins where the queue holds none of its handle. -/
theorem joinCharge {a : Nat} {c : ChargeBody} {o : Option (Fin 12)} (room : s.room = true)
    (none : ∀ e ∈ s.bus.queue, Entry.chargesFor c.handle e = false) :
    Keeps free s (s.joinQueue (Entry.fresh a (.charge c o))) := by
  refine joinQueue (.append (s.room_iff.1 room) fun p hp he => ?_)
  cases hp with
  | charge h => obtain rfl : c.handle = h := by simpa [Entry.fresh, Entry.chargesFor] using he
                exact none
  | flying => cases he
  | tally => cases he
  | data l => cases he

theorem offerFinal (k : Fin 12) (s : State) : Keeps free s (offerFinal k s) := by
  unfold Machine.offerFinal
  split
  · exact refl s
  · split
    · split
      · refine (rewriteWaiting _ fun t ht e => ?_).trans (modSession fun x hx => hx)
        obtain ⟨_, y, _, _⟩ := e
        cases ht <;> cases y <;> rfl
      · exact refl s
      · next nothing =>
        split
        · next room => exact (joinCharge room (State.no_charge_of_nothing nothing)).trans (modSession fun x hx => hx)
        · exact refl s
    · exact refl s

theorem joinTally (room : s.room = true) (nothing : s.holding Entry.isTally = .nothing) : Keeps free s (joinTally s) := by
  refine (joinQueue (.append (s.room_iff.1 room) fun p hp he => ?_)).trans setTable_sameSlots
  cases hp with
  | tally => exact State.none_of_holding_nothing nothing
  | flying => cases he
  | charge h => cases he
  | data l => cases he

theorem offerData (l : Fin 8) (s : State) : Keeps free s (offerData l s) := by
  unfold Machine.offerData
  split
  · next h =>
    simp only [Bool.and_eq_true, Bool.not_eq_true', List.any_eq_false] at h
    obtain ⟨⟨_, none⟩, room⟩ := h
    split
    · exact refl s
    · refine joinQueue (.append (s.room_iff.1 room) fun p hp he => ?_)
      cases hp with
      | data m => obtain rfl : l = m := by simpa [Entry.fresh, Entry.dataOn] using he
                  simpa using none
      | flying => cases he
      | charge h => cases he
      | tally => cases he
  · exact refl s

theorem offerCharge (k : Fin 12) (s : State) : Keeps free s (offerCharge k s) := by
  unfold Machine.offerCharge
  split
  · exact refl s
  · split
    · refine rewriteWaiting _ fun t ht e => ?_
      obtain ⟨_, y, _, _⟩ := e
      cases ht <;> cases y <;> rfl
    · exact refl s
    · next nothing =>
      split
      · next room => exact joinCharge room (State.no_charge_of_nothing nothing)
      · exact refl s

theorem offerZeroCharge (source : Nat) (g : GrantBody) (cause : EndCause) (s : State) :
    Keeps free s (offerZeroCharge source g cause s) := by
  unfold Machine.offerZeroCharge
  split
  · next h =>
    simp only [Bool.and_eq_true, decide_eq_true_eq] at h
    exact joinCharge h.1.2 (State.none_of_holding_nothing h.2)
  · exact refl s

theorem offerRefusable {a : Nat} {y : Payload} (plain : y.plain) (s : State) : Keeps free s (offerRefusable a y s) := by
  unfold Machine.offerRefusable
  split
  · next room => exact joinPlain room plain
  · exact refl s

/-! ### Fault events and the offers that can log one -/

theorem logWith (n : Nat) (e : FaultEvent) (s : State) : Keeps free s (logWith n e s) := by
  induction n generalizing e s with
  | zero => exact refl s
  | succ n ih =>
    have taken := setFaults (free := free) (s := s) fun h => FaultLog.take_count h e
    simp only [Machine.logWith]
    split
    · split
      · next room => exact taken.trans (joinPlain room (by simp))
      · exact taken.trans (ih _ _)
    · exact taken

theorem logFault (k : FaultKind) (x : Subject) (s : State) : Keeps free s (logFault k x s) := logWith _ _ s

theorem offerReply (k : ReplyKind) (b : List Byte) (s : State) : Keeps free s (offerReply k b s) := by
  unfold Machine.offerReply
  split
  · next room => exact joinPlain room (by simp)
  · exact logFault _ _ s

theorem offerResult (k : CommandKind) (c : ResultCode) (d : List Byte) (s : State) : Keeps free s (offerResult k c d s) :=
  offerReply _ _ s

theorem offerTally (s : State) : Keeps free s (offerTally s) := by
  unfold Machine.offerTally
  split
  · split
    · exact setTable_sameSlots
    · exact refl s
    · next nothing =>
      split
      · next room => exact joinTally room nothing
      · exact logFault _ _ s
  · exact refl s

theorem offerOwedTally (s : State) : Keeps free s (offerOwedTally s) := by
  unfold Machine.offerOwedTally
  split
  · exact (setTable_sameSlots (T := { s.table with tallyOwed := false })).trans (offerTally _)
  · exact refl s

theorem offerFreed (s : State) : Keeps free s (offerFreed s) :=
  offerFreed_induct (Keeps free s) (fun k u h => h.trans (offerFinal k u)) (fun u h => h.trans (offerOwedTally u))
    (fun l u h => h.trans (offerData l u)) s (refl s)

theorem offerClassOne {a : Nat} {y : Payload} (plain : y.plain) (s : State) : Keeps free s (offerClassOne a y s) := by
  rcases offerClassOne_cases a y s with ⟨room, he⟩ | ⟨_, found, he⟩ | ⟨_, _, he⟩ <;> rw [he]
  · exact setQueue (.append_plain room plain)
  · exact (setQueue (.displace found plain)).trans (offerFreed _)
  · exact logFault _ _ s

/-! ### Words and records -/

theorem writeData {w : Nat} (d : DataWord) (hw : w < Config.storeWords) : Keeps free s (writeData w d s) :=
  setStore (fun h => wordsCanonical_writeData d h hw) id

theorem countCorrected (w : Nat) (s : State) : Keeps free s (countCorrected w s) := by
  unfold Machine.countCorrected
  simp only
  refine (logFault _ _ _).after ?_
  split
  · exact (logFault _ _ _).after (after setStore_aside setStore_aside)
  · exact setStore_aside

theorem correctOnRead {w : Nat} (r : WordRead) (s : State) (hw : w < Config.storeWords) :
    Keeps free s (correctOnRead w r s) := by
  unfold Machine.correctOnRead
  split
  · exact (writeData _ hw).trans (countCorrected w _)
  · exact refl s

theorem correctRecord {index : Nat} (h : index < 512) (s : State) : Keeps free s (correctRecord index s) := by
  have each : ∀ (ws : List Nat) (s : State), (∀ w ∈ ws, w < Config.storeWords) →
      Keeps free s (ws.foldl (fun s w => Machine.correctOnRead w (s.store.decode w) s) s) := by
    intro ws
    induction ws with
    | nil => exact fun s _ => refl s
    | cons w ws ih =>
      intro s hw
      rw [List.foldl_cons]
      exact (correctOnRead _ s (hw w List.mem_cons_self)).trans (ih _ fun v hv => hw v (List.mem_cons_of_mem _ hv))
  unfold Machine.correctRecord
  exact each _ s fun _ => mem_recordWords_lt h

theorem writeRecord {index : Nat} (r : Record) (h : index < 512) : Keeps free s (writeRecord index r s) := by
  have hw : ∀ j < 4, 4 * index + j < Config.storeWords := by intro j hj; show 4 * index + j < 2048; omega
  simp only [Machine.writeRecord, recordWords, Record.words, List.zip_cons_cons, List.zip_nil_left, List.foldl_cons, List.foldl_nil]
  exact (writeData _ (hw 0 (by decide))).trans ((writeData _ (hw 1 (by decide))).trans
    ((writeData _ (hw 2 (by decide))).trans (writeData _ (hw 3 (by decide)))))

/-! ### Quarantine, unbilled credits and held charges -/

/-- A change of the home that leaves the session list, the detach order, the range, the backlog and the work. -/
theorem setHome_aside {h : Home} (list : h.list = s.home.list := by rfl)
    (order : h.detachOrder = s.home.detachOrder := by rfl) (first : h.first = s.home.first := by rfl)
    (count : h.count = s.home.count := by rfl) (backlog : h.backlog = s.home.backlog := by rfl)
    (work : h.work = s.home.work := by rfl)
    (quarantine : s.home.quarantine.length ≤ 8 → h.quarantine.length ≤ 8 := by exact id) :
    Keeps free s (s.setHome h) := by
  refine setHome (fun hf => ⟨by simpa [list] using hf.1, quarantine hf.2⟩) ?_ ?_
  · simp only [State.homeListConsistent, State.setHome_home, list, order, work]
    exact id
  · simp only [State.withinStore, State.setHome_home, State.setHome_store, State.setHome_station, Home.inRange, list, first,
      count, backlog, work]
    exact id

theorem listAccount (kind : FaultKind) (account word : Nat) (s : State) : Keeps free s (listAccount kind account word s) := by
  unfold Machine.listAccount Home.listingAnswer
  split
  · exact logFault _ _ s
  · next h =>
    refine (logFault _ _ _).after (setHome_aside (quarantine := fun _ => ?_))
    split at h
    · cases h
    · split at h
      · next lt => simpa [Config.quarantinePlaces] using lt
      · cases h
  · exact logFault _ _ s

theorem reportUncorrectable (w : Nat) (s : State) : Keeps free s (reportUncorrectable w s) := by
  unfold Machine.reportUncorrectable
  split
  · exact listAccount _ _ _ s
  · exact logFault _ _ s

theorem addUnbilled (account : Nat) (handle : Option Handle) (credits : Nat) (s : State) :
    Keeps free s (addUnbilled account handle credits s) := by
  unfold Machine.addUnbilled
  split
  · exact refl s
  · simp only
    split
    · exact setHome_aside
    · exact (logFault _ _ _).after
        (after setHome_aside setHome_aside)

theorem clearMark (account : Nat) (s : State) : Keeps free s (clearMark account s) := by
  unfold Machine.clearMark
  exact setHome_aside

theorem addHeld (account : Nat) (handle : Option Handle) (credits : Nat) (s : State) :
    Keeps free s (addHeld account handle credits s) :=
  (addUnbilled _ _ _ _).after (setHome_aside (quarantine := fun h => by simpa using h))

end Keeps
end Sys2Proof.Machine
end

section
/-! What every step keeps: the account home and the arbiter. -/

namespace Sys2Proof.Machine

/-! ### The home's lists -/

/-- `State.homeListConsistent` as it speaks of the home alone (R56, R58). -/
def Home.Consistent (h : Home) : Prop :=
  h.list.Pairwise (fun x y => x.handle ≠ y.handle) ∧ h.detachOrder.Nodup ∧
    (∀ x : Handle, x ∈ h.detachOrder ↔ ∃ e ∈ h.list, e.handle = x ∧ e.state = .detached) ∧
    (∀ e ∈ h.list, e.successor.isSome = true ↔ e.state = .moving) ∧
    ∀ c : ClaimBody, h.work = some (.claim c) → ∀ e ∈ h.list, e.handle ≠ c.handle

/-- The account that a work of the home is about. -/
def HomeWork.account : HomeWork → Nat
  | .claim c => c.account
  | .charge _ a _ _ _ => a

/-- Every account that the home lists, holds in its backlog or works on lies in its range (R54). -/
def Home.Ranged (h : Home) : Prop :=
  (∀ e ∈ h.list, h.inRange e.account = true) ∧ (∀ b ∈ h.backlog, h.inRange b.account = true) ∧
    ∀ w, h.work = some w → h.inRange w.account = true

theorem State.withinStore.ranged {s : State} (h : s.withinStore) : s.home.Ranged := by
  obtain ⟨_, _, _, _, list, backlog, claim, charge, _⟩ := h
  refine ⟨list, backlog, fun w hw => ?_⟩
  cases w with
  | claim c => exact claim c hw
  | charge x a t f b => exact charge x a t f b hw

/-- An account in the range shows that the range is not empty. -/
theorem Home.count_pos {h : Home} {a : Nat} (ha : h.inRange a = true) : 0 < h.count := by
  simp only [Home.inRange, Bool.and_eq_true, decide_eq_true_eq] at ha
  omega

theorem Home.Ranged.empty {h : Home} (r : h.Ranged) (hc : h.count = 0) :
    h.list = [] ∧ h.backlog = [] ∧ h.work = none := by
  obtain ⟨list, backlog, work⟩ := r
  refine ⟨List.eq_nil_iff_forall_not_mem.2 fun e he => ?_, List.eq_nil_iff_forall_not_mem.2 fun e he => ?_,
    Option.eq_none_iff_forall_ne_some.2 fun w hw => ?_⟩
  · exact absurd hc (Home.count_pos (list e he)).ne'
  · exact absurd hc (Home.count_pos (backlog e he)).ne'
  · exact absurd hc (Home.count_pos (work w hw)).ne'

/-- A home of the same range, all of whose accounts lie in it, keeps the accesses within the store. -/
theorem State.withinStore.setHome {s : State} {h : Home} (hs : s.withinStore) (first : h.first = s.home.first)
    (count : h.count = s.home.count) (ranged : h.Ranged) : (s.setHome h).withinStore := by
  have same (a : Nat) : h.inRange a = s.home.inRange a := by simp only [Home.inRange, first, count]
  obtain ⟨small, pointer, migration, rest, _, _, _, _, host⟩ := hs
  refine ⟨count ▸ small, pointer, migration, fun out => ?_, ranged.1, ranged.2.1, fun c hc => ranged.2.2 _ hc,
    fun x a t f b hw => ranged.2.2 _ hw, ?_⟩
  · obtain ⟨c0, _, _, _, noHost⟩ := rest out
    have c0' : h.count = 0 := count.trans c0
    obtain ⟨l0, b0, w0⟩ := ranged.empty c0'
    exact ⟨c0', l0, b0, w0, noHost⟩
  · intro w hw
    have := host w hw
    cases w <;> simpa only [State.setHome_home, same] using this

namespace Home.Consistent
variable {h : Home}

theorem without (c : h.Consistent) (x : Handle) : (h.without x).Consistent := by
  obtain ⟨distinct, nodup, order, successor, claim⟩ := c
  refine ⟨distinct.filter _, nodup.filter _, fun y => ?_, fun e he => successor e (List.mem_of_mem_filter he),
    fun c hc e he => claim c hc e (List.mem_of_mem_filter he)⟩
  simp only [Home.without, List.mem_filter, decide_eq_true_eq, order y]
  constructor
  · rintro ⟨⟨e, he, rfl, detached⟩, ne⟩
    exact ⟨e, ⟨he, ne⟩, rfl, detached⟩
  · rintro ⟨e, ⟨he, ne⟩, rfl, detached⟩
    exact ⟨⟨e, he, rfl, detached⟩, ne⟩

/-- Entries changed without a change of handle, state or successor. -/
theorem map {f : HomeEntry → HomeEntry} (c : h.Consistent)
    (same : ∀ e ∈ h.list, (f e).handle = e.handle ∧ (f e).state = e.state ∧ (f e).successor = e.successor) :
    ({ h with list := h.list.map f } : Home).Consistent := by
  obtain ⟨distinct, nodup, order, successor, claim⟩ := c
  refine ⟨List.pairwise_map.2 (distinct.imp_of_mem fun hx hy ne => ?_), nodup, fun x => ?_, fun e he => ?_, fun c hc e he => ?_⟩
  · rwa [(same _ hx).1, (same _ hy).1]
  · rw [order x]
    constructor
    · rintro ⟨e, he, hh⟩
      exact ⟨f e, List.mem_map_of_mem he, by rwa [(same e he).1, (same e he).2.1]⟩
    · rintro ⟨_, he, hh⟩
      obtain ⟨e, old, rfl⟩ := List.mem_map.1 he
      exact ⟨e, old, by rwa [(same e old).1, (same e old).2.1] at hh⟩
  · obtain ⟨e, old, rfl⟩ := List.mem_map.1 he
    rw [(same e old).2.2, (same e old).2.1]
    exact successor e old
  · obtain ⟨e, old, rfl⟩ := List.mem_map.1 he
    rw [(same e old).1]
    exact claim c hc e old

theorem modEntry {f : HomeEntry → HomeEntry} (c : h.Consistent) (x : Handle)
    (same : ∀ e, (f e).handle = e.handle ∧ (f e).state = e.state ∧ (f e).successor = e.successor) :
    (h.modEntry x f).Consistent :=
  c.map fun e _ => by split <;> simp [same]

/-- The work changed to one whose handle, where it is a CLAIM, no entry has. -/
theorem setWork {w : Option HomeWork} (c : h.Consistent)
    (new : ∀ c : ClaimBody, w = some (.claim c) → ∀ e ∈ h.list, e.handle ≠ c.handle) :
    ({ h with work := w } : Home).Consistent := ⟨c.1, c.2.1, c.2.2.1, c.2.2.2.1, new⟩

/-- A new ACTIVE entry whose handle no entry has, while the home has no CLAIM at work. -/
theorem append {e : HomeEntry} (c : h.Consistent) (idle : h.work = none) (new : ∀ x ∈ h.list, x.handle ≠ e.handle)
    (active : e.state = .active) (noSuccessor : e.successor = none) :
    ({ h with list := h.list ++ [e] } : Home).Consistent := by
  obtain ⟨distinct, nodup, order, successor, -⟩ := c
  refine ⟨?_, nodup, fun x => ?_, fun y hy => ?_, fun c hc => by simp [idle] at hc⟩
  · exact List.pairwise_append.2 ⟨distinct, List.pairwise_singleton _ _, by simpa using new⟩
  · simp only [order x, List.mem_append, List.mem_singleton]
    constructor
    · rintro ⟨y, hy, hh⟩; exact ⟨y, .inl hy, hh⟩
    · rintro ⟨y, hy | rfl, hh⟩
      · exact ⟨y, hy, hh⟩
      · rw [active] at hh; cases hh.2
  · rcases List.mem_append.1 hy with hy | hy
    · exact successor y hy
    · obtain rfl := List.mem_singleton.1 hy; simp [active, noSuccessor]

/-- The entry of a handle is the only one. -/
theorem eq_of_find {x : Handle} {e d : HomeEntry} (c : h.Consistent) (found : h.find x = some e) (hd : d ∈ h.list)
    (handle : d.handle = x) : d = e := by
  have he := List.mem_of_find?_eq_some found
  have hx : e.handle = x := by simpa using List.find?_some found
  have nodup : (h.list.map (·.handle)).Nodup := List.pairwise_map.2 c.1
  exact List.inj_on_of_nodup_map nodup hd he (handle.trans hx.symm)

end Home.Consistent

/-! ### Operations that do not read the home -/

section
variable (h : Home) (s : State)

@[simp] theorem State.setHome_setHome (g : Home) : (s.setHome g).setHome h = s.setHome h := rfl
@[simp] theorem State.setHome_self : s.setHome s.home = s := rfl

theorem settlePermission_setHome : settlePermission (s.setHome h) = (settlePermission s).setHome h := by
  unfold settlePermission
  rw [show (s.setHome h).permission = s.permission from rfl]
  split <;> rfl

theorem logWith_setHome (n : Nat) (e : FaultEvent) : logWith n e (s.setHome h) = (logWith n e s).setHome h := by
  induction n generalizing e s with
  | zero => rfl
  | succ n ih =>
    simp only [logWith]
    rw [show settlePermission { s.setHome h with faults := (s.setHome h).faults.take e } =
      (settlePermission { s with faults := s.faults.take e }).setHome h from settlePermission_setHome h { s with faults := s.faults.take e }]
    simp only [State.setHome_faults, State.setHome_station, apply_ite (State.setHome h), ← ih]
    rfl

theorem logFault_setHome (k : FaultKind) (x : Subject) : logFault k x (s.setHome h) = (logFault k x s).setHome h :=
  logWith_setHome h s _ _

theorem offerFinal_setHome (k : Fin 12) : offerFinal k (s.setHome h) = (offerFinal k s).setHome h := by
  unfold offerFinal
  simp only [State.setHome_table, show (s.setHome h).holdingCharge = s.holdingCharge from rfl,
    show (s.setHome h).handleAt = s.handleAt from rfl, show (s.setHome h).room = s.room from rfl]
  cases s.table.slots[k].session with
  | none => rfl
  | some x =>
    cases s.holdingCharge (s.handleAt k) <;> simp only <;> split_ifs <;> rfl

theorem offerData_setHome (l : Fin 8) : offerData l (s.setHome h) = (offerData l s).setHome h := by
  unfold offerData
  simp only [State.setHome_lines, State.setHome_bus, show (s.setHome h).handleAt = s.handleAt from rfl,
    show (s.setHome h).room = s.room from rfl]
  cases s.lines[l].servedSlot <;> simp only <;> split_ifs <;> rfl

theorem offerTally_setHome : offerTally (s.setHome h) = (offerTally s).setHome h := by
  unfold offerTally
  simp only [show (s.setHome h).inService = s.inService from rfl, show (s.setHome h).holding = s.holding from rfl,
    show (s.setHome h).room = s.room from rfl, logQueueFull, logFault_setHome]
  cases s.holding Entry.isTally <;> simp only <;> split_ifs <;> rfl

theorem offerOwedTally_setHome : offerOwedTally (s.setHome h) = (offerOwedTally s).setHome h := by
  unfold offerOwedTally
  simp only [State.setHome_table, show (s.setHome h).inService = s.inService from rfl]
  split
  · exact offerTally_setHome h { s with table := { s.table with tallyOwed := false } }
  · rfl

theorem foldl_setHome {α : Type} (f : State → α → State) (hf : ∀ a s, f (s.setHome h) a = (f s a).setHome h) (xs : List α) :
    xs.foldl f (s.setHome h) = (xs.foldl f s).setHome h := by
  induction xs generalizing s with
  | nil => rfl
  | cons a xs ih => rw [List.foldl_cons, hf, ih, List.foldl_cons]

theorem offerFreed_setHome : offerFreed (s.setHome h) = (offerFreed s).setHome h := by
  simp only [offerFreed]
  rw [foldl_setHome h s _ fun k s => offerFinal_setHome h s k, offerOwedTally_setHome,
    foldl_setHome h _ _ fun l s => offerData_setHome h s l]

theorem offerClassOne_setHome (a : Nat) (y : Payload) : offerClassOne a y (s.setHome h) = (offerClassOne a y s).setHome h := by
  unfold offerClassOne
  simp only [show (s.setHome h).room = s.room from rfl, State.setHome_bus, logQueueFull, logFault_setHome]
  split
  · rfl
  · split
    · exact offerFreed_setHome h ((s.removeYoungest _).joinQueue (Entry.fresh a y))
    · rfl

end

/-! ### What the operations do to the home -/

theorem rewriteGrant_home (x : Option Handle) (s : State) : (rewriteGrant x s).home = s.home := by
  cases x <;> rfl

theorem noteCharge_home (e : HomeEntry) (final : Bool) (s : State) :
    (noteCharge e final s).home = s.home.modEntry e.handle HomeEntry.heard := by
  unfold noteCharge
  simp only
  split
  · exact rewriteGrant_home _ _
  · rfl

/-- Unbilled credits change the unbilled counter and its marks alone (R119). -/
theorem addUnbilled_home (a : Nat) (x : Option Handle) (n : Nat) (s : State) : ∃ u m,
    (addUnbilled a x n s).home = { s.home with unbilled := u, unbilledMarks := m } := by
  unfold addUnbilled
  split
  · exact ⟨_, _, rfl⟩
  · simp only
    split
    · exact ⟨_, _, rfl⟩
    · exact ⟨_, _, (logFault_keeps _ _ _).2.2.1⟩

/-- Held credits change the quarantine list, or join the unbilled ones (R118). -/
theorem addHeld_home (a : Nat) (x : Option Handle) (n : Nat) (s : State) : ∃ u m q,
    (addHeld a x n s).home = { s.home with unbilled := u, unbilledMarks := m, quarantine := q } := by
  obtain ⟨u, m, h⟩ := addUnbilled_home a x (s.home.heldOf a + n - Config.maxCredits)
    (s.setHome { s.home with quarantine := s.home.quarantine.map (fun q =>
      if q.account = a then { q with held := holdAt Config.maxCredits (q.held + n) } else q) })
  exact ⟨u, m, _, h⟩

theorem settleEntry_backlog (x : Handle) (t : Nat) (f : Bool) (s : State) :
    (settleEntry x t f s).home.backlog = s.home.backlog := by
  cases f <;> rfl

theorem applyAside_backlog (e : HomeEntry) (t : Nat) (f : Bool) (s : State) :
    (applyAside e t f s).home.backlog = s.home.backlog := by
  unfold applyAside
  rw [settleEntry_backlog]
  split
  · obtain ⟨u, m, q, h⟩ := addHeld_home e.account (some e.handle) (t - e.applied) s
    rw [h]
  · rfl

/-! ### The operations -/

namespace Keeps
variable {free : Option (Fin 8)} {s : State}

/-- A home of the same range. -/
theorem setHome_ranged {h : Home} (first : h.first = s.home.first) (count : h.count = s.home.count)
    (lists : s.homeFits → h.list.length ≤ 48 ∧ h.quarantine.length ≤ 8)
    (consistent : s.home.Consistent → h.Consistent) (ranged : s.home.Ranged → h.Ranged) : Keeps free s (s.setHome h) :=
  setHome lists consistent fun hw => hw.setHome first count (ranged hw.ranged)

theorem rewriteGrant (x : Option Handle) (s : State) : Keeps free s (rewriteGrant x s) := by
  unfold Machine.rewriteGrant
  split
  · exact refl s
  · refine rewriteWaiting _ fun t ht e => ?_
    obtain ⟨_, y, _, _⟩ := e
    cases ht <;> cases y <;> rfl

theorem without (x : Handle) : Keeps free s (s.setHome (s.home.without x)) :=
  setHome_ranged rfl rfl (fun hf => ⟨(List.length_filter_le _ _).trans hf.1, hf.2⟩) (·.without x)
    fun r => ⟨fun e he => r.1 e (List.mem_of_mem_filter he), r.2.1, r.2.2⟩

theorem removeOrphan (e : HomeEntry) (s : State) : Keeps free s (removeOrphan e s) := by
  have gone := (logFault .orphanExpired
    { Subject.blank with handle := some e.handle, account := some e.account, total := some e.applied } _).after
      (without (free := free) (s := s) e.handle)
  unfold Machine.removeOrphan
  simp only
  split
  · exact gone.trans (rewriteGrant _ _)
  · exact gone

theorem denyClaim (c : ClaimBody) (r : DenyReason) (s : State) : Keeps free s (denyClaim c r s) :=
  offerClassOne (by simp) s

theorem answerUnknown (x : Handle) (a t : Nat) (s : State) : Keeps free s (answerUnknown x a t s) := by
  unfold Machine.answerUnknown
  split
  · exact refl s
  · exact offerClassOne (by simp) s

theorem finishClaim (s : State) : Keeps free s (finishClaim s) := by
  unfold Machine.finishClaim
  refine (foldl (fun e s => removeOrphan e s) _ _).after ?_
  refine setHome_ranged rfl rfl (fun hf => ⟨by simpa using hf.1, hf.2⟩) (fun c => ?_) fun r => ?_
  · exact (c.map (f := fun e => { e with expiryPutOff := false }) fun e _ => ⟨rfl, rfl, rfl⟩).setWork fun _ h => by cases h
  · refine ⟨fun e he => ?_, r.2.1, fun w hw => by cases hw⟩
    obtain ⟨e, old, rfl⟩ := List.mem_map.1 he
    exact r.1 e old

/-- One entry's fields beside handle, account, state and successor. -/
theorem modEntry (x : Handle) {f : HomeEntry → HomeEntry}
    (same : ∀ e, (f e).handle = e.handle ∧ (f e).state = e.state ∧ (f e).successor = e.successor)
    (account : ∀ e, (f e).account = e.account) : Keeps free s (s.setHome (s.home.modEntry x f)) := by
  refine setHome_ranged rfl rfl (fun hf => ⟨by simpa [Home.modEntry] using hf.1, hf.2⟩) (·.modEntry x same) fun r => ?_
  refine ⟨fun e he => ?_, r.2.1, r.2.2⟩
  obtain ⟨e, old, rfl⟩ := List.mem_map.1 he
  have : (if e.handle = x then f e else e).account = e.account := by split <;> simp [account]
  rw [this]
  exact r.1 e old

theorem noteCharge (e : HomeEntry) (final : Bool) (s : State) : Keeps free s (noteCharge e final s) := by
  have heard := modEntry (free := free) (s := s) e.handle (f := HomeEntry.heard) (fun _ => ⟨rfl, rfl, rfl⟩) fun _ => rfl
  unfold Machine.noteCharge
  simp only
  split
  · exact heard.trans (rewriteGrant _ _)
  · exact heard

theorem settleEntry (x : Handle) (total : Nat) (final : Bool) (s : State) : Keeps free s (settleEntry x total final s) := by
  have raised := modEntry (free := free) (s := s) x (f := fun e => { e with applied := max e.applied total })
    (fun _ => ⟨rfl, rfl, rfl⟩) fun _ => rfl
  unfold Machine.settleEntry
  simp only
  split
  · exact raised.trans (without x)
  · exact raised

theorem applyAside (e : HomeEntry) (total : Nat) (final : Bool) (s : State) : Keeps free s (applyAside e total final s) := by
  unfold Machine.applyAside
  refine (settleEntry _ _ _ _).after ?_
  split
  · exact addHeld _ _ _ s
  · exact refl s

theorem answerHolds (code : ResultCode) (n : Nat) (s : State) : Keeps free s (answerHolds code n s) := by
  induction n generalizing s with
  | zero => exact refl s
  | succ n ih => exact (offerResult _ _ _ s).trans (ih _)

theorem enterHold (s : State) : Keeps free s (enterHold s) := (answerHolds _ _ _).after setStore_aside

/-- The work and the drain mark changed, where a new work's account lies in the range and a new CLAIM's handle is no entry's. -/
theorem setWork {w : Option HomeWork} {d : Bool}
    (new : s.home.Consistent → ∀ c : ClaimBody, w = some (.claim c) → ∀ e ∈ s.home.list, e.handle ≠ c.handle)
    (ranged : s.home.Ranged → ∀ x, w = some x → s.home.inRange x.account = true) :
    Keeps free s (s.setHome { s.home with work := w, draining := d }) :=
  setHome_ranged rfl rfl id (fun c => ⟨c.1, c.2.1, c.2.2.1, c.2.2.2.1, new c⟩) fun r => ⟨r.1, r.2.1, ranged r⟩

theorem setBacklog {b : List BacklogEntry} (ranged : s.home.Ranged → ∀ x ∈ b, s.home.inRange x.account = true) :
    Keeps free s (s.setHome { s.home with backlog := b }) :=
  setHome_ranged rfl rfl id id fun r => ⟨r.1, ranged r, r.2.2⟩

/-- A CHARGE joins the backlog, the home's work done (R121). -/
theorem backlogged {x : Handle} {a t : Nat} {f : Bool} (ranged : s.home.Ranged → s.home.inRange a = true) {w : Option HomeWork}
    (work : w = none ∨ w = s.home.work) :
    Keeps free s (s.setHome { s.home.backlogged x a t f with work := w }) := by
  have workOk (r : s.home.Ranged) (y : HomeWork) (hy : w = some y) : s.home.inRange y.account = true := by
    rcases work with rfl | rfl
    · cases hy
    · exact r.2.2 y hy
  have claimOk (c : s.home.Consistent) (y : ClaimBody) (hy : w = some (.claim y)) : ∀ e ∈ s.home.list, e.handle ≠ y.handle := by
    rcases work with rfl | rfl
    · cases hy
    · exact c.2.2.2.2 y hy
  unfold Home.backlogged
  split
  · refine setHome_ranged rfl rfl id (fun c => ⟨c.1, c.2.1, c.2.2.1, c.2.2.2.1, claimOk c⟩) fun r => ⟨r.1, fun b hb => ?_, workOk r⟩
    obtain ⟨b, old, rfl⟩ := List.mem_map.1 hb
    have : (if b.handle = x then { b with total := max b.total t, final := b.final || f } else b).account = b.account := by
      split <;> rfl
    rw [this]
    exact r.2.1 b old
  · refine setHome_ranged rfl rfl id (fun c => ⟨c.1, c.2.1, c.2.2.1, c.2.2.2.1, claimOk c⟩) fun r => ⟨r.1, fun b hb => ?_, workOk r⟩
    rcases List.mem_append.1 hb with hb | hb
    · exact r.2.1 b hb
    · obtain rfl := List.mem_singleton.1 hb
      exact ranged r

theorem refuseHome (s : State) : Keeps free s (refuseHome s) := by
  unfold Machine.refuseHome
  split
  · exact refl s
  · exact (finishClaim _).after (denyClaim _ _ s)
  · next work =>
    split
    · exact setWork (fun _ _ h => by cases h) fun _ _ h => by cases h
    · exact backlogged (fun r => r.2.2 _ work) (.inl rfl)

theorem drainLoop (n : Nat) (s : State) : Keeps free s (drainLoop n s) := by
  induction n generalizing s with
  | zero => exact refl s
  | succ n ih =>
    unfold Machine.drainLoop
    split
    · split
      · exact setHome_aside
      · next b rest backlog =>
        have rested (u : State) (hu : u.home.backlog = s.home.backlog) :
            Keeps free u (u.setHome { u.home with backlog := rest }) :=
          setBacklog fun r x hx => r.2.1 x (by rw [hu, backlog]; exact List.mem_cons_of_mem _ hx)
        split
        · exact (ih _).after ((answerUnknown _ _ _ _).after (rested s rfl))
        · next e found =>
          split
          · exact setHome_aside
          · split
            · refine (setWork (fun _ _ h => by cases h) fun r x hx => ?_).after (noteCharge e b.final s)
              obtain rfl := Option.some.inj hx
              rw [noteCharge_home] at r ⊢
              exact r.1 e.heard (List.mem_map.2 ⟨e, List.mem_of_find?_eq_some found, by simp⟩)
            · refine (ih _).after ((rested _ ?_).after ((applyAside _ _ _ _).after (noteCharge _ _ s)))
              rw [applyAside_backlog, noteCharge_home]
              rfl
    · exact refl s

end Keeps
end Sys2Proof.Machine
end

section
/-! What every step keeps: the arbiter, the line units, the session table and the meter. -/

namespace Sys2Proof.Machine

/-! ### The arbiter -/

namespace Keeps
variable {free : Option (Fin 8)} {s : State}

theorem grantStore (s : State) : Keeps free s (grantStore s) := by
  rcases grantStore_cases s with ⟨_, he⟩ | ⟨r, _, _, he⟩ <;> rw [he]
  · exact refl s
  · exact setStore_aside

theorem settleStore (s : State) : Keeps free s (settleStore s) := by
  have entered : Keeps free s (if s.store.access.isNone && decide (s.store.hold = .pending) then Machine.enterHold s else s) := by
    split
    · exact enterHold s
    · exact refl s
  unfold Machine.settleStore
  simp only
  refine (grantStore _).after ((drainLoop _ _).after (Keeps.after ?_ entered))
  generalize (if s.store.access.isNone && decide (s.store.hold = .pending) then Machine.enterHold s else s) = u
  split
  · exact refuseHome u
  · exact refl u

theorem endHold (s : State) : Keeps free s (endHold s) :=
  (settleStore _).after (after setHome_aside setStore_aside)

end Keeps

/-! ### Lines -/

namespace LineKeeps
variable {permitted typing : Bool} {x y : Line}

/-- A line with its dialogue closed. -/
theorem of_closed (shaped : x.shaped → y.shaped) (rings : x.ringsFit → y.ringsFit) (closed : y.dialogue = none)
    (ringing : y.state ≠ .ringing) : LineKeeps permitted typing x y :=
  ⟨shaped, rings, fun _ _ => Line.digestAgrees_of_none closed, fun h => absurd h ringing⟩

theorem place (t : List Nat) : LineKeeps permitted typing x (Line.place t x) := by
  obtain ⟨state, dialogue, slot, timer⟩ := Line.place_keeps t x
  refine .of_same state slot dialogue timer fun h => ?_
  obtain ⟨rx, tx⟩ := h
  unfold Line.place
  split
  · exact ⟨rx, tx⟩
  · split
    · next room => exact ⟨rx, by simp only [Line.txCount, List.length_append, Config.txPlaces] at room ⊢; omega⟩
    · split
      · next fits =>
        refine ⟨rx, ?_⟩
        simp only [Line.discard, Line.txCount, List.length_append, List.length_take, Config.txPlaces] at fits ⊢
        omega
      · exact ⟨rx, tx⟩

theorem joinHost (chars : List Nat) : LineKeeps permitted typing x (Line.joinHost chars x) := by
  refine .of_same rfl rfl rfl rfl fun ⟨rx, tx⟩ => ⟨rx, ?_⟩
  simp only [Line.joinHost, Line.discard, Line.txCount, List.length_append, List.length_take, Config.txPlaces] at tx ⊢
  omega

/-- The receive ring and the pending break of R26 cleared. -/
theorem clear : LineKeeps permitted typing x { x with rxRing := [], pendingBreak := none } :=
  .of_same rfl rfl rfl rfl fun h => ⟨Nat.zero_le _, h.2⟩

/-- A HANG UP of a locked line, whose timer does not run. -/
theorem drain (locked : x.state.locked = true) : LineKeeps permitted typing x x.drain := by
  have noTimer : x.shaped → x.timer.isSome = false := fun h => by
    by_contra running
    have timed := h.2.2 ((Bool.not_eq_false _).mp running)
    rcases (LineState.locked_iff _).1 locked with e | e | e <;> rw [e] at timed <;> cases timed
  unfold Line.drain
  simp only
  split
  · exact .of_closed (fun _ => ⟨rfl, rfl, fun _ => rfl⟩) (fun h => ⟨h.1, Nat.zero_le _⟩) rfl nofun
  · exact .of_closed (fun h => ⟨rfl, rfl, fun hr => by simp [noTimer h] at hr⟩) id rfl nofun

theorem drop : LineKeeps permitted typing x x.drop :=
  .of_closed (fun _ => ⟨rfl, rfl, fun _ => rfl⟩) (fun h => ⟨h.1, Nat.zero_le _⟩) rfl nofun

/-- A DRAINING line enters HOLDING. -/
theorem hold (draining : x.state = .hangup .draining) : LineKeeps permitted typing x x.hold := by
  refine ⟨fun h => ?_, fun h => ⟨h.1, Nat.zero_le _⟩, fun _ => id, nofun⟩
  obtain ⟨slot, dialogue, -⟩ := h
  rw [draining] at slot dialogue
  exact ⟨slot, dialogue, fun _ => rfl⟩

theorem claimOut (k : Fin 12) : LineKeeps permitted typing x (x.claimOut k) := by
  unfold Line.claimOut
  split
  · next signOn =>
    refine ⟨fun h => ?_, id, fun _ h => ?_, nofun⟩
    · obtain ⟨-, dialogue, timer⟩ := h
      rw [signOn] at dialogue timer
      exact ⟨rfl, (Option.isSome_map ..).trans dialogue, fun hr => by cases timer hr⟩
    · exact Line.digestAgrees_map (fun d _ hs => by cases hs) h _ rfl
  · exact .refl

theorem resume : LineKeeps permitted typing x x.resume := by
  unfold Line.resume
  split
  · next claiming =>
    refine ⟨fun h => ?_, id, fun _ h => ?_, nofun⟩
    · obtain ⟨-, dialogue, timer⟩ := h
      rw [claiming] at dialogue timer
      exact ⟨rfl, (Option.isSome_map ..).trans dialogue, fun hr => by cases timer hr⟩
    · exact Line.digestAgrees_map (fun d hp => by cases hp) h _ rfl
  · exact .refl

theorem bind : LineKeeps permitted typing x x.bind := by
  unfold Line.bind
  split
  · next claiming =>
    refine .of_closed (fun h => ?_) id rfl nofun
    obtain ⟨slot, -, timer⟩ := h
    rw [claiming] at slot timer
    exact ⟨slot, rfl, fun hr => by cases timer hr⟩
  · exact .refl

theorem lock (c : Nat) (speedDetect : x.state = .speedDetect) : LineKeeps permitted typing x (x.lock c) := by
  refine ⟨fun h => ?_, id, fun _ h => Line.digestAgrees_map (fun d hp => by cases hp) h _ rfl, nofun⟩
  obtain ⟨slot, dialogue, -⟩ := h
  rw [speedDetect] at slot dialogue
  exact ⟨slot, (Option.isSome_map ..).trans dialogue, nofun⟩

theorem sendNext : LineKeeps permitted typing x x.sendNext := by
  unfold Line.sendNext
  split
  · next c rest tx => exact .of_same rfl rfl rfl rfl fun h => ⟨h.1, by have := h.2; simp only [Line.txCount, tx, List.length_cons] at this ⊢; omega⟩
  · split
    · next c rest tx => exact .of_same rfl rfl rfl rfl fun h => ⟨h.1, by have := h.2; simp only [Line.txCount, tx, List.length_cons] at this ⊢; omega⟩
    · split
      · next draining => exact .hold draining
      · exact .of_same rfl rfl rfl rfl id

theorem receive (c : Nat) : LineKeeps permitted typing x (x.receive c) := by
  unfold Line.receive
  split
  · next room => exact .of_same rfl rfl rfl rfl fun h => ⟨by simpa [Config.rxPlaces] using room, h.2⟩
  · exact .of_same rfl rfl rfl rfl id

theorem takeBreak (r : Receiver) : LineKeeps permitted typing x { x.takeBreak with receiver := r } := by
  unfold Line.takeBreak
  split <;> exact .of_same rfl rfl rfl rfl id

theorem sent (f : DataFill) : LineKeeps permitted typing x (x.sent f) :=
  .of_same rfl rfl rfl rfl fun h => ⟨by have := h.1; simp only [Line.sent, List.length_drop]; omega, h.2⟩

theorem burst (n : Nat) (quiet : x.state = .ringing ∨ x.state = .idle ∧ permitted = true) :
    LineKeeps permitted typing x (x.burst n) := by
  have bare : x.shaped → x.servedSlot.isSome = false ∧ x.dialogue.isSome = false := fun ⟨slot, dialogue, _⟩ => by
    rcases quiet with e | ⟨e, _⟩ <;> rw [e] at slot dialogue <;> exact ⟨slot, dialogue⟩
  unfold Line.burst
  simp only
  generalize (if x.state = .ringing then x.ringCount + 1 else 1) = count
  split
  · exact ⟨fun h => ⟨(bare h).1, (bare h).2, fun _ => rfl⟩, id, fun _ => id, nofun⟩
  · exact ⟨fun h => ⟨(bare h).1, (bare h).2, nofun⟩, id, fun _ => id, fun _ => quiet.imp id And.right⟩

/-- A line's timers at a tick. -/
theorem second : LineKeeps permitted typing x x.second := by
  refine ⟨fun h => ?_, id, fun _ h => Line.digestAgrees_map (fun d => ?_) h _ rfl, .inl⟩
  · simpa only [Line.shaped, Line.second, down, Option.isSome_map] using h
  · unfold Dialogue.second
    split
    · exact fun hp hs => ⟨hp, hs, id⟩
    · exact fun hp hs => ⟨hp, hs, id⟩

end LineKeeps

/-- A line that is not RINGING has lost its receive path alone when it is cleared (R26). -/
theorem clearReceive_line {l : Fin 8} {s : State} (h : s.lines[l].state ≠ .ringing) :
    (clearReceive l s).lines[l] = { s.lines[l] with rxRing := [], pendingBreak := none } := by
  unfold clearReceive
  rw [withdrawData_line l (by simpa using h)]
  simp

/-- The mark of a cleared ring leaves an entry's line, and what the queue holds once, as they were (R26). -/
theorem QueueTest.ringCleared {p : Entry → Bool} (hp : QueueTest p) (e : Entry) :
    p { e with payload := e.payload.ringCleared } = p e := by
  obtain ⟨_, y, _, _⟩ := e
  cases y with
  | data _ _ f => cases f <;> cases hp <;> rfl
  | _ => cases hp <;> rfl

namespace Keeps
variable {free : Option (Fin 8)} {s : State}

theorem placeText (l : Fin 8) (t : List Nat) (s : State) : Keeps free s (placeText l t s) := modLine (.place t)

theorem placeFixed (l : Fin 8) (t : FixedText) (s : State) : Keeps free s (placeFixed l t s) := placeText l _ s

theorem withdrawData (l : Fin 8) (s : State) : Keeps free s (withdrawData l s) := by
  unfold Machine.withdrawData
  split
  · exact refl s
  · exact (removeFirst _).trans (offerFreed _)
  · refine setQueue (.map fun t ht e _ => ?_)
    split
    · rw [ht.ringCleared]; exact id
    · exact id

theorem clearReceive (l : Fin 8) (s : State) : Keeps free s (clearReceive l s) :=
  (withdrawData l _).after (modLine .clear)

theorem hangUp (l : Fin 8) (s : State) : Keeps free s (hangUp l s) := by
  unfold Machine.hangUp
  split
  · next locked =>
    refine (clearReceive l s).trans (modLine (.drain ?_))
    rw [clearReceive_line (by intro e; rw [e] at locked; cases locked)]
    exact locked
  · exact refl s

theorem hangUpDirect (l : Fin 8) (s : State) : Keeps free s (hangUpDirect l s) :=
  (clearReceive l s).trans (modLine .drop)

theorem failedAttempt (l : Fin 8) (s : State) : Keeps free s (failedAttempt l s) := by
  unfold Machine.failedAttempt
  simp only
  generalize (match s.lines[l].dialogue with | some d => d.speedAttempts | none => 0) + 1 = attempts
  split
  · refine modLine ⟨fun h => by simpa only [Line.shaped, Option.isSome_map] using h, id, fun _ h => ?_, .inl⟩
    exact Line.digestAgrees_map (f := fun d => { d with speedAttempts := attempts }) (fun d hp hs => ⟨hp, hs, id⟩) h _ rfl
  · exact hangUpDirect l s

/-! ### The session table -/

theorem freeSlot (k : Fin 12) (s : State) : Keeps free s (freeSlot k s) := modSlot fun _ _ h => by cases h

theorem hangUpWith (line : Option (Fin 8)) (t : FixedText) (s : State) : Keeps free s (hangUpWith line t s) := by
  cases line with
  | none => exact refl s
  | some l => exact (placeFixed l t s).trans (hangUp l _)

theorem homeSilent (k : Fin 12) (s : State) : Keeps free s (homeSilent k s) := by
  unfold Machine.homeSilent
  split
  · exact refl s
  · split
    · exact freeSlot k s
    · exact (freeSlot k s).trans (hangUpWith _ _ _)

theorem reserveSlot (k : Fin 12) (l : Fin 8) (d : Dialogue) (s : State) : Keeps free s (reserveSlot k l d s) := by
  unfold Machine.reserveSlot
  simp only
  have reserved (n a c : Nat) : Keeps free s (s.modSlot k fun x =>
      { generation := (x.generation + 1) % n, replySource := none, claimTimer := none,
        session := some (Session.claiming a l c) }) :=
    modSlot fun _ y hy => by cases hy; exact ⟨Nat.zero_le _, Nat.zero_le _, Nat.zero_le _⟩
  split
  · next room => exact (modLine (.claimOut k)).after ((joinPlain room (by simp)).after (reserved _ _ _))
  · exact (homeSilent k _).after (reserved _ _ _)

theorem releaseSlot (k : Fin 12) (s : State) : Keeps free s (releaseSlot k s) := by
  unfold Machine.releaseSlot
  split
  · exact freeSlot k s
  · exact (freeSlot k s).trans (reserveSlot _ _ _ _)

/-! ### The meter -/

theorem addOverflow (n : Nat) (s : State) : Keeps free s (addOverflow n s) :=
  setMeter fun h => ⟨h.1, Nat.min_le_right _ _⟩

theorem noteSaturation (k : Fin 12) (s : State) : Keeps free s (noteSaturation k s) := by
  unfold Machine.noteSaturation
  split
  · exact refl s
  · split
    · exact refl s
    · exact (logFault _ _ _).after (modSession fun x hx => hx)

theorem chargeSecond (k : Fin 12) (s : State) : Keeps free s (chargeSecond k s) := by
  unfold Machine.chargeSecond
  split
  · exact refl s
  · split
    · simp only
      split
      · next fits => exact modSession fun y hy => ⟨fits, Nat.le_of_lt_succ (Nat.mod_lt _ (by decide)), hy.2.2⟩
      · exact (noteSaturation k _).after ((addOverflow _ _).after
          (modSession fun y hy => ⟨Nat.le_refl _, Nat.zero_le _, hy.2.2⟩))
    · exact refl s

theorem roundSession (k : Fin 12) (s : State) : Keeps free s (roundSession k s) := by
  unfold Machine.roundSession
  split
  · exact refl s
  · split
    · exact modSession fun y hy => ⟨hy.1, Nat.zero_le _, hy.2.2⟩
    · split
      · next below => exact modSession fun y hy => ⟨below, Nat.zero_le _, hy.2.2⟩
      · exact (noteSaturation k _).after ((addOverflow _ _).after (modSession fun y hy => ⟨hy.1, Nat.zero_le _, hy.2.2⟩))

theorem endSession (k : Fin 12) (cause : EndCause) (s : State) : Keeps free s (endSession k cause s) := by
  have ended : Keeps free s (Machine.offerFinal k ((Machine.roundSession k
      { s with table := { s.table with detachOrder := s.table.detachOrder.filter (fun j => decide (j ≠ k)) } }).modSession k
        (Session.ended cause))) := by
    refine (offerFinal k _).after ?_
    refine after (modSession fun x hx => ⟨hx.1, hx.2.1, Nat.zero_le _⟩) ?_
    exact (roundSession k _).after setTable_sameSlots
  unfold Machine.endSession
  simp only
  split
  · exact ended.trans (offerTally _)
  · exact ended

theorem detachSession (k : Fin 12) (x : Session) (grace : Nat) (s : State) : Keeps free s (detachSession k x grace s) := by
  unfold Machine.detachSession
  simp only
  exact (offerRefusable (by simp) _).after (after setTable_sameSlots (modSession fun x hx => hx))

theorem postSecond (k : Fin 12) (s : State) : Keeps free s (postSecond k s) := by
  unfold Machine.postSecond
  split
  · exact refl s
  · split
    · split
      · next below => exact modSession fun y hy => ⟨hy.1, hy.2.1, below⟩
      · exact (offerCharge k _).after (modSession fun y hy => ⟨hy.1, hy.2.1, Nat.zero_le _⟩)
    · exact refl s

theorem countDown (s : State) : Keeps free s { s with meter := s.meter.countDown } := by
  refine setMeter fun h => ?_
  unfold Meter.countDown
  split
  · exact ⟨h.1, h.2.1⟩
  · split
    · exact ⟨h.1, h.2.1⟩
    · split <;> exact ⟨h.1, h.2.1⟩

end Keeps
end Sys2Proof.Machine
end

section
/-! What every step keeps: the events of the bus, the characters, the lines, the meter and the session table. -/

namespace Sys2Proof.Machine

/-! ### One entry of the queue replaced -/

theorem replaceEntry_of_not_mem {e x : Entry} {q : List Entry} (h : e ∉ q) : replaceEntry e x q = q := by
  induction q with
  | nil => rfl
  | cons y rest ih =>
    simp only [List.mem_cons, not_or] at h
    rw [replaceEntry, if_neg (Ne.symm h.1), ih h.2]

theorem replaceEntry_of_mem {e x : Entry} {q : List Entry} (h : e ∈ q) :
    ∃ before behind, q = before ++ e :: behind ∧ replaceEntry e x q = before ++ x :: behind := by
  induction q with
  | nil => cases h
  | cons y rest ih =>
    by_cases he : y = e
    · exact ⟨[], rest, by rw [he]; rfl, by rw [replaceEntry, if_pos he]; rfl⟩
    · obtain ⟨before, behind, hq, hr⟩ := ih ((List.mem_cons.1 h).resolve_left (Ne.symm he))
      exact ⟨y :: before, behind, by rw [hq]; rfl, by rw [replaceEntry, if_neg he, hr]; rfl⟩

/-- An entry replaced by one that passes no further test, unless the queue holds none that passes it. -/
theorem QueueKeeps.replace {q : List Entry} {e x : Entry}
    (same : ∀ p, QueueTest p → p x = true → p e = true ∨ ∀ y ∈ q, p y = false) : QueueKeeps q (replaceEntry e x q) := by
  by_cases he : e ∈ q
  · obtain ⟨before, behind, hq, hr⟩ := replaceEntry_of_mem (x := x) he
    refine ⟨fun h => by rw [hr]; simpa [hq] using h, fun p hp h => ?_⟩
    rw [hr]
    cases hx : p x with
    | false =>
      rw [hq] at h
      simp only [List.countP_append, List.countP_cons, hx] at h ⊢
      simp only [Bool.false_eq_true, if_false]
      omega
    | true =>
      rcases same p hp hx with hpe | none
      · simpa [hq, List.countP_append, List.countP_cons, hx, hpe] using h
      · have zero : q.countP p = 0 := List.countP_eq_zero.2 fun y hy => by simp [none y hy]
        rw [hq, List.countP_append, List.countP_cons] at zero
        rw [List.countP_append, List.countP_cons, if_pos hx]
        omega
  · rw [replaceEntry_of_not_mem he]; exact .refl q

/-- The filling at the start of a transmission leaves handle, line and kind (R25, R89). -/
theorem QueueTest.start {p : Entry → Bool} (hp : QueueTest p) (s : State) (e : Entry) (h : p (e.start s) = true) :
    p e = true ∨ p = fun e => e.inFlight := by
  obtain ⟨_, y, _, _⟩ := e
  cases hp with
  | flying => exact .inr rfl
  | charge x => left; cases y <;> exact h
  | tally => left; cases y <;> exact h
  | data l => left; cases y <;> exact h

/-- A GRANT stopped stays one for its handle (R69). -/
theorem Payload.stopped_grant (h : Home) (g : GrantBody) : ∃ old, (Payload.grant g).stopped h = .grant { g with oldHandle := old } := by
  obtain ⟨_, _, _, old⟩ := g
  cases old with
  | none => exact ⟨none, rfl⟩
  | some x =>
    simp only [Payload.stopped]
    split
    · exact ⟨some x, rfl⟩
    · exact ⟨none, rfl⟩

/-- An entry stopped is WAITING and leaves handle, line and kind as they were (R168). -/
theorem QueueTest.stop {p : Entry → Bool} (hp : QueueTest p) (g : Home) (e : Entry) (h : p (e.stop g) = true) : p e = true := by
  obtain ⟨_, y, _, _⟩ := e
  cases y with
  | grant b =>
    obtain ⟨old, hb⟩ := Payload.stopped_grant g b
    simp only [Entry.stop, hb] at h
    cases hp <;> cases h
  | _ => cases hp <;> first | exact h | cases h

/-! ### What a line is left with -/

theorem Line.digestAgrees_of_step {x : Line} (h : ∀ d, x.dialogue = some d → d.step ≠ .entry) : x.digestAgrees :=
  fun d hd _ hs => absurd hs (h d hd)

/-- HANG UP closes the dialogue of a locked line (R18, R35). -/
theorem hangUp_dialogue {l : Fin 8} {s : State} (locked : s.lines[l].state.locked = true) :
    (hangUp l s).lines[l].dialogue = none := by
  have drained (x : Line) : x.drain.dialogue = none := by
    unfold Line.drain
    simp only
    split <;> rfl
  unfold hangUp
  rw [if_pos locked]
  simpa using drained _

theorem roundSession_line {l : Fin 8} (k : Fin 12) {s : State} (h : s.lines[l].state ≠ .ringing) :
    (roundSession k s).lines[l] = s.lines[l] := by
  unfold roundSession noteSaturation
  split
  · rfl
  · split
    · rfl
    · split
      · rfl
      · split
        · rfl
        · split
          · rfl
          · exact logWith_line _ _ h

/-- A session's ending leaves every line that is not RINGING alone (R86). -/
theorem endSession_line {l : Fin 8} (k : Fin 12) (cause : EndCause) {s : State} (h : s.lines[l].state ≠ .ringing) :
    (endSession k cause s).lines[l] = s.lines[l] := by
  have rounded := roundSession_line (l := l) k (s :=
    { s with table := { s.table with detachOrder := s.table.detachOrder.filter (fun j => decide (j ≠ k)) } }) h
  have offered : (offerFinal k ((roundSession k
      { s with table := { s.table with detachOrder := s.table.detachOrder.filter (fun j => decide (j ≠ k)) } }).modSession k
        (Session.ended cause))).lines[l] = s.lines[l] := by
    rw [(offerFinal_keeps _ _).1]
    exact rounded
  unfold endSession
  simp only
  split
  · exact (offerTally_line (by rw [offered]; exact h)).trans offered
  · exact offered

/-- A full queue answers a reservation with ?NO RESPONSE and HANG UP (R44, R45). -/
theorem reserveSlot_of_full {k : Fin 12} {l : Fin 8} {d : Dialogue} {s : State} (full : s.room = false) :
    reserveSlot k l d s = hangUp l (placeFixed l .noResponse (freeSlot k (s.modSlot k (fun x =>
      { generation := (x.generation + 1) % 256, replySource := none, claimTimer := none,
        session := some (Session.claiming (d.userNumber.getD 0) l s.lines[l].speedClass) })))) := by
  unfold reserveSlot
  simp only
  rw [if_neg (Bool.eq_false_iff.1 (by exact full))]
  unfold homeSilent
  simp [Session.claiming, hangUpWith]

/-! ### The bus -/

namespace Keeps
variable {free : Option (Fin 8)} {s : State}

theorem hand (f : Handed) (s : State) : Keeps free s (hand f s) := setBus rfl rfl

theorem handOver (destination source : Nat) (f : Handed) (s : State) : Keeps free s (handOver destination source f s) := by
  unfold Machine.handOver
  split
  · exact refl s
  · split
    · split
      · exact hand _ s
      · exact refl s
    · exact refl s
  · split
    · split
      · exact refl s
      · split
        · exact logFault _ _ s
        · exact hand f s
    · split
      · exact hand f s
      · exact refl s

theorem takePassed (destination source kind : Nat) (body : List Byte) (s : State) :
    Keeps free s (takePassed destination source kind body s) := by
  unfold Machine.takePassed
  have sender : Keeps free s (if source ≤ 15 then { s with bus := { s.bus with lastSender := source } } else s) := by
    split
    · exact setBus rfl rfl
    · exact refl s
  generalize (if source ≤ 15 then { s with bus := { s.bus with lastSender := source } } else s) = u at sender ⊢
  simp only
  refine sender.trans ?_
  split
  · exact logFault _ _ u
  · split
    · exact logFault _ _ u
    · split
      · exact logFault _ _ u
      · exact refl u
      · exact handOver _ _ _ u

theorem takeTrain (bytes : List Byte) (broken : Bool) (s : State) : Keeps free s (takeTrain bytes broken s) := by
  unfold Machine.takeTrain
  split
  · exact refl s
  · exact takePassed _ _ _ _ s
  · exact logFault _ _ s

theorem busTaken (s : State) : Keeps free s (busTaken s) := setBus rfl rfl

theorem receiveTrain (bytes : List Byte) (broken : Bool) (s : State) : Keeps free s (receiveTrain bytes broken s) := by
  unfold Machine.receiveTrain
  split
  · exact refl s
  · exact (takeTrain _ _ _).after (setBus rfl rfl)

theorem noteStart (e : Entry) (s : State) : Keeps free s (noteStart e s) := by
  unfold Machine.noteStart
  split
  · exact modSession fun x hx => hx
  · exact setTable_sameSlots
  · exact refl s

theorem startEntry {slot : Nat} (e : Entry) (may : s.mayStart slot = true) :
    Keeps free s (s.setQueue (replaceEntry e (e.start s) s.bus.queue)) := by
  refine setQueue (.replace fun p hp h => ?_)
  rcases hp.start s e h with same | rfl
  · exact .inl same
  · simp only [State.mayStart, Bool.and_eq_true, Bool.not_eq_true', List.any_eq_false] at may
    exact .inr (by simpa using may.2)

theorem landed (s : State) : Keeps free s s.landed := setQueue (.of_sublist List.eraseP_sublist)

theorem tellSent (y : Payload) (s : State) : Keeps free s (tellSent y s) := by
  unfold Machine.tellSent
  split
  · unfold startClaimTimer
    split
    · split
      · exact modSlot fun hm y hy => hm.2.2 _ y hy
      · exact refl s
    · exact refl s
  · exact releaseSlot _ s
  · split
    · exact refl s
    · exact modLine (.sent _)
  · exact refl s

theorem tellDropped (y : Payload) (s : State) : Keeps free s (tellDropped y s) := by
  unfold Machine.tellDropped
  split
  · split
    · split
      · exact homeSilent _ s
      · exact refl s
    · exact refl s
  · exact releaseSlot _ s
  · exact refl s

theorem tellStopped (y : Payload) (s : State) : Keeps free s (tellStopped y s) := by
  unfold Machine.tellStopped
  split
  · exact modSession fun x hx => hx
  · unfold offerFinalFor
    split
    · exact offerFinal _ s
    · exact refl s
  · split
    · exact (removeFirst _).trans (offerFreed _)
    · exact refl s
  · exact refl s

/-! ### Characters -/

theorem modDialogue {l : Fin 8} {f : Dialogue → Dialogue}
    (same : ∀ d, (f d).phase = .password → (f d).step = .entry →
      d.phase = .password ∧ d.step = .entry ∧ (d.digest = digestOf d.entry → (f d).digest = digestOf (f d).entry)) :
    Keeps free s (modDialogue l f s) :=
  modLine (.of_dialogue fun _ h => Line.digestAgrees_map same h _ rfl)

theorem systemFull (l : Fin 8) (s : State) : Keeps free s (systemFull l s) := (placeFixed l _ s).trans (hangUp l _)

theorem reserveFor (l : Fin 8) (d : Dialogue) (s : State) : Keeps free s (reserveFor l d s) := by
  unfold Machine.reserveFor
  split
  · exact reserveSlot _ l d s
  · split
    · exact (endSession _ _ _).after (modDialogue fun _ _ hs => by cases hs)
    · exact systemFull l s

theorem claimFor (l : Fin 8) (d : Dialogue) (s : State) : Keeps free s (claimFor l d s) := by
  unfold Machine.claimFor
  split
  · exact systemFull l s
  · exact reserveFor l d s

end Keeps

/-- A completed password leaves the line with no entry under way: it is hung up, or it waits, or it claims (R42 to R44). -/
theorem claimFor_digestAgrees {l : Fin 8} (d : Dialogue) {s : State} (signOn : s.lines[l].state = .signOn) :
    (claimFor l d s).lines[l].digestAgrees := by
  have texted (t : FixedText) (u : State) (hu : u.lines[l].state = .signOn) : (hangUp l (placeFixed l t u)).lines[l].digestAgrees := by
    refine Line.digestAgrees_of_none (hangUp_dialogue ?_)
    have : (placeFixed l t u).lines[l].state = .signOn := by
      simpa [placeFixed, placeText, (Line.place_keeps _ _).1] using hu
    rw [this]; rfl
  unfold claimFor
  split
  · exact texted _ s signOn
  · unfold reserveFor
    split
    · next k _ =>
      cases room : s.room with
      | false => rw [reserveSlot_of_full room]; exact texted _ _ signOn
      | true =>
        unfold reserveSlot
        simp only
        rw [if_pos (by exact room)]
        refine Line.digestAgrees_of_step fun e he => ?_
        have : (Line.claimOut k s.lines[l]).dialogue = some e := by simpa using he
        rw [Line.claimOut, if_pos signOn] at this
        obtain ⟨_, _, rfl⟩ := Option.map_eq_some_iff.1 this
        exact nofun
    · split
      · next k rest _ =>
        rw [endSession_line]
        · refine Line.digestAgrees_of_step fun e he => ?_
          have : s.lines[l].dialogue.map (fun x => { x with step := .slotWait, awaitedSlot := some k }) = some e := by
            simpa [modDialogue] using he
          obtain ⟨_, _, rfl⟩ := Option.map_eq_some_iff.1 this
          exact nofun
        · have : ((modDialogue l (fun x => { x with step := .slotWait, awaitedSlot := some k }) s).lines[l]).state = .signOn := by
            simpa [modDialogue] using signOn
          rw [this]; exact nofun
      · exact texted _ s signOn

end Sys2Proof.Machine
end

section
/-! What every step keeps: the commands of the lines, the bus, the meter and the session table. -/

namespace Sys2Proof.Machine

/-- Every invariant of `Keeps`, the digests of all lines among them, is kept from `s` to `t`. -/
def KeepsAll (s t : State) : Prop := ∃ free, Keeps free s t ∧ ∀ l, free = some l → t.lines[l].digestAgrees

theorem Keeps.all {s t : State} (h : Keeps none s t) : KeepsAll s t := ⟨none, h, nofun⟩

theorem KeepsAll.digests {s t : State} (h : KeepsAll s t) (hs : s.digestsAgree) : t.digestsAgree := by
  obtain ⟨free, h, rest⟩ := h
  intro l
  by_cases e : free = some l
  · exact rest l e
  · exact h.digests (fun m _ => hs m) l e

/-- A command that answers a next state keeps the invariants. -/
def KeepsNext (s : State) (a : Answer) : Prop := ∀ t, a = .next t → KeepsAll s t

theorem KeepsNext.of_next {s t : State} (h : Keeps none s t) : KeepsNext s (.next t) := by
  rintro _ ⟨⟩; exact h.all

theorem KeepsNext.awake {f : State → State} {s : State} (h : s.inReset = false → Keeps none s (f s)) :
    KeepsNext s (awake f s) := by
  rintro _ ⟨⟩
  split
  · exact (Keeps.refl s).all
  · next out => exact (h (by simpa using out)).all

theorem KeepsNext.takeHanded {f : Handed} {act : State → State} {s : State}
    (h : ∀ u : State, u.inReset = false → Keeps none u (act u)) : KeepsNext s (.next (takeHanded f act s)) := by
  refine .of_next ?_
  have handed (b : List Handed) : Keeps none s { s with bus := { s.bus with handed := b } } := Keeps.setBus rfl rfl
  rcases takeHanded_cases f act s with ⟨_, he⟩ | ⟨_, _, _, he⟩ | ⟨_, _, _, he⟩ | ⟨⟨served, _⟩, he⟩ <;> rw [he]
  · exact .refl s
  · exact .refl s
  · exact handed _
  · have out : s.inReset = false := by
      simp only [State.serves, Bool.and_eq_true, Bool.not_eq_true'] at served
      exact served.1
    exact (handed _).trans (h (s.taking f) out)

/-! ### From ring to speed lock -/

section
variable (l : Fin 8) (s : State)

theorem execRingBurst_keeps : KeepsNext s (execRingBurst l s) := .awake fun _ => by
  split
  · next counts =>
    simp only [State.countsBurst, Bool.and_eq_true, Bool.or_eq_true, decide_eq_true_eq] at counts
    exact .modLine (.burst _ counts.2)
  · exact .refl s

theorem execBurstEnd_keeps : KeepsNext s (execBurstEnd l s) := .awake fun _ => by
  split
  · next ringing =>
    refine .modLine ⟨fun h => ⟨h.1, h.2.1, fun _ => ?_⟩, id, fun _ => id, .inl⟩
    show LineState.timed s.lines[l].state = true
    rw [ringing.1]; rfl
  · exact .refl s

theorem execRingSeriesTimerExpiry_keeps : KeepsNext s (execRingSeriesTimerExpiry l s) := .awake fun _ => by
  split
  · next ringing =>
    refine .modLine ⟨fun h => ?_, id, fun _ => id, nofun⟩
    obtain ⟨slot, dialogue, -⟩ := h
    rw [ringing.1] at slot dialogue
    exact ⟨slot, dialogue, nofun⟩
  · exact .refl s

theorem execCarrierPresence_keeps : KeepsNext s (execCarrierPresence l s) := .awake fun _ => by
  split
  · exact .refl s
  · split
    · next answering =>
      refine .modLine ⟨fun h => ?_, id, fun _ _ => ?_, nofun⟩
      · have slot := h.1
        rw [answering] at slot
        exact ⟨slot, rfl, fun _ => rfl⟩
      · rintro _ ⟨⟩ hp
        cases hp
    · exact .modLine (.of_same rfl rfl rfl rfl id)

theorem execAnswerTimerExpiry_keeps : KeepsNext s (execAnswerTimerExpiry l s) := .awake fun _ => by
  split
  · exact .hangUpDirect l s
  · exact .refl s

theorem execHangUpHoldTimerExpiry_keeps : KeepsNext s (execHangUpHoldTimerExpiry l s) := .awake fun _ => by
  split
  · next holding =>
    refine .modLine ⟨fun h => ?_, id, fun _ => id, nofun⟩
    obtain ⟨slot, dialogue, -⟩ := h
    rw [holding.1] at slot dialogue
    exact ⟨slot, dialogue, nofun⟩
  · exact .refl s

theorem execReceiverArmed_keeps : KeepsNext s (execReceiverArmed l s) := .awake fun _ => by
  split
  · exact .modLine (.of_same rfl rfl rfl rfl id)
  · exact .refl s

theorem execSpeedIntervalEnd_keeps (micros : Nat) : KeepsNext s (execSpeedIntervalEnd l micros s) := .awake fun _ => by
  split
  · split
    · exact .modLine (.of_same rfl rfl rfl rfl id)
    · exact .failedAttempt l s
  · exact .refl s

theorem execSpeedDecodeEnd_keeps (code : Nat) (stop : Bool) : KeepsNext s (execSpeedDecodeEnd l code stop s) :=
  .awake fun _ => by
    split
    · next speedDetect =>
      split
      · unfold decodeEnd
        split
        · exact (Keeps.modLine (.lock _ speedDetect)).trans (.placeText l _ _)
        · exact .failedAttempt l s
      · exact .refl s
    · exact .refl s

theorem execSpeedDetectTimerExpiry_keeps : KeepsNext s (execSpeedDetectTimerExpiry l s) := .awake fun _ => by
  split
  · exact .hangUpDirect l s
  · exact .refl s

/-! ### Carrier loss -/

theorem Keeps.sessionLosesLine {free : Option (Fin 8)} (k : Fin 12) (s : State) : Keeps free s (sessionLosesLine k s) := by
  unfold Machine.sessionLosesLine
  split
  · exact refl s
  · split
    · exact modSession fun x hx => hx
    · split
      · exact detachSession _ _ _ s
      · exact endSession _ _ s
    · exact endSession _ _ s
    · exact refl s

theorem Keeps.carrierLost {free : Option (Fin 8)} : Keeps free s (carrierLost l s) := by
  unfold Machine.carrierLost
  split
  · exact hangUpDirect l s
  · exact hangUpDirect l s
  · exact hangUpDirect l s
  · split
    · exact (hangUpDirect l s).trans (sessionLosesLine _ _)
    · exact hangUpDirect l s
  · split
    · exact (hangUpDirect l s).trans (sessionLosesLine _ _)
    · exact hangUpDirect l s
  · next draining => exact modLine (.hold draining)
  · exact refl s

theorem execCarrierLoss_keeps : KeepsNext s (execCarrierLoss l s) := .awake fun _ => by
  split
  · exact .refl s
  · exact (Keeps.modLine (.of_same rfl rfl rfl rfl id)).trans (.carrierLost l _)

/-! ### The character paths -/

theorem execFramingError_keeps : KeepsNext s (execFramingError l s) := .awake fun _ => by
  split
  · exact .modLine (.of_same rfl rfl rfl rfl id)
  · exact .refl s

theorem execLineBreak_keeps : KeepsNext s (execLineBreak l s) := .awake fun _ => by
  split
  · split
    · exact (Keeps.modLine (.takeBreak _)).trans (.offerData l _)
    · exact .modLine (.of_same rfl rfl rfl rfl id)
  · exact .refl s

theorem length_ageOldest (r : List RxChar) : (ageOldest r).length = r.length := by
  induction r with
  | nil => rfl
  | cons c rest ih =>
    unfold ageOldest
    split <;> simp [ih]

theorem execDataTriggerAge_keeps : KeepsNext s (execDataTriggerAge l s) := .awake fun _ => by
  split
  · exact (Keeps.modLine (.of_same rfl rfl rfl rfl fun h => ⟨by rw [length_ageOldest]; exact h.1, h.2⟩)).trans (.offerData l _)
  · exact .refl s

theorem execSignOnTimerExpiry_keeps : KeepsNext s (execSignOnTimerExpiry l s) := .awake fun _ => by
  split
  · exact .refl s
  · split
    · exact (Keeps.placeFixed l _ s).trans (.hangUp l _)
    · exact .refl s

theorem execTransmitCharacter_keeps : KeepsNext s (execTransmitCharacter l s) := .awake fun _ => by
  split
  · exact .modLine .sendNext
  · exact .refl s

end

/-- The digest of a dialogue in which a password is typed is that of its entry (R39). -/
def Dialogue.DigestOk (d : Dialogue) : Prop := d.phase = .password → d.step = .entry → d.digest = digestOf d.entry

theorem placeText_dialogue (l : Fin 8) (t : List Nat) (s : State) :
    (placeText l t s).lines[l].dialogue = s.lines[l].dialogue := by
  rw [placeText_eq, State.setLine_line, (Line.place_keeps _ _).2.1]

theorem placeText_state (l : Fin 8) (t : List Nat) (s : State) : (placeText l t s).lines[l].state = s.lines[l].state := by
  rw [placeText_eq, State.setLine_line, (Line.place_keeps _ _).1]

/-- A change to the dialogue that the line has. -/
theorem Keeps.modDialogue_of {free : Option (Fin 8)} {l : Fin 8} {f : Dialogue → Dialogue} {d : Dialogue} {s : State}
    (dialogue : s.lines[l].dialogue = some d) (ok : d.DigestOk → (f d).DigestOk) :
    Keeps free s (Machine.modDialogue l f s) := by
  refine modLine (f := fun x => { x with dialogue := x.dialogue.map f }) (.of_dialogue fun _ h e he => ?_)
  simp only [dialogue, Option.map_some, Option.some.injEq] at he
  subst he
  exact ok (h d dialogue)

section
variable {l : Fin 8} {d : Dialogue} {s : State}

theorem Keeps.userChar {free : Option (Fin 8)} (dialogue : s.lines[l].dialogue = some d) (user : d.phase = .user) (c : Nat) :
    Keeps free s (userChar l d c s) := by
  have noPassword (e : Dialogue) (he : e.phase = d.phase) : e.DigestOk := fun hp => by rw [he, user] at hp; cases hp
  unfold Machine.userChar
  simp only
  split
  · split
    · exact (placeText l _ s).trans (placeText l _ _)
    · refine (placeText l _ _).after (after (modDialogue_of ((placeText_dialogue l _ s).trans dialogue) ?_) (placeText l _ s))
      exact fun _ _ _ => rfl
  · split
    · split
      · exact (placeText l _ _).after (modDialogue_of dialogue fun _ => noPassword _ rfl)
      · exact refl s
    · split
      · split
        · exact refl s
        · exact (placeText l _ _).after (modDialogue_of dialogue fun _ => noPassword _ rfl)
      · exact refl s

/-- The entry of a password keeps the digest with the characters typed. At its end the entry is cleared before the digest is used:
until the CLAIM is decided the line's own digest is not asked for (R39, R40). -/
theorem passwordChar_keeps (signOn : s.lines[l].state = .signOn) (dialogue : s.lines[l].dialogue = some d)
    (password : d.phase = .password) (entry : d.step = .entry) (c : Nat) : KeepsAll s (passwordChar l d c s) := by
  unfold passwordChar
  simp only
  split
  · split
    · exact ((Keeps.placeText l _ s).trans (.placeText l _ _)).all
    · refine ⟨some l, (Keeps.claimFor l d _).after (.after (.modLine ?_) (.placeText l _ s)), ?_⟩
      · exact .of_dialogue fun typing => by simp at typing
      · rintro _ ⟨⟩
        exact claimFor_digestAgrees d (by simpa [modDialogue] using (placeText_state l _ s).trans signOn)
  · split
    · split
      · refine (Keeps.modDialogue_of dialogue fun ok _ _ => ?_).all
        rw [ok password entry, digestOf, digestOf, List.foldl_append]
        rfl
      · exact (Keeps.refl s).all
    · split
      · split
        · exact (Keeps.refl s).all
        · refine (Keeps.modDialogue_of dialogue ?_).all
          exact fun _ _ _ => rfl
      · exact (Keeps.refl s).all

theorem characterOn_keeps (c : Nat) (s : State) : KeepsAll s (characterOn l c s) := by
  unfold characterOn
  split
  · next signOn =>
    unfold dialogueChar
    split
    · exact (Keeps.refl s).all
    · next d dialogue =>
      split
      · next phase => exact (Keeps.userChar dialogue phase c).all
      · next step phase => exact passwordChar_keeps signOn dialogue phase step c
      · exact (Keeps.refl s).all
  · exact ((Keeps.modLine (.receive c)).trans (.offerData l _)).all
  · exact (Keeps.refl s).all

end

theorem execCharacter_keeps (l : Fin 8) (c : Nat) (s : State) : KeepsNext s (execCharacter l c s) := by
  rintro _ ⟨⟩
  split
  · exact (Keeps.refl s).all
  · simp only
    split
    · have armed (free : Option (Fin 8)) : Keeps free s (s.modLine l (fun x => { x with receiver := .framing })) := .modLine (.of_same rfl rfl rfl rfl id)
      obtain ⟨free, h, rest⟩ := characterOn_keeps (l := l) c (s.modLine l (fun x => { x with receiver := .framing }))
      exact ⟨free, (armed free).trans h, rest⟩
    · exact (Keeps.refl s).all

/-! ### The meter -/

theorem execPosting_keeps (k : Fin 12) (s : State) : KeepsNext s (execPosting k s) := .awake fun _ => by
  split
  · exact .refl s
  · split
    · exact .postSecond k s
    · exact .refl s

theorem execBandFlip_keeps (s : State) : KeepsNext s (execBandFlip s) := .awake fun _ => by
  split
  · exact .countDown s
  · exact .refl s

theorem Keeps.meterTick {free : Option (Fin 8)} (s : State) : Keeps free s (meterTick s) := by
  unfold Machine.meterTick
  split
  · exact (countDown _).after ((foldl (fun k s => postSecond k s) _ _).after (foldl (fun k s => chargeSecond k s) _ _))
  · exact refl s

theorem Keeps.timersTick {free : Option (Fin 8)} (s : State) : Keeps free s (timersTick s) := by
  have lines : Keeps free s { s with lines := s.lines.map Line.second } := setLines _ fun l => by simpa using LineKeeps.second
  refine ⟨id, .refl _, lines.ringing, lines.shaped, lines.rings, lines.digests, fun h => ⟨by simpa [Machine.timersTick] using h.1, h.2⟩,
    fun h => ?_, id, fun h => ?_, fun h => ⟨h.1, h.2.1, fun k x hx => ?_⟩, fun h => ?_⟩
  · obtain ⟨zero, own, reset⟩ := h
    have absent (a : Fin 16) (ha : s.bus.census[a] = none) : (Machine.timersTick s).bus.census[a] = none := by
      simp only [Fin.getElem_fin] at ha
      simp [Machine.timersTick, ha]
    exact ⟨absent 0 zero, fun a ha => absent a (own a ha), fun hr a => absent a (reset hr a)⟩
  · exact Home.Consistent.map (h := s.home) h fun _ _ => ⟨rfl, rfl, rfl⟩
  · have : s.table.slots[k].session.map (fun x => { x with grace := down x.grace }) = some x := by
      simpa [Machine.timersTick, Slot.second] using hx
    obtain ⟨y, hy, rfl⟩ := Option.map_eq_some_iff.1 this
    exact h.2.2 k y hy
  · have ranged := h.ranged
    refine State.withinStore.setHome (s := s) h rfl rfl ⟨fun e he => ?_, ranged.2.1, ranged.2.2⟩
    obtain ⟨e, old, rfl⟩ := List.mem_map.1 he
    exact ranged.1 e old

theorem execTick_keeps (s : State) : KeepsNext s (execTick s) :=
  .awake fun _ => (Keeps.meterTick s).trans (.timersTick _)

theorem Keeps.setTime {free : Option (Fin 8)} (body : List Byte) (s : State) : Keeps free s (setTime body s) := by
  unfold Machine.setTime
  split
  · exact offerResult _ _ _ s
  · split
    · exact offerResult _ _ _ s
    · exact (offerResult _ _ _ _).after (setMeter fun h => ⟨h.1, h.2.1⟩)

theorem fieldOf_one_le (b : List Byte) (i : Nat) : fieldOf b i 1 ≤ 255 := by
  unfold fieldOf numberOf
  match b.drop i with
  | [] => exact Nat.zero_le _
  | x :: _ => simpa using Nat.le_of_lt_succ x.isLt

theorem tariffEntries_byte {n : Nat} {b : List Byte} {e : Nat × Nat × Nat} (h : e ∈ tariffEntries n b) : e.2.2 ≤ 255 := by
  induction n generalizing b with
  | zero => cases h
  | succ n ih =>
    rcases List.mem_cons.1 h with rfl | h
    · exact fieldOf_one_le _ _
    · exact ih h

/-- The entries of the tariff table have their ranges (R98). -/
def Meter.TariffsFit (m : Meter) : Prop := ∀ i : Fin 64, m.tariffs[i].rate ≤ 4095 ∧ m.tariffs[i].surcharge ≤ 255

theorem Meter.TariffsFit.load {m : Meter} {e : Nat × Nat × Nat} (h : m.TariffsFit) (byte : e.2.2 ≤ 255) : (m.load e).TariffsFit := by
  unfold Meter.load
  split
  · next fits =>
    simp only [tariffFits, Bool.and_eq_true, decide_eq_true_eq] at fits
    intro i
    simp only [Fin.getElem_fin, Vector.getElem_setIfInBounds]
    split
    · exact ⟨fits.2, byte⟩
    · exact h i
  · exact h

theorem Keeps.loadTariffs {free : Option (Fin 8)} (body : List Byte) (s : State) : Keeps free s (loadTariffs body s) := by
  unfold Machine.loadTariffs
  split
  · exact offerResult _ _ _ s
  · next entries read =>
    have bytes : ∀ e ∈ entries, e.2.2 ≤ 255 := by
      unfold tariffLoadOf at read
      split at read
      · obtain rfl := Option.some.inj read; exact fun e => tariffEntries_byte
      · cases read
    have loaded : ∀ (es : List (Nat × Nat × Nat)) (m : Meter), (∀ e ∈ es, e.2.2 ≤ 255) → m.TariffsFit ∧ m.overflow ≤ 65535 →
        (es.foldl Meter.load m).TariffsFit ∧ (es.foldl Meter.load m).overflow ≤ 65535 := by
      intro es
      induction es with
      | nil => exact fun m _ h => h
      | cons e es ih =>
        intro m hb h
        refine ih _ (fun x hx => hb x (List.mem_cons_of_mem _ hx)) ⟨h.1.load (hb e List.mem_cons_self), ?_⟩
        have : (m.load e).overflow = m.overflow := by unfold Meter.load; split <;> rfl
        rw [this]; exact h.2
    exact (offerResult _ _ _ _).after (setMeter fun h => loaded entries s.meter bytes ⟨h.1, h.2.1⟩)

/-! ### The session table -/

theorem Keeps.lateGrant {free : Option (Fin 8)} (source : Nat) (g : GrantBody) (s : State) : Keeps free s (lateGrant source g s) := by
  unfold Machine.lateGrant
  split
  · exact refl s
  · exact offerZeroCharge _ _ _ s

theorem Keeps.bindSession {free : Option (Fin 8)} (k : Fin 12) (x : Session) (source : Nat) (g : GrantBody) (s : State) :
    Keeps free s (bindSession k x source g s) := by
  unfold Machine.bindSession
  simp only
  refine (offerTally _).after ?_
  have made : Keeps free s (s.modSlot k fun y => { y with claimTimer := none, session := some { x with home := some source, acctClass := some g.acctClass, state := .active, postCounter := 0, total := s.openingTotal g x.speedClass, remainder := 0, saturated := false } }) := by
    refine modSlot fun hm y hy => ?_
    obtain rfl := Option.some.inj hy
    refine ⟨?_, Nat.zero_le _, Nat.zero_le _⟩
    show s.openingTotal g x.speedClass ≤ 16777215
    unfold State.openingTotal
    split
    · unfold Meter.tariff
      split
      · next i => exact (hm.1 ⟨_, i⟩).2.trans (by decide)
      · exact Nat.zero_le _
    · exact Nat.zero_le _
  split
  · exact made
  · next l _ =>
    refine Keeps.after ?_ (after (modLine (l := l) .bind) made)
    unfold resumedText
    split
    · exact refl _
    · exact placeFixed _ _ _

theorem Keeps.settleAbandoned {free : Option (Fin 8)} (k : Fin 12) (x : Session) (source : Nat) (g : GrantBody) (s : State) :
    Keeps free s (settleAbandoned k x source g s) := by
  refine (offerFinal k _).after (modSlot fun hm y hy => ?_)
  obtain rfl := Option.some.inj hy
  exact ⟨Nat.zero_le _, Nat.zero_le _, Nat.zero_le _⟩

theorem Keeps.settleGrant {free : Option (Fin 8)} (source : Nat) (g : GrantBody) (s : State) : Keeps free s (settleGrant source g s) := by
  unfold Machine.settleGrant
  split
  · exact refl s
  · next k _ =>
    split
    · exact lateGrant _ _ s
    · split
      · split
        · exact lateGrant _ _ s
        · exact (logFault _ _ s).trans (offerZeroCharge _ _ _ _)
      · have recorded : Keeps free s (s.modSlot k fun y => { y with replySource := some source }) := modSlot fun hm y hy => hm.2.2 _ y hy
        simp only
        split
        · exact recorded.trans (lateGrant _ _ _)
        · split
          · split
            · exact recorded.trans (settleAbandoned _ _ _ _ _)
            · exact recorded.trans (bindSession _ _ _ _ _)
          · exact recorded

theorem Keeps.settleOld {free : Option (Fin 8)} (g : GrantBody) (s : State) : Keeps free s (settleOld g s) := by
  have moved (k : Fin 12) : ∀ t, QueueTest t → ∀ e : Entry, t { e with payload := e.payload.madeMoved k } = t e := by
    intro t ht e
    obtain ⟨_, y, _, _⟩ := e
    cases y with
    | charge c o =>
      cases o with
      | none => rfl
      | some j =>
        simp only [Payload.madeMoved]
        split <;> cases ht <;> rfl
    | _ => cases ht <;> rfl
  unfold Machine.settleOld
  split
  · exact refl s
  · split
    · exact refl s
    · split
      · exact endSession _ _ s
      · split
        · exact (rewriteWaiting _ (moved _)).trans (modSession fun x hx => hx)
        · exact refl s
      · exact refl s

theorem Keeps.resumeDialogue {free : Option (Fin 8)} (l : Fin 8) (s : State) : Keeps free s (resumeDialogue l s) :=
  (modLine .resume).trans (placeText l _ _)

theorem Keeps.denyLine {free : Option (Fin 8)} (l : Fin 8) (r : DenyReason) (s : State) : Keeps free s (denyLine l r s) := by
  have told (t : FixedText) : Keeps free s (Machine.hangUp l (Machine.placeFixed l t s)) := (placeFixed l t s).trans (hangUp l _)
  have failed : Keeps free s (failedSignOn l s) := by
    unfold failedSignOn
    simp only
    generalize (match s.lines[l].dialogue with | some d => d.attempts | none => 0) + 1 = attempts
    have counted : Keeps free s (Machine.placeFixed l .signOnFailed (s.modLine l fun x => { x with dialogue := x.dialogue.map fun d => { d with attempts := attempts } })) :=
      (placeFixed l _ _).after (modLine (.of_dialogue fun _ h => Line.digestAgrees_map (f := fun d => { d with attempts := attempts }) (fun d hp hs => ⟨hp, hs, id⟩) h _ rfl))
    split
    · exact counted.trans (resumeDialogue l _)
    · exact counted.trans (hangUp l _)
  cases r with
  | homeBusy => exact (placeFixed l _ s).trans (resumeDialogue l _)
  | badDigest => exact failed
  | noAccount => exact failed
  | _ => exact told _

theorem Keeps.settleDeny {free : Option (Fin 8)} (source : Nat) (d : DenyBody) (s : State) : Keeps free s (settleDeny source d s) := by
  unfold Machine.settleDeny
  split
  · exact refl s
  · next k _ =>
    split
    · exact refl s
    · split
      · split
        · exact refl s
        · exact logFault _ _ s
      · have recorded : Keeps free s (s.modSlot k fun y => { y with replySource := some source }) := modSlot fun hm y hy => hm.2.2 _ y hy
        simp only
        split
        · exact recorded
        · split
          · have freed := recorded.trans (freeSlot (free := free) k _)
            split
            · exact freed
            · split
              · exact freed
              · exact freed.trans (denyLine _ _ _)
          · exact recorded

theorem execClaimTimerExpiry_keeps (k : Fin 12) (s : State) : KeepsNext s (execClaimTimerExpiry k s) := .awake fun _ => by
  split
  · exact .refl s
  · split
    · exact .homeSilent k s
    · exact .refl s

theorem Keeps.settleCutoff {free : Option (Fin 8)} (c : CutoffBody) (s : State) : Keeps free s (settleCutoff c s) := by
  unfold Machine.settleCutoff
  split
  · exact refl s
  · split
    · refine after (modSession fun x hx => hx) ?_
      split
      · exact refl s
      · exact placeFixed _ _ s
    · exact endSession _ _ s
    · exact refl s

theorem execDetachGraceExpiry_keeps (k : Fin 12) (s : State) : KeepsNext s (execDetachGraceExpiry k s) := .awake fun _ => by
  split
  · exact .refl s
  · split
    · exact .endSession _ _ s
    · exact .refl s

theorem execCutoffGraceExpiry_keeps (k : Fin 12) (s : State) : KeepsNext s (execCutoffGraceExpiry k s) := .awake fun _ => by
  split
  · exact .refl s
  · split
    · refine (Keeps.endSession _ _ _).after ?_
      split
      · exact .refl s
      · exact .hangUp _ s
    · exact .refl s

theorem Keeps.settleRefuse {free : Option (Fin 8)} (r : RefuseBody) (s : State) : Keeps free s (settleRefuse r s) := by
  have logged : Keeps free s (logRefused r s) := logFault _ _ s
  unfold Machine.settleRefuse
  split
  · exact refl s
  · split
    · exact (endSession _ _ _).after ((hangUpWith _ _ _).after logged)
    · exact (endSession _ _ _).after ((hangUpWith _ _ _).after logged)
    · exact (endSession _ _ _).after logged
    · exact refl s

theorem Keeps.forceOff {free : Option (Fin 8)} (body : List Byte) (s : State) : Keeps free s (forceOff body s) := by
  unfold Machine.forceOff
  split
  · exact offerResult _ _ _ s
  · split
    · exact offerResult _ _ _ s
    · split
      · exact offerResult _ _ _ s
      · refine (offerResult _ _ _ _).after ?_
        unfold forceOffSession
        split
        · exact (hangUpWith _ _ s).trans (endSession _ _ _)
        · exact (hangUpWith _ _ s).trans (endSession _ _ _)
        · exact endSession _ _ s
        · split
          · exact refl s
          · exact (hangUpWith _ _ _).after (modSession fun x hx => hx)
        · exact refl s

theorem Keeps.settleData {free : Option (Fin 8)} (d : DataBody) (s : State) : Keeps free s (settleData d s) := by
  have discarded : Keeps free s (discardFrame s) := ⟨id, .refl _, id, id, id, id, id, id, id, id, id, id⟩
  unfold Machine.settleData
  split
  · exact discarded
  · split
    · split
      · exact discarded
      · simp only
        split
        · exact (endSession _ _ _).after ((hangUp _ _).after (modLine (.joinHost _)))
        · exact modLine (.joinHost _)
    · exact discarded

theorem execTallyHeartbeatExpiry_keeps (s : State) : KeepsNext s (execTallyHeartbeatExpiry s) := .awake fun _ => by
  split
  · exact (Keeps.offerTally _).after .setTable_sameSlots
  · exact .refl s

/-! ### The bus -/

theorem execFrameReceived_keeps (bytes : List Byte) (broken : Bool) (s : State) : KeepsNext s (execFrameReceived bytes broken s) :=
  .awake fun _ => by
    split
    · exact .refl s
    · exact (Keeps.busTaken s).trans (.receiveTrain _ _ _)

theorem execBusIdle_keeps (s : State) : KeepsNext s (execBusIdle s) := .awake fun _ => by
  split
  · exact .refl s
  · exact .setBus rfl rfl

theorem execTransmissionStart_keeps (slot : Nat) (s : State) : KeepsNext s (execTransmissionStart slot s) := .awake fun _ => by
  split
  · next may =>
    split
    · exact .refl s
    · next e _ => exact (Keeps.startEntry e may).trans ((Keeps.busTaken _).trans (.noteStart e _))
  · exact .refl s

theorem execFrameSent_keeps (s : State) : KeepsNext s (execFrameSent s) := .awake fun _ => by
  split
  · exact .refl s
  · exact (Keeps.landed s).trans ((Keeps.tellSent _ _).trans ((Keeps.offerFreed _).trans (.takePassed _ _ _ _ _)))

theorem execReadBackMismatch_keeps (s : State) : KeepsNext s (execReadBackMismatch s) := .awake fun _ => by
  split
  · exact .refl s
  · split
    · exact (Keeps.setQueue (.replace fun p hp h => .inl (hp.stop _ _ h))).trans (.tellStopped _ _)
    · exact (Keeps.landed s).trans ((Keeps.logFault _ _ _).trans ((Keeps.tellDropped _ _).trans (.offerFreed _)))

end Sys2Proof.Machine
end

section
/-! What every step keeps: the store's accesses, the account home's frames and the host adapter's commands. -/

namespace Sys2Proof.Machine

/-! ### What the accesses leave of the home -/

theorem countCorrected_home (w : Nat) (s : State) : (countCorrected w s).home = s.home := (countCorrected_keeps w s).2.2.1

theorem correctOnRead_home (w : Nat) (r : WordRead) (s : State) : (correctOnRead w r s).home = s.home := by
  unfold correctOnRead
  split
  · exact countCorrected_home w _
  · rfl

theorem correctRecord_home (index : Nat) (s : State) : (correctRecord index s).home = s.home := by
  simp only [correctRecord, recordWords, List.foldl_cons, List.foldl_nil, correctOnRead_home]

theorem writeRecord_home (index : Nat) (r : Record) (s : State) : (writeRecord index r s).home = s.home := rfl

theorem resetFailures_home (index : Nat) (r : Record) (s : State) : (resetFailures index r s).home = s.home := by
  unfold resetFailures
  split
  · rfl
  · exact writeRecord_home _ _ _

/-! ### A CLAIM granted -/

/-- The earliest DETACHED entry is one of the list (R62). -/
theorem Home.earliestDetached_mem {h : Home} {a : Nat} {e : HomeEntry} (he : h.earliestDetached a = some e) :
    e ∈ h.list ∧ e.account = a := by
  obtain ⟨x, _, hx⟩ := List.exists_of_findSome?_eq_some he
  split at hx
  · next d found =>
    split at hx
    · next account => cases hx; exact ⟨List.mem_of_find?_eq_some found, account⟩
    · cases hx
  · cases hx

/-- A reattachment at the end of its CLAIM keeps the home consistent (R62). -/
theorem Home.Consistent.reattached {h : Home} {b : ClaimBody} (c : h.Consistent) (work : h.work = some (.claim b)) (old : HomeEntry) :
    ({ h.reattached b old with work := none } : Home).Consistent := by
  obtain ⟨distinct, nodup, order, successor, claim⟩ := c
  have new := claim b work
  let f : HomeEntry → HomeEntry := fun e =>
    if e.handle = old.handle then { e.heard with state := .moving, successor := some b.handle } else e
  have handle (e : HomeEntry) : (f e).handle = e.handle := by simp only [f]; split <;> rfl
  have moved : Home.Consistent { h with
      list := h.list.map f, detachOrder := h.detachOrder.filter (fun y => decide (y ≠ old.handle)), work := none } := by
    refine ⟨?_, nodup.filter _, fun x => ?_, fun e he => ?_, nofun⟩
    · simpa only [List.pairwise_map, handle] using distinct
    · simp only [List.mem_filter, order x, decide_eq_true_eq, List.mem_map, exists_exists_and_eq_and, handle]
      constructor
      · rintro ⟨⟨e, he, rfl, detached⟩, ne⟩
        exact ⟨e, he, rfl, by simp only [f, if_neg ne]; exact detached⟩
      · rintro ⟨e, he, rfl, detached⟩
        by_cases same : e.handle = old.handle
        · simp only [f, if_pos same] at detached; cases detached
        · simp only [f, if_neg same] at detached
          exact ⟨⟨e, he, rfl, detached⟩, same⟩
    · obtain ⟨e, mem, rfl⟩ := List.mem_map.1 he
      by_cases same : e.handle = old.handle
      · simp [f, if_pos same]
      · simp only [f, if_neg same]; exact successor e mem
  exact moved.append (e := HomeEntry.fresh b) rfl
    (fun x hx => by
      obtain ⟨e, mem, rfl⟩ := List.mem_map.1 hx
      rw [handle]; exact new e mem) rfl rfl

/-- A GRANT, behind which the CLAIM ends: the home's list changes with the work, and the frame's offer does not read the home. -/
theorem finishClaim_offerClassOne {a : Nat} {y : Payload} {u : State} {h : Home} :
    finishClaim (offerClassOne a y (u.setHome h)) =
      (h.list.filter (fun e => e.expiryPutOff && decide (e.silence = 0))).foldl (fun s e => removeOrphan e s)
        ((offerClassOne a y u).setHome { h with work := none, list := h.list.map (fun e => { e with expiryPutOff := false }) }) := by
  rw [offerClassOne_setHome]
  rfl

namespace Keeps
variable {free : Option (Fin 8)} {s : State}

/-- The end of a CLAIM that a GRANT answers. -/
theorem grantAndFinish {a : Nat} {g : GrantBody} {u : State} {h : Home} (first : h.first = u.home.first) (count : h.count = u.home.count)
    (lists : u.homeFits → h.list.length ≤ 48 ∧ h.quarantine.length ≤ 8)
    (consistent : u.home.Consistent → ({ h with work := none } : Home).Consistent)
    (ranged : u.home.Ranged → h.Ranged) :
    Keeps free u (Machine.finishClaim (Machine.offerClassOne a (.grant g) (u.setHome h))) := by
  rw [finishClaim_offerClassOne]
  refine (foldl (fun e s => removeOrphan e s) _ _).after ?_
  refine Keeps.trans (offerClassOne (a := a) (Payload.plain_grant g) u) ?_
  have home : (Machine.offerClassOne a (.grant g) u).home = u.home := (offerClassOne_keeps _ _ _).2.1
  refine setHome_ranged (by rw [home]; exact first) (by rw [home]; exact count) (fun hf => ?_) (fun c => ?_) fun r => ?_
  · have := lists (by simpa only [State.homeFits, home] using hf)
    exact ⟨by simpa using this.1, this.2⟩
  · rw [home] at c
    exact (consistent c).map fun _ _ => ⟨rfl, rfl, rfl⟩
  · rw [home] at r
    refine ⟨fun e he => ?_, (ranged r).2.1, nofun⟩
    obtain ⟨e, mem, rfl⟩ := List.mem_map.1 he
    exact (ranged r).1 e mem

theorem resetFailures {index : Nat} (r : Record) (h : index < 512) (s : State) : Keeps free s (resetFailures index r s) := by
  unfold Machine.resetFailures
  split
  · exact refl s
  · exact writeRecord _ h

/-- The verdict on a CLAIM carried out, and the CLAIM ended (R59 to R64). -/
theorem carryOut {c : ClaimBody} {r : Record} (h : s.home.index c.account < 512) (work : s.home.work = some (.claim c)) :
    Keeps free s (Machine.finishClaim (carryOut c r (s.home.verdict c r) s)) := by
  have places (granted : (∃ old, s.home.verdict c r = .reattach old) ∨ s.home.verdict c r = .new) : s.home.list.length < 48 := by
    by_contra full
    unfold Home.verdict at granted
    have : Config.homeListPlaces ≤ s.home.list.length := Nat.le_of_not_lt full
    rw [if_pos this] at granted
    split_ifs at granted <;> simp at granted
  generalize hv : s.home.verdict c r = v at places ⊢
  have deny (x : DenyReason) (u : State) : Keeps free u (Machine.finishClaim (Machine.denyClaim c x u)) :=
    (denyClaim c x u).trans (finishClaim _)
  cases v with
  | deny reason =>
    cases reason with
    | badDigest => exact (writeRecord _ h).trans (deny _ _)
    | _ => exact deny _ s
  | reattach old =>
    have mem : old ∈ s.home.list ∧ old.account = c.account := by
      unfold Home.verdict at hv
      split_ifs at hv
      all_goals
        split at hv
        · next e he => cases hv; exact Home.earliestDetached_mem he
        · cases hv
    refine (resetFailures r h s).trans ?_
    have home := resetFailures_home (s.home.index c.account) r s
    have hfc : (s.home.reattached c old).first = s.home.first ∧ (s.home.reattached c old).count = s.home.count := ⟨rfl, rfl⟩
    refine grantAndFinish (by rw [home]; rfl) (by rw [home]; rfl) (fun hf => ?_) (fun k => ?_) fun k => ?_
    · have q := hf.2
      rw [home] at q
      have := places (.inl ⟨old, rfl⟩)
      exact ⟨by simp only [Home.reattached, Home.modEntry, List.length_append, List.length_map, List.length_singleton]; omega, q⟩
    · rw [home] at k; exact k.reattached work old
    · rw [home] at k
      obtain ⟨list, backlog, works⟩ := k
      refine ⟨fun e he => ?_, backlog, works⟩
      rcases List.mem_append.1 he with he | he
      · obtain ⟨e, mem, rfl⟩ := List.mem_map.1 he
        have : (if e.handle = old.handle then { e.heard with state := .moving, successor := some c.handle } else e).account = e.account := by
          split <;> rfl
        rw [this]
        exact list e mem
      · obtain rfl := List.mem_singleton.1 he
        exact works _ work
  | new =>
    have home := resetFailures_home (s.home.index c.account) r s
    refine (resetFailures r h s).trans ?_
    refine grantAndFinish (by rw [home]) (by rw [home]) (fun hf => ?_) (fun k => ?_) fun k => ?_
    · have q := hf.2
      rw [home] at q
      have := places (.inr rfl)
      exact ⟨by simp only [List.length_append, List.length_singleton]; omega, q⟩
    · rw [home] at k
      exact Home.Consistent.append (h := { s.home with work := none }) (k.setWork nofun) rfl (k.2.2.2.2 c work) rfl rfl
    · rw [home] at k
      obtain ⟨list, backlog, works⟩ := k
      refine ⟨fun e he => ?_, backlog, works⟩
      rcases List.mem_append.1 he with he | he
      · exact list e he
      · obtain rfl := List.mem_singleton.1 he
        exact works _ work

/-! ### The effects of the accesses -/

theorem claimAccess {c : ClaimBody} (h : s.home.index c.account < 512) (work : s.home.work = some (.claim c)) :
    Keeps free s (claimAccess c s) := by
  have deny (x : DenyReason) (u : State) : Keeps free u (Machine.finishClaim (Machine.denyClaim c x u)) :=
    (denyClaim c x u).trans (finishClaim _)
  have home := correctRecord_home (s.home.index c.account) s
  unfold Machine.claimAccess
  simp only
  refine (correctRecord h s).trans ?_
  split
  · exact (listAccount _ _ _ _).trans (deny _ _)
  · exact (listAccount _ _ _ _).trans (deny _ _)
  · split
    · exact deny _ _
    · exact carryOut (by rw [home]; exact h) (by rw [home]; exact work)

theorem cutOne (account : Nat) (balance : Int) (s : State) (e : HomeEntry) : Keeps free s (cutOne account balance s e) := by
  unfold Machine.cutOne
  split
  · simp only
    refine (offerClassOne (by simp) _).after ?_
    split
    · exact modEntry _ (fun _ => ⟨rfl, rfl, rfl⟩) fun _ => rfl
    · exact refl s
  · exact refl s

theorem cutoffCheck (account : Nat) (balance : Int) (allowance : Nat) (s : State) : Keeps free s (cutoffCheck account balance allowance s) := by
  unfold Machine.cutoffCheck
  split
  · exact foldl (fun e s => cutOne account balance s e) _ s
  · exact refl s

theorem placeFaulted (kind : FaultKind) (account word : Nat) (x : Handle) (n : Nat) (s : State) :
    Keeps free s (placeFaulted kind account word x n s) := by
  unfold Machine.placeFaulted
  split
  · exact (listAccount _ _ _ s).trans (addUnbilled _ _ _ _)
  · exact (listAccount _ _ _ s).trans (addHeld _ _ _ _)

theorem applyToRecord {e : HomeEntry} (total : Nat) (final : Bool) (h : s.home.index e.account < 512) :
    Keeps free s (applyToRecord e total final s) := by
  unfold Machine.applyToRecord
  simp only
  refine (correctRecord h s).trans ?_
  split
  · exact (placeFaulted _ _ _ _ _ _).trans (settleEntry _ _ _ _)
  · exact (placeFaulted _ _ _ _ _ _).trans (settleEntry _ _ _ _)
  · split
    · exact (addHeld _ _ _ _).trans (settleEntry _ _ _ _)
    · split
      · exact (addUnbilled _ _ _ _).trans (settleEntry _ _ _ _)
      · have debited := (writeRecord (free := free) (s := Machine.correctRecord (s.home.index e.account) s)
          ((s.store.readRecord (s.home.index e.account) e.account).record.debit (total - e.applied)) h).trans
          ((addUnbilled e.account (some e.handle)
            (debitExcess (s.store.readRecord (s.home.index e.account) e.account).record.balance (total - e.applied)) _).trans
            (settleEntry e.handle total final _))
        split
        · exact debited
        · exact debited.trans (cutoffCheck _ _ _ _)

theorem chargeAccess (x : Handle) (account total : Nat) (final fromBacklog : Bool)
    (h : ∀ e, s.home.find x = some e → s.home.index e.account < 512) : Keeps free s (chargeAccess x account total final fromBacklog s) := by
  unfold Machine.chargeAccess
  simp only
  have backlog : ∀ b ∈ (if fromBacklog then s.home.backlog.filter (fun b => decide (b.handle ≠ x)) else s.home.backlog),
      b ∈ s.home.backlog := by
    split
    · exact fun b => List.mem_of_mem_filter
    · exact fun b => id
  generalize (if fromBacklog then s.home.backlog.filter (fun b => decide (b.handle ≠ x)) else s.home.backlog) = rest at backlog ⊢
  have taken : Keeps free s (s.setHome { s.home with work := none, backlog := rest }) :=
    setHome_ranged rfl rfl id (fun c => ⟨c.1, c.2.1, c.2.2.1, c.2.2.2.1, nofun⟩) fun r => ⟨r.1, fun b hb => r.2.1 b (backlog b hb), nofun⟩
  refine taken.trans ?_
  split
  · exact answerUnknown _ _ _ _
  · next e found =>
    split
    · exact applyToRecord total final (h e found)
    · exact applyAside _ _ _ _

theorem listFaulted (account : Nat) (o : RecordOutcome) (s : State) : Keeps free s (listFaulted account o s) := by
  unfold Machine.listFaulted
  split
  · exact listAccount _ _ _ s
  · exact listAccount _ _ _ s
  · exact refl s

theorem loadAccess {l : AccountLoad} (h : s.home.index l.account < 512) : Keeps free s (loadAccess l s) := by
  unfold Machine.loadAccess
  simp only
  refine (offerResult _ _ _ _).after ((clearMark _ _).after ((addUnbilled _ _ _ _).after ?_))
  exact after (setHome_aside (quarantine := fun hq => (List.length_filter_le _ _).trans hq)) (writeRecord _ h)

/-- A record read with what its outcome brings (R123, R136). -/
theorem readRecord {account : Nat} (o : RecordOutcome) (h : s.home.index account < 512) :
    Keeps free s (Machine.listFaulted account o (Machine.correctRecord (s.home.index account) s)) :=
  (listFaulted _ _ _).after (correctRecord h s)

theorem readAccess {account : Nat} (h : s.home.index account < 512) : Keeps free s (readAccess account s) :=
  (offerReply _ _ _).after (readRecord _ h)

theorem depositAccess {account amount : Nat} (h : s.home.index account < 512) : Keeps free s (depositAccess account amount s) := by
  unfold Machine.depositAccess
  simp only
  refine (readRecord (s.store.readRecord (s.home.index account) account).outcome h).trans ?_
  split
  · exact offerResult _ _ _ _
  · split
    · exact offerResult _ _ _ _
    · exact (offerResult _ _ _ _).after ((clearMark _ _).after (writeRecord _ h))

theorem unlockAccess {account : Nat} (h : s.home.index account < 512) : Keeps free s (unlockAccess account s) := by
  unfold Machine.unlockAccess
  simp only
  refine (readRecord (s.store.readRecord (s.home.index account) account).outcome h).trans ?_
  split
  · exact offerResult _ _ _ _
  · split
    · exact offerResult _ _ _ _
    · exact (offerResult _ _ _ _).after (writeRecord _ h)

theorem setWords {n : Nat} (v : StoredWord) (h : n < Config.storeWords) : Keeps free s (s.setWords (s.store.words.write n v)) :=
  setStore (t := { s.store with words := s.store.words.write n v }) (fun hw => Memory.wf_write v hw h) id

theorem flipAccess {w : Nat} {mask : StoredWord} (h : w < Config.storeWords) : Keeps free s (flipAccess w mask s) :=
  (offerResult _ _ _ _).after (setWords _ h)

/-- A change of the store beside its words, where the pointers stay below their tops and a new host command lies in its range. -/
theorem setStore_pointers {t : Store} (words : t.words = s.store.words := by rfl)
    (pointer : s.store.scrubPointer < 2048 → t.scrubPointer < 2048)
    (migration : (∀ m, s.store.migration = some m → m.pointer < 256) → ∀ m, t.migration = some m → m.pointer < 256)
    (hostWork : t.hostWork = s.store.hostWork ∨ t.hostWork = none) : Keeps free s (s.setStore t) := by
  refine setStore (fun h => by rw [words]; exact h) fun h => ?_
  obtain ⟨small, p, m, rest, list, backlog, claim, charge, host⟩ := h
  refine ⟨small, pointer p, migration m, fun out => ?_, list, backlog, claim, charge, fun w hw => ?_⟩
  · obtain ⟨c, l, b, w, hn⟩ := rest out
    exact ⟨c, l, b, w, by rcases hostWork with e | e <;> simp [e, hn]⟩
  · rcases hostWork with e | e
    · exact host w (by rw [← e]; exact hw)
    · simp [e] at hw

theorem scrubAccess (h : s.store.scrubPointer < 2048) : Keeps free s (scrubAccess s) := by
  unfold Machine.scrubAccess
  simp only
  have corrected := correctOnRead (free := free) (s.store.decode s.store.scrubPointer) s h
  have wrapped : (s.store.scrubPointer + 1) % Config.storeWords < 2048 := Nat.mod_lt _ (Nat.zero_lt_succ 2047)
  generalize (s.store.scrubPointer + 1) % Config.storeWords = next at wrapped ⊢
  generalize Machine.correctOnRead s.store.scrubPointer (s.store.decode s.store.scrubPointer) s = u at corrected ⊢
  refine corrected.trans ?_
  have reported : Keeps free u (if (s.store.decode s.store.scrubPointer).outcome = .uncorrectable then
      Machine.reportUncorrectable s.store.scrubPointer u else u) := by
    split
    · exact reportUncorrectable _ u
    · exact refl u
  refine reported.trans ?_
  generalize (if (s.store.decode s.store.scrubPointer).outcome = .uncorrectable then
      Machine.reportUncorrectable s.store.scrubPointer u else u) = v
  exact setStore_pointers (pointer := fun _ => wrapped) (migration := id) (hostWork := .inl rfl)

theorem migrationAccess {m : Migration} (h : m.word < 2048) : Keeps free s (migrationAccess m s) := by
  unfold Machine.migrationAccess
  simp only
  generalize readStored (perSegment s.store.spareMap none m.segment.val) (s.store.words.read m.word) = r
  have counted : Keeps free s (if r.outcome = .corrected then Machine.countCorrected m.word s else s) := by
    split
    · exact countCorrected _ s
    · exact refl s
  refine counted.trans ?_
  generalize (if r.outcome = .corrected then Machine.countCorrected m.word s else s) = u
  have reported : Keeps free u (if r.outcome = .uncorrectable then Machine.reportUncorrectable m.word u else u) := by
    split
    · exact reportUncorrectable _ u
    · exact refl u
  refine reported.trans ?_
  generalize (if r.outcome = .uncorrectable then Machine.reportUncorrectable m.word u else u) = v
  have written := setWords (free := free) (s := v) (m.written r) h
  split
  · next below =>
    refine written.trans (setStore_pointers (pointer := id) (migration := fun _ n hn => ?_) (hostWork := .inl rfl))
    obtain rfl := Option.some.inj hn
    exact below
  · refine written.trans ((offerResult _ _ _ _).after ?_)
    exact setStore_pointers (pointer := id) (migration := fun _ _ => nofun) (hostWork := .inl rfl)

end Keeps
end Sys2Proof.Machine
end

section
/-! What every step keeps: the ends of the accesses, the commands of the home and the store, the station's commands, the supply
and the resets; and from them the statements about every step. -/

namespace Sys2Proof.Machine

/-! ### The ends of the accesses -/

theorem State.word_lt {s : State} (h : s.badWord = none) {w : Nat} (hw : w ∈ s.accessWords) : w < 2048 := by
  have := List.find?_eq_none.1 h w hw
  simpa [Config.storeWords] using this

/-- An access to a record of which every word exists is to one of the 512 records. -/
theorem index_lt_of_words {index : Nat} (h : ∀ w ∈ recordWords index, w < 2048) : index < 512 := by
  have := h (4 * index) (by simp [recordWords])
  omega

namespace Keeps
variable {free : Option (Fin 8)} {s : State}

theorem accessEffect (h : s.badWord = none) : Keeps free s (accessEffect s) := by
  have word := fun w => s.word_lt h (w := w)
  unfold Machine.accessEffect
  unfold State.accessWords at word
  split
  · exact refl s
  · next access =>
    rw [access] at word
    split
    · exact refl s
    · next c work =>
      simp only [work] at word
      exact claimAccess (index_lt_of_words word) work
    · next x a t f b work =>
      simp only [work] at word
      refine chargeAccess _ _ _ _ _ fun e found => ?_
      simp only [found] at word
      exact index_lt_of_words word
  · next access =>
    rw [access] at word
    split
    · exact refl s
    · next w hostWork =>
      simp only [hostWork] at word
      refine after (setStore_pointers (pointer := id) (migration := id) (hostWork := .inr rfl)) ?_
      cases w with
      | accountLoad l => exact loadAccess (index_lt_of_words word)
      | accountRead a => exact readAccess (index_lt_of_words word)
      | deposit a n => exact depositAccess (account := a) (amount := n) (index_lt_of_words word)
      | unlock a => exact unlockAccess (account := a) (index_lt_of_words word)
      | probe n => exact offerReply .probeData (probeBody s.store n) s
      | flip n m =>
        have exists_ : n < 2048 := word n List.mem_cons_self
        exact flipAccess (w := n) (mask := m) exists_
  · next access =>
    rw [access] at word
    split
    · exact refl s
    · next m migration =>
      simp only [migration] at word
      exact migrationAccess (word m.word (by simp))
  · next access =>
    rw [access] at word
    exact scrubAccess (word _ (by simp))

theorem endAccess (h : s.badWord = none) : Keeps free s (endAccess s) :=
  (accessEffect h).trans ((settleStore _).after setStore_aside)

end Keeps

theorem finishAccess_keeps (r : Requester) (s : State) : KeepsNext s (finishAccess r s) := by
  intro t ht
  rcases finishAccess_cases r s with ⟨_, he⟩ | ⟨_, _, w, _, he⟩ | ⟨_, _, good, he⟩ <;> rw [he] at ht <;> cases ht
  · exact (Keeps.refl s).all
  · exact (Keeps.endAccess good).all

/-! ### The account home -/

/-- An ACTIVE entry that hears a DETACH joins the detach order (R65). -/
theorem Home.Consistent.detach {h : Home} {x : Handle} {e : HomeEntry} (c : h.Consistent) (found : h.find x = some e)
    (active : e.state = .active) :
    ({ h.modEntry x HomeEntry.detach with detachOrder := h.detachOrder ++ [x] } : Home).Consistent := by
  have only := fun y hy hh => c.eq_of_find (d := y) found hy hh
  have handle : e.handle = x := by simpa using List.find?_some found
  have mem : e ∈ h.list := List.mem_of_find?_eq_some found
  obtain ⟨distinct, nodup, order, successor, claim⟩ := c
  let f : HomeEntry → HomeEntry := fun y => if y.handle = x then y.detach else y
  have detached (y : HomeEntry) : y.detach.handle = y.handle ∧ y.detach.successor = y.successor := by
    rw [HomeEntry.detach_eq]; exact ⟨rfl, rfl⟩
  have fHandle (y : HomeEntry) : (f y).handle = y.handle := by simp only [f]; split <;> simp [detached]
  have fElse (y : HomeEntry) (ne : y.handle ≠ x) : f y = y := if_neg ne
  have fE : (f e).state = .detached := by
    simp only [f, if_pos handle, HomeEntry.detach_eq, if_pos active]
  have absent : x ∉ h.detachOrder := fun hx => by
    obtain ⟨y, hy, hh, hd⟩ := (order x).1 hx
    rw [only y hy hh, active] at hd; cases hd
  refine ⟨?_, ?_, fun z => ?_, fun y hy => ?_, fun c hc y hy => ?_⟩
  · refine List.pairwise_map.2 (distinct.imp fun ne => ?_)
    change (f _).handle ≠ (f _).handle
    rwa [fHandle, fHandle]
  · exact nodup.append (List.nodup_singleton x) (by simpa using absent)
  · simp only [List.mem_append, List.mem_singleton, order z]
    constructor
    · rintro (⟨y, hy, rfl, hd⟩ | rfl)
      · have ne : y.handle ≠ x := fun hh => by rw [only y hy hh, active] at hd; cases hd
        exact ⟨f y, List.mem_map_of_mem hy, fHandle y, by rw [fElse y ne]; exact hd⟩
      · exact ⟨f e, List.mem_map_of_mem mem, (fHandle e).trans handle, fE⟩
    · rintro ⟨_, hy, hh, hd⟩
      obtain ⟨y, old, rfl⟩ := List.mem_map.1 hy
      change (f y).handle = z at hh
      change (f y).state = .detached at hd
      by_cases same : y.handle = x
      · exact .inr ((fHandle y).symm.trans hh ▸ same)
      · rw [fElse y same] at hd hh
        exact .inl ⟨y, old, hh, hd⟩
  · obtain ⟨y, old, rfl⟩ := List.mem_map.1 hy
    change (f y).successor.isSome = true ↔ (f y).state = .moving
    by_cases same : y.handle = x
    · obtain rfl := only y old same
      have : (f y).successor = y.successor := by simp only [f, if_pos same, detached]
      rw [this, successor y old, fE, active]
      simp
    · rw [fElse y same]; exact successor y old
  · obtain ⟨y, old, rfl⟩ := List.mem_map.1 hy
    change (f y).handle ≠ c.handle
    rw [fHandle]; exact claim c hc y old

namespace Keeps
variable {free : Option (Fin 8)} {s : State}

theorem clearStation (source : Nat) (s : State) : Keeps free s (clearStation source s) :=
  foldl (fun e s => removeOrphan e s) _ s

/-- Entries of the census of other addresses than 0 and the own, outside a reset (R90). -/
theorem setCensus {v : Vector (Option CensusEntry) 16}
    (h : ∀ a : Fin 16, v[a] = s.bus.census[a] ∨ v[a] = none ∨ 1 ≤ a.val ∧ a.val ≠ s.own ∧ s.inReset = false) :
    Keeps free s { s with bus := { s.bus with census := v } } := by
  refine ⟨id, .refl _, id, id, id, id, id, fun ⟨zero, own, reset⟩ => ⟨?_, fun a ha => ?_, fun hr a => ?_⟩, id, id, id, id⟩
  · rcases h 0 with e | e | ⟨pos, _⟩
    · exact e.trans zero
    · exact e
    · cases pos
  · rcases h a with e | e | ⟨_, notOwn, _⟩
    · exact e.trans (own a ha)
    · exact e
    · exact absurd ha notOwn
  · rcases h a with e | e | ⟨_, _, noReset⟩
    · exact e.trans (reset hr a)
    · exact e
    · exact absurd hr (by rw [Bool.not_eq_true]; exact noReset)

theorem countTally (source : Nat) (t : TallyBody) (noReset : s.inReset = false) : Keeps free s (countTally source t s) := by
  unfold Machine.countTally
  split
  · next other =>
    obtain ⟨above, _, notOwn⟩ := other
    refine setCensus fun a => ?_
    simp only [Fin.getElem_fin, Vector.getElem_setIfInBounds]
    split
    · next same => exact .inr (.inr ⟨same ▸ above, same ▸ notOwn, noReset⟩)
    · exact .inl rfl
  · exact refl s

theorem takeTally (source : Nat) (t : TallyBody) (noReset : s.inReset = false) : Keeps free s (takeTally source t s) := by
  unfold Machine.takeTally
  simp only
  split
  · exact (countTally source t noReset).trans (clearStation source _)
  · exact countTally source t noReset

end Keeps

theorem removeOrphan_home (e : HomeEntry) (s : State) : (removeOrphan e s).home = s.home.without e.handle := by
  unfold removeOrphan
  simp only
  split
  · rw [rewriteGrant_home, (logFault_keeps _ _ _).2.2.1]; rfl
  · rw [(logFault_keeps _ _ _).2.2.1]; rfl

namespace Keeps
variable {free : Option (Fin 8)} {s : State}

/-- A CLAIM of the range, of whose handle the home has no entry (R58, steps 1 and 2). -/
theorem requestClaim {c : ClaimBody} {u : State} (range : u.home.inRange c.account = true)
    (gone : ∀ e ∈ u.home.list, e.handle ≠ c.handle) :
    Keeps free u (if u.store.hold = .held then Machine.denyClaim c .homeBusy u
      else if u.home.quarantined c.account then Machine.denyClaim c .recordFault u
      else Machine.settleStore (u.setHome { u.home with work := some (.claim c) })) := by
  split
  · exact denyClaim _ _ u
  · split
    · exact denyClaim _ _ u
    · refine (settleStore _).after (setWork (d := u.home.draining) (fun _ b hb => ?_) fun _ w hw => ?_)
      · cases hb; exact gone
      · cases hw; exact range

/-- A CLAIM taken has found no entry of its handle, or removed it (R58). -/
theorem takeClaim (c : ClaimBody) (s : State) : Keeps free s (takeClaim c s) := by
  unfold Machine.takeClaim
  split
  · next range =>
    cases found : s.home.find c.handle with
    | none =>
      exact requestClaim range fun e he hh => by simpa [hh] using List.find?_eq_none.1 found e he
    | some e =>
      have handle : e.handle = c.handle := by simpa using List.find?_some found
      refine (removeOrphan e s).trans (requestClaim ?_ fun d hd hh => ?_)
      · rw [removeOrphan_home]; exact range
      · rw [removeOrphan_home] at hd
        exact absurd (hh.trans handle.symm) (by simpa using List.of_mem_filter hd)
  · exact refl s

theorem takeDetach (d : DetachBody) (s : State) : Keeps free s (takeDetach d s) := by
  unfold Machine.takeDetach
  split
  · split
    · exact refl s
    · next e found =>
      have handle : e.handle = d.handle := by simpa using List.find?_some found
      have mem := List.mem_of_find?_eq_some found
      have detached (x : HomeEntry) : x.detach.handle = x.handle ∧ x.detach.account = x.account ∧ x.detach.successor = x.successor ∧
          (x.detach.state = if x.state = .active then .detached else x.state) := by
        rw [HomeEntry.detach_eq]; exact ⟨rfl, rfl, rfl, rfl⟩
      simp only
      have ranged (r : s.home.Ranged) : (s.home.modEntry d.handle HomeEntry.detach).Ranged := by
        refine ⟨fun x hx => ?_, r.2.1, r.2.2⟩
        obtain ⟨x, old, rfl⟩ := List.mem_map.1 hx
        have : (if x.handle = d.handle then x.detach else x).account = x.account := by split <;> simp [detached]
        rw [this]; exact r.1 x old
      have lists (hf : s.homeFits) : (s.home.modEntry d.handle HomeEntry.detach).list.length ≤ 48 ∧ s.home.quarantine.length ≤ 8 :=
        ⟨by simpa [Home.modEntry] using hf.1, hf.2⟩
      split
      · next active =>
        refine setHome_ranged rfl rfl lists (fun c => c.detach found active) ranged
      · next other =>
        refine setHome_ranged rfl rfl lists (fun c => c.map fun x hx => ?_) ranged
        split
        · next same =>
          obtain rfl := c.eq_of_find found hx same
          rw [HomeEntry.detach_eq, if_neg other]
          exact ⟨rfl, rfl, rfl⟩
        · exact ⟨rfl, rfl, rfl⟩
  · exact refl s

theorem takeCharge (c : ChargeBody) (s : State) : Keeps free s (takeCharge c s) := by
  unfold Machine.takeCharge
  split
  · split
    · exact answerUnknown _ _ _ s
    · next e found =>
      have heard := noteCharge (free := free) e c.endCause.isSome s
      have home := noteCharge_home e c.endCause.isSome s
      have range (r : (Machine.noteCharge e c.endCause.isSome s).home.Ranged) :
          (Machine.noteCharge e c.endCause.isSome s).home.inRange e.account = true := by
        rw [home] at r ⊢
        exact r.1 e.heard (List.mem_map.2 ⟨e, List.mem_of_find?_eq_some found, by simp⟩)
      generalize Machine.noteCharge e c.endCause.isSome s = u at heard range ⊢
      simp only
      refine heard.trans ?_
      split
      · have work : (u.home.backlogged c.handle e.account c.total c.endCause.isSome).work = u.home.work := by
          unfold Home.backlogged; split <;> rfl
        have := backlogged (free := free) (s := u) (x := c.handle) (t := c.total) (f := c.endCause.isSome) range (.inr work)
        exact this
      · split
        · refine (settleStore _).after (setWork (d := u.home.draining) (fun _ _ => nofun) fun r w hw => ?_)
          cases hw; exact range r
        · exact applyAside _ _ _ u
  · exact refl s

end Keeps

theorem execSilenceTimerExpiry_keeps (h : Handle) (s : State) : KeepsNext s (execSilenceTimerExpiry h s) := .awake fun _ => by
  split
  · exact .refl s
  · split
    · split
      · exact .modEntry h (fun _ => ⟨rfl, rfl, rfl⟩) fun _ => rfl
      · exact .removeOrphan _ s
    · exact .refl s

theorem execCensusAgeExpiry_keeps (a : Fin 16) (s : State) : KeepsNext s (execCensusAgeExpiry a s) := .awake fun _ => by
  split
  · exact .refl s
  · split
    · refine .setCensus fun b => ?_
      simp only [Fin.getElem_fin, Vector.getElem_set]
      split
      · exact .inr (.inl rfl)
      · exact .inl rfl
    · exact .refl s

theorem execClaimEvaluation_keeps (s : State) : KeepsNext s (execClaimEvaluation s) := by
  unfold execClaimEvaluation
  split
  · exact finishAccess_keeps _ s
  · exact .of_next (.refl s)

theorem execChargeApplication_keeps (s : State) : KeepsNext s (execChargeApplication s) := by
  unfold execChargeApplication
  split
  · exact finishAccess_keeps _ s
  · exact .of_next (.refl s)

theorem execHostCommandAccessEnd_keeps (s : State) : KeepsNext s (execHostCommandAccessEnd s) := by
  unfold execHostCommandAccessEnd
  split
  · exact finishAccess_keeps _ s
  · exact .of_next (.refl s)

/-! ### The host adapter's commands -/

/-- Where the home range is not empty the station is in service and no reset is in progress. -/
theorem State.withinStore.serving {s : State} (h : s.withinStore) {a : Nat} (range : s.home.inRange a = true) :
    s.station.state = .inService ∧ s.inReset = false := by
  have pos := Home.count_pos range
  by_contra out
  have : s.station.state ≠ .inService ∨ s.inReset = true := by
    by_cases e : s.station.state = .inService
    · exact .inr (by simpa [e] using out)
    · exact .inl e
  exact absurd (h.2.2.2.1 this).1 (by omega)

namespace Keeps
variable {free : Option (Fin 8)} {s : State}

/-- A request of the host-command path, for an account of the range or a word of the store (R123, R138). -/
theorem requestHost {w : HostWork} (serving : s.withinStore → s.station.state = .inService ∧ s.inReset = false)
    (range : match w with
      | .accountLoad l => s.home.inRange l.account = true
      | .accountRead a => s.home.inRange a = true
      | .deposit a _ => s.home.inRange a = true
      | .unlock a => s.home.inRange a = true
      | .probe n => n < 2048
      | .flip n _ => n < 2048) : Keeps free s (requestHost w s) := by
  refine (settleStore _).after (setStore id fun h => ?_)
  obtain ⟨inService, noReset⟩ := serving h
  obtain ⟨small, p, m, -, list, backlog, claim, charge, -⟩ := h
  refine ⟨small, p, m, fun out => ?_, list, backlog, claim, charge, fun x hx => ?_⟩
  · rcases out with out | out
    · exact absurd inService out
    · exact absurd out (by rw [Bool.not_eq_true]; exact noReset)
  · obtain rfl := Option.some.inj hx
    cases w <;> exact range

theorem checkAccount {kind : CommandKind} {listed : Bool} {account : Option Nat} {go : State → State}
    (h : ∀ a, account = some a → s.home.inRange a = true → Keeps free s (go s)) :
    Keeps free s (checkAccount kind listed account go s) := by
  unfold Machine.checkAccount
  split
  · exact offerResult _ _ _ s
  · split
    · exact offerResult _ _ _ s
    · next a =>
      split
      · exact offerResult _ _ _ s
      · next inRange =>
        split
        · exact offerResult _ _ _ s
        · exact h a rfl (by simpa using inRange)

theorem takeAccountLoad (body : List Byte) (s : State) : Keeps free s (takeAccountLoad body s) := by
  unfold Machine.takeAccountLoad
  split
  · exact checkAccount fun _ => nofun
  · refine checkAccount fun a ha range => ?_
    obtain rfl := Option.some.inj ha
    split
    · exact offerResult _ _ _ s
    · exact requestHost (fun h => h.serving range) range

theorem takeAccountRead (body : List Byte) (s : State) : Keeps free s (takeAccountRead body s) := by
  refine checkAccount fun a ha range => requestHost (fun h => h.serving range) ?_
  simpa [ha] using range

theorem takeDeposit (body : List Byte) (s : State) : Keeps free s (takeDeposit body s) := by
  refine checkAccount fun a ha range => requestHost (fun h => h.serving range) ?_
  obtain ⟨p, hp, rfl⟩ := Option.map_eq_some_iff.1 ha
  simpa [hp] using range

theorem takeUnlock (body : List Byte) (s : State) : Keeps free s (takeUnlock body s) := by
  refine checkAccount fun a ha range => requestHost (fun h => h.serving range) ?_
  simpa [ha] using range

theorem takeProbe (body : List Byte) (noReset : s.inReset = false) : Keeps free s (takeProbe body s) := by
  unfold Machine.takeProbe
  split
  · exact offerResult _ _ _ s
  · next serving =>
    split
    · exact offerResult _ _ _ s
    · next w hw =>
      refine requestHost (fun _ => ⟨?_, noReset⟩) ?_
      · simp only [Bool.or_eq_true, not_or] at serving
        exact (s.inService_iff).1 (by simpa using serving.1)
      · unfold probeOf at hw
        split at hw
        · next h => cases hw; exact h.2
        · cases hw

theorem takeFlip (body : List Byte) (noReset : s.inReset = false) : Keeps free s (takeFlip body s) := by
  unfold Machine.takeFlip
  split
  · exact offerResult _ _ _ s
  · next serving =>
    split
    · exact offerResult _ _ _ s
    · next w mask hw =>
      refine requestHost (fun _ => ⟨?_, noReset⟩) ?_
      · simp only [Bool.or_eq_true, not_or] at serving
        exact (s.inService_iff).1 (by simpa using serving.1)
      · unfold flipOf at hw
        split at hw
        · next h => cases hw; exact h.2
        · cases hw

theorem takeHold (body : List Byte) (s : State) : Keeps free s (takeHold body s) := by
  unfold Machine.takeHold
  split
  · exact offerResult _ _ _ s
  · split
    · exact offerResult _ _ _ s
    · split
      · exact offerResult _ _ _ s
      · split
        · exact offerResult _ _ _ s
        · exact setStore_aside
        · split
          · exact setStore_aside
          · exact (offerResult _ _ _ _).after setStore_aside

theorem takeRelease (body : List Byte) (s : State) : Keeps free s (takeRelease body s) := by
  unfold Machine.takeRelease
  split
  · exact offerResult _ _ _ s
  · split
    · exact offerResult _ _ _ s
    · split
      · exact (endHold s).trans (offerResult _ _ _ _)
      · exact offerResult _ _ _ s

theorem takeSpareSet (body : List Byte) (s : State) : Keeps free s (takeSpareSet body s) := by
  unfold Machine.takeSpareSet
  split
  · exact offerResult _ _ _ s
  · split
    · exact offerResult _ _ _ s
    · split
      · exact offerResult _ _ _ s
      · refine setStore_pointers (pointer := id) (migration := fun _ m hm => ?_) (hostWork := .inl rfl)
        obtain rfl := Option.some.inj hm
        exact Nat.zero_lt_succ _

end Keeps

theorem execHoldTimerExpiry_keeps (s : State) : KeepsNext s (execHoldTimerExpiry s) := .awake fun _ => by
  split
  · exact (Keeps.logFault _ _ s).trans (.endHold _)
  · exact .refl s

theorem execScrubTimerExpiry_keeps (s : State) : KeepsNext s (execScrubTimerExpiry s) := .awake fun _ => by
  split
  · exact (Keeps.settleStore _).after .setStore_aside
  · exact .refl s

theorem execStoreClearComplete_keeps (s : State) : KeepsNext s (execStoreClearComplete s) := .awake fun _ => by
  split
  · next starting =>
    have out : s.station.state ≠ .inService := by rw [starting.1]; exact nofun
    refine ⟨fun _ => rfl, .refl _, fun h l hl => ?_, id, id, id, id, id, id, id, id, fun h => ?_⟩
    · have := h l hl
      simp [State.permission, State.inService, out] at this
    · obtain ⟨small, p, m, rest, others⟩ := h
      exact ⟨small, p, m, fun _ => rest (.inl out), others⟩
  · exact .refl s

theorem execMigrationStepTimerExpiry_keeps (s : State) : KeepsNext s (execMigrationStepTimerExpiry s) := .awake fun _ => by
  split
  · exact .refl s
  · next m migration =>
    split
    · refine (Keeps.settleStore _).after (.setStore_pointers (pointer := id) (migration := fun h n hn => ?_) (hostWork := .inl rfl))
      obtain rfl := Option.some.inj hn
      exact h m migration
    · exact .refl s

end Sys2Proof.Machine
end

section
/-! What every step keeps: the station's commands, the supply and the resets; and from them the statements about every step. -/

namespace Sys2Proof.Machine

/-! ### The station's commands -/

namespace Keeps
variable {free : Option (Fin 8)} {s : State}

/-- CONFIGURE gives the home its range as the station enters service (R172): till then it has none, and no line rings. -/
theorem configured {body : List Byte} {f : ConfigureFields} (fields : configureOf body = some f)
    (awaiting : s.station.state = .awaitingConfig) (noReset : s.inReset = false) :
    Keeps free s { storeSettings f s with station := { (storeSettings f s).station with state := .inService } } := by
  have out : s.station.state ≠ .inService := by rw [awaiting]; exact nofun
  have count : f.homeCount ≤ 512 := by
    unfold configureOf at fields
    split at fields
    · cases fields
      show homeCountOf _ _ ≤ 512
      unfold homeCountOf
      split
      · exact Nat.zero_le _
      · exact (Nat.min_le_left _ _).trans (Nat.min_le_right _ _)
    · cases fields
  refine ⟨id, .refl _, fun h l hl => ?_, id, id, id, id, id, id, id, fun h => ⟨h.1, h.2.1, h.2.2⟩, fun h => ?_⟩
  · have := h l hl
    simp [State.permission, State.inService, out] at this
  · obtain ⟨-, p, m, rest, -⟩ := h
    obtain ⟨-, list, backlog, work, host⟩ := rest (.inl out)
    refine ⟨count, p, fun n hn => ?_, fun bad => ?_, fun e he => ?_, fun b hb => ?_, fun c hc => ?_, fun x a t f b hw => ?_, fun w hw => ?_⟩
    · obtain ⟨n, hm, rfl⟩ := Option.map_eq_some_iff.1 hn
      exact m n hm
    · rcases bad with bad | bad
      · exact absurd rfl bad
      · exact absurd bad (by rw [Bool.not_eq_true]; exact noReset)
    · rw [show (storeSettings f s).home.list = [] from list] at he; cases he
    · rw [show (storeSettings f s).home.backlog = [] from backlog] at hb; cases hb
    · cases work.symm.trans hc
    · cases work.symm.trans hw
    · cases host.symm.trans hw

theorem takeConfigure (body : List Byte) (noReset : s.inReset = false) : Keeps free s (takeConfigure body s) := by
  unfold Machine.takeConfigure
  split
  · exact offerResult _ _ _ s
  · next awaiting =>
    split
    · exact offerResult _ _ _ s
    · next f fields =>
      split
      · exact offerResult _ _ _ s
      · refine (offerResult _ _ _ _).after ((offerTally _).after ?_)
        exact configured fields (by simpa using awaiting) noReset

theorem takeStatusRead (body : List Byte) (s : State) : Keeps free s (takeStatusRead body s) := by
  unfold Machine.takeStatusRead
  split
  · exact offerResult _ _ _ s
  · exact offerReply _ _ s

theorem takeFaultRead (body : List Byte) (s : State) : Keeps free s (takeFaultRead body s) := by
  unfold Machine.takeFaultRead
  split
  · exact offerResult _ _ _ s
  · exact offerReply _ _ s

theorem takeFaultClear (body : List Byte) (s : State) : Keeps free s (takeFaultClear body s) := by
  unfold Machine.takeFaultClear
  split
  · exact offerResult _ _ _ s
  · next c _ =>
    refine (offerResult _ _ _ _).after (setFaults fun h => ?_)
    show (if c.counter then 0 else s.faults.count) ≤ 127
    split
    · exact Nat.zero_le _
    · exact h

theorem takeFaultSetup (body : List Byte) (s : State) : Keeps free s (takeFaultSetup body s) := by
  unfold Machine.takeFaultSetup
  split
  · exact offerResult _ _ _ s
  · exact (offerResult _ _ _ _).after (setFaults id)

/-! ### The supply -/

theorem checkpoint (s : State) : Keeps free s (checkpoint s) := by
  refine foldl (fun k s => ?_) _ s
  unfold checkpointSlot
  split
  · exact (offerCharge _ _).after (modSession fun x hx => ⟨hx.1, hx.2.1, Nat.zero_le _⟩)
  · exact refl s

theorem dropHold (s : State) : Keeps free s (dropHold s) := by
  unfold Machine.dropHold
  split
  · exact endHold s
  · exact (answerHolds _ _ _).after setStore_aside
  · exact refl s

/-- A supply change that takes permission from no line that rings, or of which permission is derived anew. -/
theorem setSupply {v : Supply} (h : v.state = s.supply.state) : Keeps free s { s with supply := v } := by
  refine ⟨id, .refl _, fun hr l hl => ?_, id, id, id, id, id, id, id, id, id⟩
  show (s.inService && decide (v.state = .normal) && !s.faults.busyOut) = true
  rw [h]
  exact hr l hl

/-- A change of the supply with permission derived anew (R3, R186). -/
theorem settleSupply {v : Supply} : Keeps free s (settlePermission { s with supply := v }) := by
  have settled := setFaults (free := free) (s := { s with supply := v }) (f := s.faults) id
  exact ⟨settled.words, settled.queue, fun _ => settlePermission_ringing _, settled.shaped, settled.rings, settled.digests, settled.home,
    settled.census, settled.faultCount, settled.homeList, settled.meter, settled.within⟩

/-- The log of POWER_LOW derives permission anew at the LOW supply (R3, R186). -/
theorem logPowerLow {v : Supply} (kind : FaultKind) (x : Subject) :
    Keeps free s (settlePermission (Machine.logFault kind x { s with supply := v })) := by
  have logged := logFault (free := free) kind x { s with supply := v }
  have settled := setFaults (free := free) (s := Machine.logFault kind x { s with supply := v })
    (f := (Machine.logFault kind x { s with supply := v }).faults) id
  have both := logged.trans settled
  exact ⟨both.words, both.queue, fun _ => settlePermission_ringing _, both.shaped, both.rings, both.digests, both.home,
    both.census, both.faultCount, both.homeList, both.meter, both.within⟩

theorem supplyFalls (s : State) : Keeps free s (supplyFalls s) := by
  unfold Machine.supplyFalls
  simp only
  exact (dropHold _).after ((checkpoint _).after (logPowerLow (v := { s.supply with state := .low }) .powerLow Subject.blank))

end Keeps

theorem execSupplyBelowWarn_keeps (s : State) : KeepsNext s (execSupplyBelowWarn s) := by
  refine .of_next (Keeps.trans (t := { s with supply := { s.supply with recoveryRunning := false, aboveWarn := false } }) (.setSupply rfl) ?_)
  split
  · exact .refl _
  · exact .supplyFalls _

theorem execSupplyAboveWarn_keeps (s : State) : KeepsNext s (execSupplyAboveWarn s) := .of_next (.setSupply rfl)

theorem execRecoveryTimerExpiry_keeps (s : State) : KeepsNext s (execRecoveryTimerExpiry s) := .awake fun _ => by
  split
  · exact .settleSupply
  · exact .refl s

/-! ### The resets -/

theorem linesAfterReset_line (e : Bool) (l : Fin 8) :
    ∃ st, (st = .idle ∨ st = .disabled) ∧ (linesAfterReset e)[l] = Line.afterReset st := by
  refine ⟨if e ∨ l.val < 4 then .idle else .disabled, ?_, by simp [linesAfterReset]⟩
  split
  · exact .inl rfl
  · exact .inr rfl

/-- The lines as every reset leaves them keep all that a line keeps, and none rings (R21). -/
theorem Keeps.resetLines {free : Option (Fin 8)} {s : State} (e : Bool) : Keeps free s { s with lines := linesAfterReset e } := by
  refine .setLines _ fun l => ?_
  obtain ⟨st, hst, hl⟩ := linesAfterReset_line e l
  rw [hl]
  rcases hst with rfl | rfl <;>
    exact .of_closed (fun _ => ⟨rfl, rfl, nofun⟩) (fun _ => ⟨Nat.zero_le _, Nat.zero_le _⟩) rfl nofun

/-- A state that a reset leaves, of which every list is empty and every work undone. -/
structure State.AfterReset (t : State) : Prop where
  lines : ∃ e, t.lines = linesAfterReset e
  queue : t.bus.queue = []
  census : ∀ a : Fin 16, t.bus.census[a] = none
  home : t.home.list = [] ∧ t.home.detachOrder = [] ∧ t.home.quarantine = [] ∧ t.home.backlog = [] ∧ t.home.work = none ∧ t.home.count = 0
  sessions : ∀ k : Fin 12, t.table.slots[k].session = none
  hostWork : t.store.hostWork = none

/-- What a reset has to keep of the words, the counts and the pointers; the rest its emptiness keeps. -/
theorem State.AfterReset.keeps {free : Option (Fin 8)} {s t : State} (h : t.AfterReset) (words : s.wordsCanonical → t.wordsCanonical)
    (faultCount : s.faults.count ≤ 127 → t.faults.count ≤ 127)
    (meter : (∀ i : Fin 64, s.meter.tariffs[i].rate ≤ 4095 ∧ s.meter.tariffs[i].surcharge ≤ 255) ∧ s.meter.overflow ≤ 65535 →
      (∀ i : Fin 64, t.meter.tariffs[i].rate ≤ 4095 ∧ t.meter.tariffs[i].surcharge ≤ 255) ∧ t.meter.overflow ≤ 65535)
    (pointer : s.store.scrubPointer < 2048 → t.store.scrubPointer < 2048)
    (migration : (∀ m, s.store.migration = some m → m.pointer < 256) → ∀ m, t.store.migration = some m → m.pointer < 256) :
    Keeps free s t := by
  obtain ⟨⟨e, lines⟩, queue, census, ⟨list, order, quarantine, backlog, work, count⟩, sessions, hostWork⟩ := h
  have fresh := Keeps.resetLines (free := free) (s := s) e
  have line (l : Fin 8) : t.lines[l] = (linesAfterReset e)[l] := by rw [lines]
  refine ⟨words, ?_, fun _ l hl => ?_, fun hs l => ?_, fun hs l => ?_, fun hs l hl => ?_, fun _ => ?_, fun _ => ?_, faultCount, fun _ => ?_,
    fun hm => ?_, fun hw => ?_⟩
  · rw [queue]; exact .of_sublist (List.nil_sublist _)
  · obtain ⟨st, hst, he⟩ := linesAfterReset_line e l
    rw [line, he] at hl
    rcases hst with rfl | rfl <;> cases hl
  · rw [line]; exact fresh.shaped hs l
  · rw [line]; exact fresh.rings hs l
  · rw [line]; exact fresh.digests hs l hl
  · exact ⟨by simp [list], by simp [quarantine]⟩
  · exact ⟨census 0, fun a _ => census a, fun _ => census⟩
  · simp [State.homeListConsistent, list, order, work]
  · obtain ⟨tariffs, overflow⟩ := meter ⟨hm.1, hm.2.1⟩
    exact ⟨tariffs, overflow, fun k x hx => by rw [sessions] at hx; cases hx⟩
  · obtain ⟨-, p, m, -⟩ := hw
    refine ⟨by simp [count], pointer p, migration m, fun _ => ⟨count, list, backlog, work, hostWork⟩, ?_⟩
    simp [list, backlog, work, hostWork]

/-! ### An access cut off -/

/-- The words that a cut access writes are words that the store has (R139). -/
theorem cutAccess_wordsCanonical {s : State} (h : s.wordsCanonical) : (cutAccess s).wordsCanonical := by
  have written : ∀ (ws : List Nat) (f : Nat → StoredWord) (m : Memory), (∀ w ∈ ws, w < Config.storeWords) → m.wf = true →
      (ws.foldl (fun m w => m.write w (f w)) m).wf = true := by
    intro ws f
    induction ws with
    | nil => exact fun m _ hm => hm
    | cons w ws ih =>
      intro m hw hm
      exact ih _ (fun v hv => hw v (List.mem_cons_of_mem _ hv)) (Memory.wf_write _ hm (hw w List.mem_cons_self))
  unfold cutAccess
  split
  · exact h
  · refine written _ _ _ (fun w hw => ?_) h
    have := List.of_mem_filter (List.mem_of_mem_take hw)
    simpa using this

theorem migrationAccess_pointer (m n : Migration) (s : State) (h : (migrationAccess m s).store.migration = some n) : n.pointer < 256 := by
  unfold migrationAccess at h
  simp only at h
  split at h
  · next below => cases h; exact below
  · simp [completeMigration] at h

theorem cutAccess_pointer {s : State} (h : ∀ m, s.store.migration = some m → m.pointer < 256) (m : Migration)
    (hm : (cutAccess s).store.migration = some m) : m.pointer < 256 := by
  unfold cutAccess at hm
  split at hm
  · exact h m hm
  · simp only at hm
    split at hm
    · next moved =>
      have access : s.store.access = some .migration := by simp at moved; exact moved.1
      unfold accessEffect at hm
      rw [access] at hm
      simp only at hm
      split at hm
      · exact h m hm
      · exact migrationAccess_pointer _ m s hm
    · exact h m hm

theorem cutAccess_scrubPointer (s : State) : (cutAccess s).store.scrubPointer = s.store.scrubPointer := by
  unfold cutAccess
  split <;> rfl

theorem resetKept_afterReset (s : State) : (resetKept s).AfterReset where
  lines := ⟨_, rfl⟩
  queue := rfl
  census a := by simp [resetKept, Bus.cleared]
  home := ⟨rfl, rfl, rfl, rfl, rfl, rfl⟩
  sessions k := by simp [resetKept, SessionTable.kept, Slot.cleared]
  hostWork := rfl

theorem resetCleared_afterReset (s : State) : (resetCleared s).AfterReset where
  lines := ⟨_, rfl⟩
  queue := rfl
  census a := by simp [resetCleared, Bus.cleared]
  home := ⟨rfl, rfl, rfl, rfl, rfl, rfl⟩
  sessions k := by simp [resetCleared, SessionTable.cleared, Slot.cleared]
  hostWork := rfl

section
variable {free : Option (Fin 8)} {s t : State}

/-- A PIN or COMMAND reset, with the station's own fields as its kind leaves them. -/
theorem Keeps.resetKept (h : t.AfterReset) (store : t.store = (resetKept s).store) (meter : t.meter = (Machine.resetKept s).meter)
    (faults : t.faults = (Machine.resetKept s).faults) : Keeps free s t := by
  refine h.keeps (fun hw => ?_) (fun hf => by rw [faults]; exact hf) (fun hm => by rw [meter]; exact hm) (fun hp => ?_) (fun hm m ht => ?_)
  · simp only [State.wordsCanonical, store]
    exact cutAccess_wordsCanonical hw
  · rw [store]
    exact (cutAccess_scrubPointer s).symm ▸ hp
  · rw [store] at ht
    obtain ⟨n, hn, rfl⟩ := Option.map_eq_some_iff.1 ht
    exact cutAccess_pointer hm n hn

/-- A POWER_ON or BROWNOUT reset, with the station's own fields as its kind leaves them. -/
theorem Keeps.resetCleared (h : t.AfterReset) (store : t.store = (resetCleared s).store) (meter : t.meter = (Machine.resetCleared s).meter)
    (faults : t.faults = (Machine.resetCleared s).faults) : Keeps free s t := by
  refine h.keeps (fun hw => ?_) (fun _ => ?_) (fun _ => ?_) (fun _ => ?_) (fun _ m ht => ?_)
  · simp only [State.wordsCanonical, store]; exact hw
  · rw [faults]; exact Nat.zero_le _
  · rw [meter]
    exact ⟨fun i => by simp [Machine.resetCleared, Meter.cleared], Nat.zero_le _⟩
  · rw [store]; exact Nat.zero_lt_succ _
  · rw [store] at ht; cases ht

end

theorem Keeps.takeStationReset {free : Option (Fin 8)} (p : Straps) (s : State) : Keeps free s (takeStationReset p s) := by
  have after := resetKept_afterReset s
  exact .resetKept ⟨⟨_, rfl⟩, after.queue, after.census, after.home, after.sessions, after.hostWork⟩ rfl rfl rfl

theorem execSupplyBelowReset_keeps (s : State) : KeepsNext s (execSupplyBelowReset s) := by
  have after := resetCleared_afterReset s
  exact .of_next (.resetCleared ⟨after.lines, after.queue, after.census, after.home, after.sessions, after.hostWork⟩ rfl rfl rfl)

theorem execPowerApplied_keeps (s : State) : KeepsNext s (execPowerApplied s) := by
  have after := resetCleared_afterReset s
  exact .of_next (.resetCleared ⟨after.lines, after.queue, after.census, after.home, after.sessions, after.hostWork⟩ rfl rfl rfl)

theorem execResetPinAsserted_keeps (s : State) : KeepsNext s (execResetPinAsserted s) := by
  have after := resetKept_afterReset s
  exact .of_next (.resetKept ⟨after.lines, after.queue, after.census, after.home, after.sessions, after.hostWork⟩ rfl rfl rfl)

/-- The end of a reset, or of one of its kinds, finds the home and the census empty (R187, R188). -/
theorem Keeps.leaveReset {free : Option (Fin 8)} {s : State} (f : ResetForce) (p : Straps) (reset : s.inReset = true) :
    Keeps free s (leaveReset f p s) := by
  unfold Machine.leaveReset
  simp only
  split
  · refine ⟨id, .refl _, id, id, id, id, id, fun ⟨zero, own, absent⟩ => ⟨zero, own, fun _ => absent reset⟩, id, id, id, fun h => ?_⟩
    obtain ⟨small, p, m, rest, others⟩ := h
    exact ⟨small, p, m, fun _ => rest (.inr reset), others⟩
  · have fresh := Keeps.resetLines (free := free) (s := s) p.eightLines
    refine ⟨id, .refl _, fun _ l hl => ?_, fresh.shaped, fresh.rings, fresh.digests, id,
      fun ⟨zero, own, absent⟩ => ⟨zero, fun a _ => absent reset a, fun _ => absent reset⟩, id, id, id, fun h => ?_⟩
    · obtain ⟨st, hst, he⟩ := linesAfterReset_line p.eightLines l
      have hl : (linesAfterReset p.eightLines)[l].state = .ringing := hl
      rw [he] at hl
      rcases hst with rfl | rfl <;> cases hl
    · obtain ⟨small, p, m, rest, others⟩ := h
      exact ⟨small, p, m, fun _ => rest (.inr reset), others⟩

theorem execSupplyAboveReset_keeps (p : Straps) (s : State) : KeepsNext s (execSupplyAboveReset p s) := by
  refine .of_next ?_
  split
  · next force => exact .leaveReset _ p (by simp only [State.inReset, force, Bool.true_or])
  · exact .refl s

theorem execResetPinReleased_keeps (p : Straps) (s : State) : KeepsNext s (execResetPinReleased p s) := by
  refine .of_next ?_
  split
  · next force => exact .leaveReset _ p (by simp only [State.inReset, force, Bool.or_true])
  · exact .refl s

/-! ### Every command, and every step -/

theorem exec_keeps (i : Instr) (s : State) : KeepsNext s (exec i s) := by
  cases i with
  | ringBurst l => exact execRingBurst_keeps l s
  | burstEnd l => exact execBurstEnd_keeps l s
  | ringSeriesTimerExpiry l => exact execRingSeriesTimerExpiry_keeps l s
  | carrierPresence l => exact execCarrierPresence_keeps l s
  | answerTimerExpiry l => exact execAnswerTimerExpiry_keeps l s
  | carrierLoss l => exact execCarrierLoss_keeps l s
  | hangUpHoldTimerExpiry l => exact execHangUpHoldTimerExpiry_keeps l s
  | receiverArmed l => exact execReceiverArmed_keeps l s
  | speedIntervalEnd l n => exact execSpeedIntervalEnd_keeps l s n
  | speedDecodeEnd l c b => exact execSpeedDecodeEnd_keeps l s c b
  | speedDetectTimerExpiry l => exact execSpeedDetectTimerExpiry_keeps l s
  | character l c => exact execCharacter_keeps l c s
  | framingError l => exact execFramingError_keeps l s
  | lineBreak l => exact execLineBreak_keeps l s
  | dataTriggerAge l => exact execDataTriggerAge_keeps l s
  | signOnTimerExpiry l => exact execSignOnTimerExpiry_keeps l s
  | transmitCharacter l => exact execTransmitCharacter_keeps l s
  | claimTimerExpiry k => exact execClaimTimerExpiry_keeps k s
  | grant a g => exact .takeHanded fun u _ => (Keeps.settleGrant a g u).trans (.settleOld g _)
  | deny a d => exact .takeHanded fun u _ => .settleDeny a d u
  | claim c => exact .takeHanded fun u _ => .takeClaim c u
  | claimEvaluation => exact execClaimEvaluation_keeps s
  | detach d => exact .takeHanded fun u _ => .takeDetach d u
  | tally a t => exact .takeHanded fun u noReset => .takeTally a t noReset
  | silenceTimerExpiry h => exact execSilenceTimerExpiry_keeps h s
  | detachGraceExpiry k => exact execDetachGraceExpiry_keeps k s
  | cutoff c => exact .takeHanded fun u _ => .settleCutoff c u
  | cutoffGraceExpiry k => exact execCutoffGraceExpiry_keeps k s
  | refuse r => exact .takeHanded fun u _ => .settleRefuse r u
  | forceOff b => exact .takeHanded fun u _ => .forceOff b u
  | tallyHeartbeatExpiry => exact execTallyHeartbeatExpiry_keeps s
  | censusAgeExpiry a => exact execCensusAgeExpiry_keeps a s
  | tick => exact execTick_keeps s
  | posting k => exact execPosting_keeps k s
  | bandFlip => exact execBandFlip_keeps s
  | time b => exact .takeHanded fun u _ => .setTime b u
  | tariffLoad b => exact .takeHanded fun u _ => .loadTariffs b u
  | charge c => exact .takeHanded fun u _ => .takeCharge c u
  | chargeApplication => exact execChargeApplication_keeps s
  | accountLoad b => exact .takeHanded fun u _ => .takeAccountLoad b u
  | accountRead b => exact .takeHanded fun u _ => .takeAccountRead b u
  | deposit b => exact .takeHanded fun u _ => .takeDeposit b u
  | unlock b => exact .takeHanded fun u _ => .takeUnlock b u
  | hostCommandAccessEnd => exact execHostCommandAccessEnd_keeps s
  | hold b => exact .takeHanded fun u _ => .takeHold b u
  | release b => exact .takeHanded fun u _ => .takeRelease b u
  | holdTimerExpiry => exact execHoldTimerExpiry_keeps s
  | scrubTimerExpiry => exact execScrubTimerExpiry_keeps s
  | scrubStep => exact finishAccess_keeps _ s
  | storeProbe b => exact .takeHanded fun u noReset => .takeProbe b noReset
  | storeFlip b => exact .takeHanded fun u noReset => .takeFlip b noReset
  | storeClearComplete => exact execStoreClearComplete_keeps s
  | spareSet b => exact .takeHanded fun u _ => .takeSpareSet b u
  | migrationStepTimerExpiry => exact execMigrationStepTimerExpiry_keeps s
  | migrationStep => exact finishAccess_keeps _ s
  | frameReceived b x => exact execFrameReceived_keeps b x s
  | busIdle => exact execBusIdle_keeps s
  | transmissionStart n => exact execTransmissionStart_keeps n s
  | frameSent => exact execFrameSent_keeps s
  | readBackMismatch => exact execReadBackMismatch_keeps s
  | data d => exact .takeHanded fun u _ => .settleData d u
  | configure b => exact .takeHanded fun u noReset => .takeConfigure b noReset
  | statusRead b => exact .takeHanded fun u _ => .takeStatusRead b u
  | stationReset b p => exact .takeHanded fun u _ => .takeStationReset p u
  | faultRead b => exact .takeHanded fun u _ => .takeFaultRead b u
  | faultClear b => exact .takeHanded fun u _ => .takeFaultClear b u
  | faultSetup b => exact .takeHanded fun u _ => .takeFaultSetup b u
  | supplyBelowWarn => exact execSupplyBelowWarn_keeps s
  | supplyAboveWarn => exact execSupplyAboveWarn_keeps s
  | recoveryTimerExpiry => exact execRecoveryTimerExpiry_keeps s
  | supplyBelowReset => exact execSupplyBelowReset_keeps s
  | powerApplied => exact execPowerApplied_keeps s
  | supplyAboveReset p => exact execSupplyAboveReset_keeps p s
  | resetPinAsserted => exact execResetPinAsserted_keeps s
  | resetPinReleased p => exact execResetPinReleased_keeps p s
  | trainStart => exact .awake fun _ => .busTaken s

theorem step_keeps {s t : State} (h : step s = .next t) : KeepsAll s t := by
  unfold step at h
  split at h
  · cases h; exact (Keeps.refl s).all
  · next c rest _ =>
    obtain ⟨free, k, r⟩ := exec_keeps c { s with pending := rest } t h
    exact ⟨free, ⟨k.words, k.queue, k.ringing, k.shaped, k.rings, k.digests, k.home, k.census, k.faultCount, k.homeList, k.meter, k.within⟩, r⟩

/-! ### The statements -/

/-- Settles O56, from what every command keeps of words, queue and ringing lines. -/
theorem stepsKeepStoreQueueAndRinging : Obligations.StepsKeepStoreQueueAndRinging := by
  intro s t h
  obtain ⟨_, kept, _⟩ := step_keeps h
  exact ⟨kept.words, kept.queue.fits, kept.ringing⟩

/-- Settles O57, from what every command keeps of each line. -/
theorem stepsKeepLinesShaped : Obligations.StepsKeepLinesShaped := by
  intro s t hs h
  obtain ⟨_, kept, _⟩ := step_keeps h
  exact kept.shaped hs

/-- Settles O58, from what every command keeps of each invariant on its own. -/
theorem stepsKeepBounds : Obligations.StepsKeepBounds := by
  intro s t h
  have all := step_keeps h
  obtain ⟨_, kept, _⟩ := id all
  refine ⟨kept.queue.once _ .flying, fun ⟨charge, tally, data⟩ => ?_, kept.rings, all.digests, kept.home, kept.census, kept.faultCount,
    kept.homeList, kept.meter, kept.within⟩
  exact ⟨fun x => kept.queue.once _ (.charge x) (charge x), kept.queue.once _ .tally tally,
    fun l => kept.queue.once _ (.data l) (data l)⟩

theorem State.reset_line (l : Fin 8) : State.reset.lines[l] = Line.afterReset .idle := by simp [State.reset]

theorem State.reset_session (k : Fin 12) : State.reset.table.slots[k].session = none := by
  simp [State.reset, SessionTable.cleared, Slot.cleared]

/-- The state after reset has every line IDLE, no session and nothing queued. -/
theorem State.reset_callsConsistent : State.reset.callsConsistent := by
  refine ⟨fun l => ?_, ⟨fun l k h => ?_, fun k x h => ?_⟩, ⟨List.nodup_nil, fun k => ⟨nofun, ?_⟩⟩,
    ⟨fun l d h => ?_, nofun, fun _ => ⟨rfl, State.reset_session⟩⟩, ⟨fun _ => Nat.zero_le _, Nat.zero_le _, fun _ => Nat.zero_le _⟩⟩
  · rw [State.reset_line]; exact ⟨rfl, rfl, nofun⟩
  · rw [State.reset_line] at h; cases h
  · rw [State.reset_session] at h; cases h
  · rintro ⟨x, h, -⟩
    rw [State.reset_session] at h; cases h
  · rw [State.reset_line] at h; cases h

/-- Settles O60, by the values that the reset gives: lines, sessions and queue are empty, and so are the home's lists. -/
theorem resetMeetsWhatStepsKeep : Obligations.ResetMeetsWhatStepsKeep := by
  have none (a : Fin 16) : State.reset.bus.census[a] = none := by simp [State.reset, Bus.cleared]
  refine ⟨rfl, Nat.zero_le _, fun l h => ?_, Nat.zero_le _, fun l => ?_, fun l d h => ?_, ⟨Nat.zero_le _, Nat.zero_le _⟩,
    ⟨none 0, fun a _ => none a, fun _ => none⟩, Nat.zero_le _, ⟨.nil, List.nodup_nil, fun h => ⟨nofun, ?_⟩, nofun, nofun⟩,
    ⟨fun i => ?_, Nat.zero_le _, fun k x h => ?_⟩,
    ⟨Nat.zero_le _, Nat.zero_lt_succ _, nofun, fun _ => ⟨rfl, rfl, rfl, rfl, rfl⟩, nofun, nofun, nofun, nofun, nofun⟩,
    State.reset_callsConsistent⟩
  · rw [State.reset_line] at h; cases h
  · rw [State.reset_line]; exact ⟨Nat.zero_le _, Nat.zero_le _⟩
  · rw [State.reset_line] at h; cases h
  · rintro ⟨e, he, -⟩; cases he
  · simp [State.reset, Meter.cleared]
  · rw [State.reset_session] at h; cases h

/-- Settles O1: a step is defined so. -/
theorem stepRunsTheFrontCommand : Obligations.StepRunsTheFrontCommand := by
  intro s
  constructor
  · intro c rest h
    unfold step
    rw [h]
  · intro h
    unfold step
    rw [h]

end Sys2Proof.Machine
end

section
/-! Lines and calls (chapter 1): the ring bursts, the line timers, carrier presence and speed detection. -/

namespace Sys2Proof.Machine

/-! ### Events of a station that no reset holds -/

theorem awake_of_running {f : State → State} {s : State} (running : s.inReset = false) : awake f s = .next (f s) := by
  unfold awake
  rw [running]
  rfl

theorem awake_of_unchanged {f : State → State} {s : State} (unchanged : f s = s) : awake f s = .next s := by
  unfold awake
  rw [unchanged, ite_self]

theorem due_iff (timer : Option Nat) : due timer = true ↔ timer = some 0 := decide_eq_true_iff

theorem State.answerRings_of_settings {s : State} {x : Settings} (h : s.station.settings = some x) : s.answerRings = x.answerRings := by
  unfold State.answerRings
  rw [h]

/-! ### Ring bursts -/

section
variable {l : Fin 8} {s : State}

theorem State.countsBurst_iff :
    s.countsBurst l = true ↔
      s.lines[l].ringFilter = .absent ∧ (s.lines[l].state = .ringing ∨ s.lines[l].state = .idle ∧ s.permission = true) := by
  simp [State.countsBurst]

theorem execRingBurst_of_counted (running : s.inReset = false) (counted : s.countsBurst l = true) :
    exec (.ringBurst l) s = .next (s.setLine l (Line.burst s.answerRings s.lines[l])) := by
  refine (awake_of_running running).trans ?_
  rw [if_pos counted]
  rfl

theorem execRingBurst_of_uncounted (uncounted : s.countsBurst l ≠ true) : exec (.ringBurst l) s = .next s :=
  awake_of_unchanged (if_neg uncounted)

end

/-- The count that a burst brings a line to (R5). -/
def Line.countAfter (x : Line) : Nat := if x.state = .ringing then x.ringCount + 1 else 1

theorem Line.burst_of_below {x : Line} {rings : Nat} (below : x.countAfter < rings) :
    Line.burst rings x = { x with state := .ringing, ringCount := x.countAfter, timer := none, ringFilter := .present } :=
  if_neg (Nat.not_le.2 below)

theorem Line.burst_of_reached {x : Line} {rings : Nat} (reached : rings ≤ x.countAfter) : Line.burst rings x = x.answer :=
  if_pos reached

/-- Settles O2, from whether the burst is counted and the count that it brings. -/
theorem ringBurstCountsAndAnswers : Obligations.RingBurstCountsAndAnswers := by
  refine ⟨fun l s x n running settings start => ?_, fun l s out => execRingBurst_of_uncounted fun counted => ?_⟩
  · have count : s.lines[l].countAfter = n := by
      rcases start with ⟨idle, _, rfl⟩ | ⟨ringing, rfl⟩
      · exact if_neg (by rw [idle]; exact nofun)
      · exact if_pos ringing
    have counted (absent : s.lines[l].ringFilter = .absent) : s.countsBurst l = true :=
      State.countsBurst_iff.2 ⟨absent, start.symm.imp (·.1) fun h => ⟨h.1, h.2.1⟩⟩
    have rings := State.answerRings_of_settings settings
    subst count
    refine ⟨fun absent below => ?_, fun absent reached => ?_, fun present => execRingBurst_of_uncounted fun counted => ?_⟩
    · rw [execRingBurst_of_counted running (counted absent), rings, Line.burst_of_below below]
    · rw [execRingBurst_of_counted running (counted absent), rings, Line.burst_of_reached reached]
      rfl
    · exact absurd ((State.countsBurst_iff.1 counted).1.symm.trans present) nofun
  · obtain ⟨-, ringing | ⟨idle, permitted⟩⟩ := State.countsBurst_iff.1 counted
    · rcases out with ⟨idle, -⟩ | ⟨-, notRinging⟩
      · exact absurd (idle.symm.trans ringing) nofun
      · exact notRinging ringing
    · rcases out with ⟨-, forbidden⟩ | ⟨notIdle, -⟩
      · exact absurd (permitted.symm.trans forbidden) nofun
      · exact notIdle idle

/-! ### The line timers and carrier presence -/

/-- Settles O3, each event by the condition that it asks of the line. -/
theorem lineTimersAndCarrierPresence : Obligations.LineTimersAndCarrierPresence := by
  refine ⟨fun l s running ringing => ⟨fun present => ?_, fun expired => ?_, fun unexpired => ?_⟩,
    fun l s running holding => ⟨fun expired => ?_, fun unexpired => ?_⟩,
    fun l s running => ⟨fun answering absent => ?_, fun notAnswering enabled => ?_, fun expired answering => ?_,
      fun expired speedDetect => ?_⟩⟩
  · exact (awake_of_running running).trans (congrArg _ (if_pos ⟨ringing, present⟩))
  · exact (awake_of_running running).trans (congrArg _ (if_pos ⟨ringing, (due_iff _).2 expired⟩))
  · exact awake_of_unchanged (if_neg fun h => unexpired ((due_iff _).1 h.2))
  · exact (awake_of_running running).trans (congrArg _ (if_pos ⟨holding, (due_iff _).2 expired⟩))
  · exact awake_of_unchanged (if_neg fun h => unexpired ((due_iff _).1 h.2))
  · change execCarrierPresence l s = _
    unfold execCarrierPresence
    rw [awake_of_running running, if_neg (by rw [answering, absent]; exact nofun), if_pos answering]
    rfl
  · change execCarrierPresence l s = _
    unfold execCarrierPresence
    rw [awake_of_running running]
    cases filter : s.lines[l].carrierFilter with
    | present => rw [if_pos (.inr rfl), ← filter, State.setLine_self]
    | absent =>
      rw [if_neg (fun h => h.elim enabled nofun), if_neg notAnswering]
      rfl
  · exact (awake_of_running running).trans (congrArg _ (if_pos ⟨answering, (due_iff _).2 expired⟩))
  · exact (awake_of_running running).trans (congrArg _ (if_pos ⟨speedDetect, (due_iff _).2 expired⟩))

/-! ### Speed detection -/

section
variable {l : Fin 8} {s : State} {d : Dialogue}

theorem failedAttempt_below (inDialogue : s.lines[l].dialogue = some d) (below : d.speedAttempts + 1 < 5) :
    failedAttempt l s = s.setLine l
      { s.lines[l] with receiver := .disarmed, dialogue := some { d with speedAttempts := d.speedAttempts + 1 } } := by
  unfold failedAttempt
  simp only [State.modLine_eq_setLine, inDialogue, if_pos below, Option.map_some]

theorem failedAttempt_fifth (inDialogue : s.lines[l].dialogue = some d) (fifth : 5 ≤ d.speedAttempts + 1) :
    failedAttempt l s = hangUpDirect l s := by
  unfold failedAttempt
  simp only [inDialogue, if_neg (Nat.not_lt.2 fifth)]

theorem speedClassOf_eq_some {micros c : Nat}
    (interval : 6000 ≤ micros ∧ c = 0 ∨ 2500 ≤ micros ∧ micros < 6000 ∧ c = 1 ∨ 1250 ≤ micros ∧ micros < 2500 ∧ c = 2 ∨
      600 ≤ micros ∧ micros < 1250 ∧ c = 3) : speedClassOf micros = some c := by
  unfold speedClassOf
  rcases interval with ⟨low, rfl⟩ | ⟨low, high, rfl⟩ | ⟨low, high, rfl⟩ | ⟨low, high, rfl⟩
  · rw [if_pos low]
  · rw [if_neg (by omega), if_pos low]
  · rw [if_neg (by omega), if_neg (by omega), if_pos low]
  · rw [if_neg (by omega), if_neg (by omega), if_neg (by omega), if_pos low]

theorem speedClassOf_eq_none {micros : Nat} (short : micros < 600) : speedClassOf micros = none := by
  unfold speedClassOf
  rw [if_neg (by omega), if_neg (by omega), if_neg (by omega), if_neg (by omega)]

theorem exec_speedIntervalEnd_of_armed {micros : Nat} (running : s.inReset = false) (speedDetect : s.lines[l].state = .speedDetect)
    (armed : s.lines[l].receiver = .armed) :
    exec (.speedIntervalEnd l micros) s = .next (match speedClassOf micros with
      | some c => s.modLine l (fun x => { x with receiver := .decoding c })
      | none => failedAttempt l s) :=
  (awake_of_running running).trans (congrArg _ (if_pos ⟨speedDetect, armed⟩))

theorem exec_speedDecodeEnd_of_decoding {c code : Nat} {stop : Bool} (running : s.inReset = false)
    (speedDetect : s.lines[l].state = .speedDetect) (decoding : s.lines[l].receiver = .decoding c) :
    exec (.speedDecodeEnd l code stop) s = .next (decodeEnd l c code stop s) := by
  refine (awake_of_running running).trans (congrArg _ ?_)
  rw [if_pos speedDetect, decoding]

/-- An interval that is too short and a decode that is no carriage return are failed attempts (R10 to R12). -/
theorem exec_of_failedAttempt {i : Instr} (running : s.inReset = false) (speedDetect : s.lines[l].state = .speedDetect)
    (failed : (∃ micros, micros < 600 ∧ s.lines[l].receiver = .armed ∧ i = .speedIntervalEnd l micros) ∨
      (∃ c code stop, s.lines[l].receiver = .decoding c ∧ (code ≠ 13 ∨ stop = false) ∧ i = .speedDecodeEnd l code stop)) :
    exec i s = .next (failedAttempt l s) := by
  rcases failed with ⟨micros, short, armed, rfl⟩ | ⟨c, code, stop, decoding, other, rfl⟩
  · rw [exec_speedIntervalEnd_of_armed running speedDetect armed, speedClassOf_eq_none short]
  · rw [exec_speedDecodeEnd_of_decoding running speedDetect decoding]
    refine congrArg _ (if_neg fun h => ?_)
    rcases other with other | rfl
    · exact other h.1
    · exact absurd h.2 nofun

end

/-- Settles O5, by the receiver's state and what the interval or the decode gives. -/
theorem speedDetection : Obligations.SpeedDetection := by
  intro l s d running speedDetect inDialogue
  refine ⟨fun disarmed => ?_, fun micros c armed interval => ?_, fun c decoding => ?_, fun i failed below => ?_,
    fun i failed fifth => ?_⟩
  · exact (awake_of_running running).trans (congrArg _ (if_pos ⟨speedDetect, disarmed⟩))
  · rw [exec_speedIntervalEnd_of_armed running speedDetect armed, speedClassOf_eq_some interval]
    rfl
  · rw [exec_speedDecodeEnd_of_decoding running speedDetect decoding]
    unfold decodeEnd
    rw [if_pos ⟨rfl, rfl⟩, State.modLine_eq_setLine, placeText_setLine]
    simp only [Line.lock, inDialogue, Option.map_some]
  · rw [exec_of_failedAttempt running speedDetect failed, failedAttempt_below inDialogue below]
  · rw [exec_of_failedAttempt running speedDetect failed, failedAttempt_fifth inDialogue fifth]

end Sys2Proof.Machine
end

section
/-! Lines and calls (chapter 1): the two ways into HANGUP, and a carrier loss by line state. -/

namespace Sys2Proof.Machine

/-! ### What the queue holds of a sort that stands in it once -/

section
variable {p : Entry → Bool} {s : State} {before after : List Entry} {e : Entry}

theorem State.holding_of_none (h : s.bus.queue.any p = false) : s.holding p = .nothing := by
  have absent : s.bus.queue.find? p = none := List.find?_eq_none.2 (by simpa using h)
  unfold State.holding
  rw [absent]

theorem State.holding_of_split (split : s.bus.queue = before ++ e :: after) (picked : p e = true)
    (others : ∀ y ∈ before, p y = false) : s.holding p = if e.inFlight then .inFlight else .waiting := by
  have found : s.bus.queue.find? p = some e := by
    rw [split, List.find?_append, List.find?_eq_none.2 (by simpa using others), Option.none_or, List.find?_cons_of_pos picked]
  unfold State.holding
  rw [found]

theorem removeFirst_of_split (split : s.bus.queue = before ++ e :: after) (picked : p e = true)
    (others : ∀ y ∈ before, p y = false) : s.removeFirst p = s.setQueue (before ++ after) := by
  unfold State.removeFirst
  rw [split, List.eraseP_append_right _ (by simpa using others), List.eraseP_cons_of_pos picked]

end

theorem State.setQueue_setLine (l : Fin 8) (x : Line) (q : List Entry) (s : State) :
    (s.setLine l x).setQueue q = (s.setQueue q).setLine l x := rfl

/-! ### The ways into HANGUP -/

/-- The line with its receive path cleared (R26). -/
def Line.silenced (x : Line) : Line := { x with rxRing := [], pendingBreak := none }

section
variable {l : Fin 8} {s : State}

theorem clearReceive_of_noData (none : s.bus.queue.any (Entry.dataOn l) = false) :
    clearReceive l s = s.setLine l s.lines[l].silenced := by
  unfold clearReceive withdrawData
  rw [State.holding_of_none (by exact none)]
  rfl

section
variable {before after : List Entry} {e : Entry}

theorem clearReceive_of_waiting (split : s.bus.queue = before ++ e :: after) (data : Entry.dataOn l e = true)
    (others : ∀ y ∈ before ++ after, Entry.dataOn l y = false) (waits : e.inFlight = false) :
    clearReceive l s = offerFreed ((s.setLine l s.lines[l].silenced).setQueue (before ++ after)) := by
  have first : ∀ y ∈ before, Entry.dataOn l y = false := fun y hy => others y (List.mem_append_left _ hy)
  unfold clearReceive withdrawData
  rw [State.holding_of_split (s := s.modLine l _) split data first, waits]
  exact congrArg offerFreed (removeFirst_of_split (s := s.modLine l _) split data first)

theorem clearReceive_of_inFlight {h : Handle} {f : DataFill} (split : s.bus.queue = before ++ e :: after)
    (data : e.payload = .data l h (some f)) (others : ∀ y ∈ before ++ after, Entry.dataOn l y = false) (flies : e.inFlight = true) :
    clearReceive l s = (s.setLine l s.lines[l].silenced).setQueue
      (before ++ { e with payload := .data l h (some { f with ringCleared := true }) } :: after) := by
  have picked : Entry.dataOn l e = true := by simp [Entry.dataOn, data]
  have first : ∀ y ∈ before, Entry.dataOn l y = false := fun y hy => others y (List.mem_append_left _ hy)
  have kept (q : List Entry) (h : ∀ y ∈ q, Entry.dataOn l y = false) :
      q.map (fun e => if e.dataOn l && e.inFlight then { e with payload := e.payload.ringCleared } else e) = q :=
    (List.map_congr_left fun y hy => by rw [h y hy]; rfl).trans (List.map_id q)
  unfold clearReceive withdrawData
  rw [State.holding_of_split (s := s.modLine l _) split picked first, flies]
  show State.setQueue _ _ = State.setQueue _ _
  refine congrArg (State.setQueue · _) ?_
  show s.bus.queue.map _ = _
  rw [split, List.map_append, List.map_cons, kept before first, kept after fun y hy => others y (List.mem_append_right _ hy)]
  simp [picked, flies, data, Payload.ringCleared]

end

theorem hangUp_of_locked (locked : s.lines[l].state.locked = true) : hangUp l s = (clearReceive l s).modLine l Line.drain :=
  if_pos locked

/-- A line unit that leaves its call changes nothing but the lines, the session table, the bus and the fault log (R18, R26). -/
theorem State.eq_with_of_hangUp {s t : State} (meter : t.meter = s.meter) (home : t.home = s.home) (store : t.store = s.store)
    (supply : t.supply = s.supply) (station : t.station = s.station) (freeDraws : t.freeDraws = s.freeDraws)
    (pending : t.pending = s.pending) :
    t = { s with lines := t.lines, table := t.table, bus := t.bus, faults := t.faults } := by
  cases s
  cases t
  simp only at *
  subst meter home store supply station freeDraws pending
  rfl

theorem clearReceive_line_ne {m : Fin 8} (quiet : s.lines[m].state ≠ .ringing) (ne : m ≠ l) :
    (clearReceive l s).lines[m] = s.lines[m] := by
  have same : (s.modLine l Line.silenced).lines[m] = s.lines[m] := by
    simp [State.modLine_lines, Vector.getElem_set_ne, Fin.val_ne_of_ne ne.symm]
  unfold clearReceive
  exact (withdrawData_line (s := s.modLine l Line.silenced) l (by rw [same]; exact quiet)).trans same

theorem modLine_line (f : Line → Line) : (s.modLine l f).lines[l] = f s.lines[l] := State.setLine_line ..

theorem modLine_line_ne {m : Fin 8} (f : Line → Line) (ne : m ≠ l) : (s.modLine l f).lines[m] = s.lines[m] := by
  simp [State.modLine_lines, Vector.getElem_set_ne, Fin.val_ne_of_ne ne.symm]

/-- What both ways into HANGUP leave, with `f` the line's own change (R18, R19, R26). -/
theorem hungUp_leaves (f : Line → Line) (t : State) (ht : t = (clearReceive l s).modLine l f) :
    (∀ m : Fin 8, m ≠ l → s.lines[m].state ≠ .ringing → t.lines[m] = s.lines[m]) ∧
    (s.bus.queue.any (Entry.dataOn l) = false → t = s.setLine l t.lines[l]) ∧
    (∀ (before after : List Entry) (e : Entry), s.bus.queue = before ++ e :: after → Entry.dataOn l e = true →
      (∀ y ∈ before ++ after, Entry.dataOn l y = false) →
      (e.inFlight = false →
        t = (offerFreed ((s.setLine l s.lines[l].silenced).setQueue (before ++ after))).setLine l t.lines[l]) ∧
      (∀ (h : Handle) (g : DataFill), e.inFlight = true → e.payload = .data l h (some g) →
        t = (s.setQueue (before ++ { e with payload := .data l h (some { g with ringCleared := true }) } :: after)).setLine l
          t.lines[l])) := by
  subst ht
  refine ⟨fun m ne quiet => ?_, fun none => ?_, fun before after e split data others => ⟨fun waits => ?_, fun h g flies filled => ?_⟩⟩
  · rw [modLine_line_ne f ne, clearReceive_line_ne quiet ne]
  · rw [modLine_line, clearReceive_of_noData none, State.modLine_eq_setLine, State.setLine_setLine]
  · rw [modLine_line, clearReceive_of_waiting split data others waits, State.modLine_eq_setLine]
  · rw [modLine_line, clearReceive_of_inFlight split filled others flies, State.modLine_eq_setLine]
    rw [State.setQueue_setLine, State.setLine_setLine]

theorem Line.drop_silenced (x : Line) :
    x.silenced.drop = { x with state := .hangup .holding, terminalReady := false, ringCount := 0, timer := some 2,
                               servedSlot := none, dialogue := none, receiver := .idle, sending := none, rxRing := [],
                               pendingBreak := none, txStation := [], txHost := [] } := rfl

theorem Line.drain_silenced_of_empty {x : Line} (empty : x.txStation = [] ∧ x.txHost = []) : x.silenced.drain = x.silenced.drop := by
  unfold Line.drain
  rw [if_pos (by simp [Line.txCount, Line.silenced, empty])]
  rfl

theorem Line.drain_silenced_of_waiting {x : Line} (waiting : ¬ (x.txStation = [] ∧ x.txHost = [])) :
    x.silenced.drain = { x with state := .hangup .draining, servedSlot := none, dialogue := none, receiver := .idle,
                                rxRing := [], pendingBreak := none } := by
  unfold Line.drain
  rw [if_neg (by simpa [Line.txCount, Line.silenced] using waiting)]
  rfl

end

/-- Settles O4, from what the clearing of the receive path leaves and the line's own change. -/
theorem hangUpDrainsOrHolds : Obligations.HangUpDrainsOrHolds := by
  rintro l s holding draining quiet rfl rfl
  have line : (clearReceive l s).lines[l] = s.lines[l].silenced := clearReceive_line quiet
  have unlocked (h : s.lines[l].state.locked = false) : hangUp l s = s := hangUp_unlocked h
  refine ⟨fun t ht => ⟨?_, ?_, ?_⟩, fun t ht => ?_, ?_, fun locked => ?_, fun outside =>
    unlocked ((LineState.locked_eq_false_iff _).2 outside)⟩
  · rcases ht with rfl | rfl <;> exact State.eq_with_of_hangUp (by simp) (by simp) (by simp) (by simp) (by simp) (by simp) (by simp)
  · rcases ht with rfl | rfl
    · exact (hungUp_leaves Line.drop _ rfl).1
    · cases locked : s.lines[l].state.locked with
      | true => exact (hungUp_leaves Line.drain _ (hangUp_of_locked locked)).1
      | false => rw [unlocked locked]; exact fun _ _ _ => rfl
  · rcases ht with rfl | rfl
    · exact (hungUp_leaves Line.drop _ rfl).2.1
    · cases locked : s.lines[l].state.locked with
      | true => exact (hungUp_leaves Line.drain _ (hangUp_of_locked locked)).2.1
      | false => rw [unlocked locked]; exact fun _ => (s.setLine_self l).symm
  · rcases ht with rfl | ⟨rfl, locked⟩
    · exact (hungUp_leaves Line.drop _ rfl).2.2
    · exact (hungUp_leaves Line.drain _ (hangUp_of_locked ((LineState.locked_iff _).2 locked))).2.2
  · unfold hangUpDirect
    rw [modLine_line, line, Line.drop_silenced]
  · rw [hangUp_of_locked ((LineState.locked_iff _).2 locked), modLine_line, line]
    split
    · next empty => rw [Line.drain_silenced_of_empty empty, Line.drop_silenced]
    · next waiting => exact Line.drain_silenced_of_waiting waiting

/-! ### Carrier loss -/

section
variable {l : Fin 8} {s : State}

theorem exec_carrierLoss_of_present (running : s.inReset = false) (present : s.lines[l].carrierFilter = .present)
    (enabled : s.lines[l].state ≠ .disabled) :
    exec (.carrierLoss l) s = .next (carrierLost l (s.setLine l { s.lines[l] with carrierFilter := .absent })) := by
  change execCarrierLoss l s = _
  unfold execCarrierLoss
  rw [awake_of_running running, if_neg fun h => h.elim enabled fun absent => absurd (present.symm.trans absent) nofun]
  rfl

/-- The loss goes to the session in the line's slot once the line has hung up (R9). -/
theorem carrierLost_of_serving {k : Fin 12} (serves : s.lines[l].state = .claiming ∨ s.lines[l].state = .online)
    (slot : s.lines[l].servedSlot = some k) : carrierLost l s = sessionLosesLine k (hangUpDirect l s) := by
  unfold carrierLost
  rcases serves with state | state <;> rw [state] <;> simp only [slot]

end

/-! ### Slots that an operation leaves -/

section
variable {k j : Fin 12} {s : State}

theorem State.setSlot_slot_ne (x : Slot) (ne : j ≠ k) : (s.setSlot k x).table.slots[j] = s.table.slots[j] := by
  simp [State.setSlot, Vector.getElem_set_ne, Fin.val_ne_of_ne ne.symm]

theorem State.modSession_slot (f : Session → Session) :
    (s.modSession k f).table.slots[k] = { s.table.slots[k] with session := s.table.slots[k].session.map f } :=
  State.setSlot_slot ..

theorem State.modSession_slot_ne (f : Session → Session) (ne : j ≠ k) : (s.modSession k f).table.slots[j] = s.table.slots[j] :=
  State.setSlot_slot_ne _ ne

/-- The offer of a final CHARGE changes no slot but its own, and that one only of an ENDING session (R87). -/
theorem offerFinal_slot (h : j ≠ k ∨ ∀ x, s.table.slots[k].session = some x → x.state ≠ .ending) :
    (offerFinal k s).table.slots[j] = s.table.slots[j] := by
  unfold offerFinal
  split
  · rfl
  · next x found =>
    split
    · next ending =>
      rcases h with ne | live
      · split
        · exact State.modSession_slot_ne _ ne
        · rfl
        · split
          · exact State.modSession_slot_ne _ ne
          · rfl
      · exact absurd ending.1 (live x found)
    · rfl

theorem offerTally_slots : (offerTally s).table.slots = s.table.slots := by
  unfold offerTally
  repeat' split
  all_goals simp [joinTally, logQueueFull, logFault, State.joinQueue]

theorem offerOwedTally_slots : (offerOwedTally s).table.slots = s.table.slots := by
  unfold offerOwedTally
  split
  · exact offerTally_slots
  · rfl

/-- A freed place changes no slot but of an ENDING session (R171). -/
theorem offerFreed_slot (live : ∀ x, s.table.slots[k].session = some x → x.state ≠ .ending) :
    (offerFreed s).table.slots[k] = s.table.slots[k] := by
  refine offerFreed_induct (fun u => u.table.slots[k] = s.table.slots[k]) (fun j u hu => ?_) (fun u hu => ?_) (fun l u hu => ?_) s rfl
  · refine (offerFinal_slot ?_).trans hu
    by_cases same : k = j
    · subst same; exact .inr (by rw [hu]; exact live)
    · exact .inl same
  · rw [offerOwedTally_slots, hu]
  · rw [(offerData_keeps l u).2.1, hu]

/-- A line that hangs up changes no slot but of an ENDING session: its DATA entry frees a place (R26, R171). -/
theorem clearReceive_slot {l : Fin 8} (live : ∀ x, s.table.slots[k].session = some x → x.state ≠ .ending) :
    (clearReceive l s).table.slots[k] = s.table.slots[k] := by
  unfold clearReceive withdrawData
  split
  · rfl
  · exact offerFreed_slot (s := State.removeFirst _ _) live
  · rfl

theorem hangUpDirect_slot {l : Fin 8} (live : ∀ x, s.table.slots[k].session = some x → x.state ≠ .ending) :
    (hangUpDirect l s).table.slots[k] = s.table.slots[k] := clearReceive_slot live

end

/-- What the session loses whose line has hung up, when it was not ENDING before (R9, R51, R80, R83). -/
theorem sessionLosesLine_hangUpDirect {k : Fin 12} {x : Session} {l : Fin 8} {s : State} (holds : s.table.slots[k].session = some x)
    (live : x.state ≠ .ending) :
    sessionLosesLine k (hangUpDirect l s) = match x.state with
      | .claiming => (hangUpDirect l s).modSession k (fun y => { y with abandoned := true, line := none })
      | .active =>
        if 0 < s.detachGrace then detachSession k x s.detachGrace (hangUpDirect l s) else endSession k .carrierLost (hangUpDirect l s)
      | .cutoffGrace => endSession k .credit (hangUpDirect l s)
      | _ => hangUpDirect l s := by
  have slot : (hangUpDirect l s).table.slots[k].session = some x := by
    rw [hangUpDirect_slot fun y hy => by cases holds.symm.trans hy; exact live, holds]
  have grace : (hangUpDirect l s).detachGrace = s.detachGrace := by simp [State.detachGrace]
  unfold sessionLosesLine
  rw [slot, ← grace] <;> rfl

/-- Settles O6, by line state and, for a line that serves a session, by the session's state. -/
theorem carrierLossByLineState : Obligations.CarrierLossByLineState := by
  rintro l s u running present rfl
  have cleared (x : Line) : (s.setLine l x).lines[l] = x := State.setLine_line ..
  have loss (enabled : s.lines[l].state ≠ .disabled) := exec_carrierLoss_of_present running present enabled
  refine ⟨fun state => ?_, fun state => ?_, fun state => ?_, fun k x slot holds => ?_⟩
  · rw [loss (by rcases state with h | h | h <;> rw [h] <;> exact nofun)]
    unfold carrierLost
    rw [cleared]
    rcases state with h | h | h <;> simp only [h]
  · rw [loss (by rcases state with h | h | h <;> rw [h] <;> exact nofun)]
    unfold carrierLost
    rw [cleared]
    rcases state with h | h | h <;> simp only [h]
  · rw [loss (by rw [state]; exact nofun)]
    unfold carrierLost
    rw [cleared]
    simp only [state]
    rw [State.modLine_eq_setLine, State.setLine_setLine, cleared]
    rfl
  · have serving (state : s.lines[l].state = .claiming ∨ s.lines[l].state = .online) (live : x.state ≠ .ending) :
        exec (.carrierLoss l) s = .next (match x.state with
          | .claiming => (hangUpDirect l (s.setLine l { s.lines[l] with carrierFilter := .absent })).modSession k
              (fun y => { y with abandoned := true, line := none })
          | .active => if 0 < s.detachGrace then
              detachSession k x s.detachGrace (hangUpDirect l (s.setLine l { s.lines[l] with carrierFilter := .absent }))
            else endSession k .carrierLost (hangUpDirect l (s.setLine l { s.lines[l] with carrierFilter := .absent }))
          | .cutoffGrace => endSession k .credit (hangUpDirect l (s.setLine l { s.lines[l] with carrierFilter := .absent }))
          | _ => hangUpDirect l (s.setLine l { s.lines[l] with carrierFilter := .absent })) := by
      rw [loss (by rcases state with h | h <;> rw [h] <;> exact nofun)]
      rw [carrierLost_of_serving (by rw [cleared]; exact state) (by rw [cleared]; exact slot)]
      exact congrArg _ (sessionLosesLine_hangUpDirect (by exact holds) live)
    refine ⟨fun line state => ?_, fun line state grace => ?_, fun line state grace => ?_, fun line state => ?_⟩
    · rw [serving (.inl line) (by rw [state]; exact nofun), state]
    · rw [serving (.inr line) (by rw [state]; exact nofun), state]
      simp only [if_pos grace]
    · rw [serving (.inr line) (by rw [state]; exact nofun), state]
      simp only [grace, Nat.lt_irrefl, if_false]
    · rw [serving (.inr line) (by rw [state]; exact nofun), state]

end Sys2Proof.Machine
end

section
/-! Character paths (chapter 2): characters, framing errors and breaks at the receive path, and the transmitter. -/

namespace Sys2Proof.Machine

/-! ### The offer of a DATA entry -/

section
variable {l : Fin 8} {s : State}

theorem Line.trigger_iff (x : Line) :
    x.trigger = true ↔ x.state = .online ∧ (16 ≤ x.rxRing.length ∨ x.pendingBreak ≠ none ∨
      ∃ (c : RxChar) (rest : List RxChar), x.rxRing = c :: rest ∧ c.aged = true) := by
  unfold Line.trigger
  cases x.rxRing <;> cases x.pendingBreak <;> simp

theorem offerData_of_condition {k : Fin 12} (slot : s.lines[l].servedSlot = some k) (trigger : s.lines[l].trigger = true)
    (absent : ∀ e ∈ s.bus.queue, Entry.dataOn l e = false) (room : s.bus.queue.length < 24) :
    offerData l s = s.setQueue (s.bus.queue ++ [Entry.fresh 0 (.data l (s.handleAt k) none)]) := by
  unfold offerData
  rw [trigger, List.any_eq_false.2 (by simpa using absent), s.room_iff.2 room]
  simp only [Bool.not_false, Bool.and_self, if_true, slot]
  rfl

theorem offerData_of_noCondition
    (h : s.lines[l].trigger = false ∨ (∃ e ∈ s.bus.queue, Entry.dataOn l e = true) ∨ 24 ≤ s.bus.queue.length) :
    offerData l s = s := by
  unfold offerData
  refine if_neg fun all => ?_
  simp only [Bool.and_eq_true, Bool.not_eq_true', List.any_eq_false, s.room_iff] at all
  obtain ⟨⟨trigger, none⟩, room⟩ := all
  rcases h with h | ⟨e, he, h⟩ | h
  · exact absurd (trigger.symm.trans h) nofun
  · exact none e he h
  · omega

end

/-! ### The receive path -/

section
variable {l : Fin 8} {s : State}

theorem exec_character_of_locked {c : Nat} (running : s.inReset = false) (locked : s.lines[l].state.locked = true) :
    exec (.character l c) s = .next (characterOn l c (s.setLine l { s.lines[l] with receiver := .framing })) := by
  change execCharacter l c s = _
  unfold execCharacter
  rw [awake_of_running running, if_pos locked]
  rfl

theorem exec_character_of_online {c : Nat} (running : s.inReset = false) (online : s.lines[l].state = .online) :
    exec (.character l c) s = .next (offerData l (s.setLine l (Line.receive c { s.lines[l] with receiver := .framing }))) := by
  rw [exec_character_of_locked running ((LineState.locked_iff _).2 (.inr (.inr online)))]
  unfold characterOn
  rw [State.setLine_line]
  simp only [online]
  rw [State.modLine_eq_setLine, State.setLine_setLine, State.setLine_line]

theorem exec_lineBreak_of_online (running : s.inReset = false) (online : s.lines[l].state = .online) :
    exec (.lineBreak l) s = .next (offerData l (s.setLine l { s.lines[l].takeBreak with receiver := .inBreak })) := by
  change execLineBreak l s = _
  unfold execLineBreak
  rw [awake_of_running running, if_pos ((LineState.locked_iff _).2 (.inr (.inr online))), if_pos online]
  rfl

theorem holdAt_eq_min (top n : Nat) : holdAt top n = min top n :=
  Nat.min_comm n top

theorem Line.overrun_eq (x : Line) : x.overrun = { x with receiveOverruns := min 255 (x.receiveOverruns + 1) } := by
  unfold Line.overrun
  rw [holdAt_eq_min]

end

/-- The four clauses of O7 about characters and the offer of the line's DATA entry. -/
theorem character_and_offerData (l : Fin 8) (s : State) (c : Nat) (running : s.inReset = false) :
    (s.lines[l].state = .online → s.lines[l].rxRing.length < 32 →
      exec (.character l c) s = .next (offerData l (s.setLine l
        { s.lines[l] with receiver := .framing, rxRing := s.lines[l].rxRing ++ [{ code := c, aged := false }] }))) ∧
    (s.lines[l].state = .online → 32 ≤ s.lines[l].rxRing.length →
      exec (.character l c) s = .next (offerData l (s.setLine l
        { s.lines[l] with receiver := .framing, receiveOverruns := min 255 (s.lines[l].receiveOverruns + 1) }))) ∧
    (s.lines[l].state = .claiming →
      exec (.character l c) s = .next (s.setLine l { s.lines[l] with receiver := .framing })) ∧
    (∀ rest : List RxChar, s.lines[l].state = .online → s.lines[l].rxRing = { code := c, aged := false } :: rest →
      exec (.dataTriggerAge l) s = .next (offerData l (s.setLine l
        { s.lines[l] with rxRing := { code := c, aged := true } :: rest }))) := by
  refine ⟨fun online room => ?_, fun online full => ?_, fun claiming => ?_, fun rest online ring => ?_⟩
  · rw [exec_character_of_online running online]
    unfold Line.receive
    rw [if_pos (by exact room)]
  · rw [exec_character_of_online running online]
    unfold Line.receive
    rw [if_neg (Nat.not_lt.2 full), Line.overrun_eq]
  · rw [exec_character_of_locked running ((LineState.locked_iff _).2 (.inr (.inl claiming)))]
    unfold characterOn
    rw [State.setLine_line]
    simp only [claiming]
  · change execDataTriggerAge l s = _
    unfold execDataTriggerAge
    rw [awake_of_running running, if_pos online, State.modLine_eq_setLine, ring]
    rfl

/-- Settles O7: characters and breaks by the line's state and the room they find, and the offer of DATA by its conditions. -/
theorem charactersErrorsAndBreaks : Obligations.CharactersErrorsAndBreaks := by
  refine ⟨fun l s c running => ?_, fun l s running => ⟨fun locked => ?_, fun early => ?_, fun online none => ?_,
    fun online pending => ?_, fun outside c => ?_⟩⟩
  · obtain ⟨joins, overruns, discarded, aged⟩ := character_and_offerData l s c running
    refine ⟨joins, overruns, discarded, aged, fun k slot => ⟨fun online room none condition => ?_, fun not => ?_⟩⟩
    · exact offerData_of_condition slot ((Line.trigger_iff _).2 ⟨online, condition⟩) none room
    · rcases not with off | full | queued | ⟨few, noBreak, young⟩
      · refine offerData_of_noCondition (.inl (Bool.eq_false_iff.2 fun trigger => off ((Line.trigger_iff _).1 trigger).1))
      · exact offerData_of_noCondition (.inr (.inr full))
      · exact offerData_of_noCondition (.inr (.inl queued))
      · refine offerData_of_noCondition (.inl (Bool.eq_false_iff.2 fun trigger => ?_))
        rcases ((Line.trigger_iff _).1 trigger).2 with many | broken | ⟨x, rest, ring, aged⟩
        · omega
        · exact broken noBreak
        · exact absurd (aged.symm.trans (young x rest ring)) nofun
  · change execFramingError l s = _
    unfold execFramingError
    rw [awake_of_running running, if_pos ((LineState.locked_iff _).2 locked), State.modLine_eq_setLine, holdAt_eq_min]
  · change execLineBreak l s = _
    unfold execLineBreak
    have notOnline : s.lines[l].state ≠ .online := by rcases early with h | h <;> rw [h] <;> exact nofun
    rw [awake_of_running running, if_pos ((LineState.locked_iff _).2 (early.imp_right .inl)), if_neg notOnline]
    rfl
  · rw [exec_lineBreak_of_online running online]
    unfold Line.takeBreak
    rw [none]
  · rw [exec_lineBreak_of_online running online]
    unfold Line.takeBreak
    obtain ⟨n, broken⟩ := Option.ne_none_iff_exists'.1 pending
    rw [broken, Line.overrun_eq]
  · have unlocked : ¬ s.lines[l].state.locked = true := by
      rw [(LineState.locked_eq_false_iff _).2 outside]; exact nofun
    exact ⟨awake_of_unchanged (if_neg unlocked), awake_of_unchanged (if_neg unlocked), awake_of_unchanged (if_neg unlocked)⟩

/-! ### The transmitter -/

theorem LineState.sends_iff (x : LineState) :
    x.sends = true ↔ x = .signOn ∨ x = .claiming ∨ x = .online ∨ x = .hangup .draining := by
  cases x with
  | hangup p => cases p <;> simp [LineState.sends]
  | _ => simp [LineState.sends]

section
variable {l : Fin 8} {s : State} {x : Line}

theorem exec_transmitCharacter_of_sends (running : s.inReset = false) (sends : s.lines[l].state.sends = true) :
    exec (.transmitCharacter l) s = .next (s.setLine l s.lines[l].sendNext) := by
  change execTransmitCharacter l s = _
  unfold execTransmitCharacter
  rw [awake_of_running running, if_pos sends]
  rfl

theorem Line.sendNext_station {c : Nat} {rest : List Nat} (station : x.txStation = c :: rest) :
    x.sendNext = { x with txStation := rest, sending := some c } := by
  unfold Line.sendNext
  rw [station]

theorem Line.sendNext_host {c : Nat} {rest : List Nat} (station : x.txStation = []) (host : x.txHost = c :: rest) :
    x.sendNext = { x with txHost := rest, sending := some c } := by
  unfold Line.sendNext
  rw [station, host]

theorem Line.sendNext_empty (station : x.txStation = []) (host : x.txHost = []) :
    x.sendNext = if x.state = .hangup .draining then x.hold else { x with sending := none } := by
  unfold Line.sendNext
  rw [station, host]

end

/-- The exclusive-or of bits counts its ones modulo 2 (R16). -/
theorem count_parity (bits : List Bool) (b : Bool) : ((bits.foldl xor b).toNat + bits.count true) % 2 = b.toNat % 2 := by
  induction bits generalizing b with
  | nil => rfl
  | cons x bits ih =>
    have rest := ih (xor b x)
    rw [List.foldl_cons, List.count_cons]
    cases x <;> cases b <;> simp at rest ⊢ <;> omega

theorem length_characterData (code : Nat) : (characterData code).length = 7 := rfl

/-- Settles O8: the transmitter by what its rings hold, and the lead's bits by the character being sent. -/
theorem transmitterTakesStationFirst : Obligations.TransmitterTakesStationFirst := by
  refine ⟨fun l s running => ⟨fun state c rest => ?_, fun station host => ⟨fun locked => ?_, fun draining => ?_⟩, fun outside => ?_⟩,
    fun x => ⟨fun none => ?_, fun c sending => ?_⟩⟩
  · have sends := (LineState.sends_iff _).2 state
    refine ⟨fun station => ?_, fun station host => ?_⟩
    · rw [exec_transmitCharacter_of_sends running sends, Line.sendNext_station station]
    · rw [exec_transmitCharacter_of_sends running sends, Line.sendNext_host station host]
  · have sends := (LineState.sends_iff _).2 (locked.imp_right (Or.imp_right Or.inl))
    have notDraining : s.lines[l].state ≠ .hangup .draining := by rcases locked with h | h | h <;> rw [h] <;> exact nofun
    rw [exec_transmitCharacter_of_sends running sends, Line.sendNext_empty station host, if_neg notDraining]
  · have sends := (LineState.sends_iff _).2 (.inr (.inr (.inr draining)))
    rw [exec_transmitCharacter_of_sends running sends, Line.sendNext_empty station host, if_pos draining]
    rfl
  · refine awake_of_unchanged (if_neg fun sends => ?_)
    obtain ⟨signOn, claiming, online, draining⟩ := outside
    rcases (LineState.sends_iff _).1 sends with h | h | h | h
    · exact signOn h
    · exact claiming h
    · exact online h
    · exact draining h
  · unfold Line.leadBits
    rw [none]
  · unfold Line.leadBits
    rw [sending]
    refine ⟨characterData c, (characterData c).foldl xor false, by simp [characterBits], length_characterData c, fun i hi => ?_, ?_⟩
    · simp [characterData, hi]
    · have parity := count_parity (characterData c) false
      rw [List.count_cons]
      cases ones : (characterData c).foldl xor false <;> rw [ones] at parity <;> simp at parity ⊢ <;> omega

end Sys2Proof.Machine
end

section
/-! Signing on (chapter 3): the entries, the sign-on and claim timers, the slot reservation. -/

namespace Sys2Proof.Machine

/-! ### The entries, character by character -/

section
variable {l : Fin 8} {s : State} {d : Dialogue} {x : Line} {c : Nat}

theorem modDialogue_setLine (f : Dialogue → Dialogue) (inDialogue : x.dialogue = some d) :
    modDialogue l f (s.setLine l x) = s.setLine l { x with dialogue := some (f d) } := by
  unfold modDialogue
  rw [State.modLine_eq_setLine, State.setLine_setLine, State.setLine_line, inDialogue]
  rfl

theorem exec_character_of_entry (running : s.inReset = false) (signOn : s.lines[l].state = .signOn)
    (inDialogue : s.lines[l].dialogue = some d) (entry : d.step = .entry) (hx : x = { s.lines[l] with receiver := .framing }) :
    exec (.character l c) s = .next (match d.phase with
      | .user => userChar l d c (s.setLine l x)
      | .password => passwordChar l d c (s.setLine l x)) := by
  rw [exec_character_of_locked running ((LineState.locked_iff _).2 (.inl signOn)), ← hx]
  unfold characterOn dialogueChar
  rw [State.setLine_line, hx]
  simp only [signOn, inDialogue, entry]
  cases d.phase <;> rfl

theorem isDigit_iff : isDigit c = true ↔ 48 ≤ c ∧ c ≤ 57 := by simp [isDigit]

theorem isErase_iff : isErase c = true ↔ c = 8 ∨ c = 127 := by simp [isErase]

theorem printable_iff : printable c = true ↔ 32 ≤ c ∧ c ≤ 126 := by simp [printable]

theorem userChar_digit (digit : 48 ≤ c ∧ c ≤ 57) (s : State) :
    userChar l d c s = if d.entry.length < 6 then
      placeText l [c] (modDialogue l (fun x => { x with entry := d.entry ++ [c] }) s) else s := by
  unfold userChar
  rw [if_neg (by omega), if_pos (isDigit_iff.2 digit)]

theorem userChar_erase (erase : c = 8 ∨ c = 127) (s : State) :
    userChar l d c s = if d.entry.isEmpty then s
      else placeText l [8, 32, 8] (modDialogue l (fun x => { x with entry := d.entry.dropLast }) s) := by
  unfold userChar
  rw [if_neg (by omega), if_neg fun h => by have := isDigit_iff.1 h; omega, if_pos (isErase_iff.2 erase)]

theorem userChar_other (h8 : c ≠ 8) (h13 : c ≠ 13) (h127 : c ≠ 127) (digit : c < 48 ∨ 57 < c) (s : State) : userChar l d c s = s := by
  unfold userChar
  rw [if_neg h13, if_neg fun h => by have := isDigit_iff.1 h; omega, if_neg fun h => (isErase_iff.1 h).elim h8 h127]

theorem userChar_return (inDialogue : x.dialogue = some d) :
    userChar l d 13 (s.setLine l x) = s.setLine l (if d.entry = [] then Line.place s.userPrompt (Line.place [13, 10] x)
      else Line.place s.passwordPrompt (Line.place [13, 10]
        { x with dialogue := some { d with userNumber := some (decimalOf d.entry), entry := [], digest := 0, phase := .password } })) := by
  have placed : (Line.place [13, 10] x).dialogue = some d := (Line.place_keeps _ _).2.1.trans inDialogue
  unfold userChar
  simp only [if_true, placeText_setLine, State.userPrompt_setLine, List.isEmpty_iff]
  split
  · rfl
  · rw [modDialogue_setLine _ placed, placeText_setLine, ← Line.place_withDialogue]
    rfl

theorem passwordChar_printable (typed : 32 ≤ c ∧ c ≤ 126) (s : State) :
    passwordChar l d c s = if d.entry.length < 12 then
      modDialogue l (fun x => { x with entry := d.entry ++ [c], digest := digestStep d.digest c }) s else s := by
  unfold passwordChar
  rw [if_neg (by omega), if_pos (printable_iff.2 typed)]

theorem passwordChar_erase (erase : c = 8 ∨ c = 127) (s : State) :
    passwordChar l d c s = if d.entry.isEmpty then s
      else modDialogue l (fun x => { x with entry := d.entry.dropLast, digest := digestOf d.entry.dropLast }) s := by
  unfold passwordChar
  rw [if_neg (by omega), if_neg fun h => by have := printable_iff.1 h; omega, if_pos (isErase_iff.2 erase)]

theorem passwordChar_other (h8 : c ≠ 8) (h13 : c ≠ 13) (control : c < 32) (s : State) : passwordChar l d c s = s := by
  unfold passwordChar
  rw [if_neg h13, if_neg fun h => by have := printable_iff.1 h; omega, if_neg fun h => by have := isErase_iff.1 h; omega]

theorem passwordChar_return (inDialogue : x.dialogue = some d) :
    passwordChar l d 13 (s.setLine l x) = if d.entry = [] then s.setLine l (Line.place s.passwordPrompt (Line.place [13, 10] x))
      else claimFor l d (s.setLine l (Line.place [13, 10] { x with dialogue := some { d with entry := [] } })) := by
  have placed : (Line.place [13, 10] x).dialogue = some d := (Line.place_keeps _ _).2.1.trans inDialogue
  unfold passwordChar
  simp only [if_true, placeText_setLine, List.isEmpty_iff]
  split
  · rfl
  · rw [modDialogue_setLine _ placed, ← Line.place_withDialogue]

theorem decimalOf_eq (digits : List Nat) : decimalOf digits = digits.foldl (fun a e => 10 * a + (e - 48)) 0 := by
  unfold decimalOf
  simp only [Nat.mul_comm]

end

/-- Settles O11, by phase and class of the character. -/
theorem signOnEntriesEdited : Obligations.SignOnEntriesEdited := by
  refine ⟨fun l s d x c running signOn inDialogue phase entry hx => ?_, fun l s d x c running signOn inDialogue phase entry hx => ?_⟩
  · have line : x.dialogue = some d := by rw [hx]; exact inDialogue
    have user : exec (.character l c) s = .next (userChar l d c (s.setLine l x)) := by
      rw [exec_character_of_entry running signOn inDialogue entry hx, phase]
    rw [user]
    refine ⟨fun low high room => ?_, fun low high full => ?_, fun erase typed => ?_, fun erase empty => ?_, fun ret empty => ?_,
      fun ret typed => ?_, fun h8 h13 h127 digit => ?_⟩
    · rw [userChar_digit ⟨low, high⟩, if_pos room, modDialogue_setLine _ line, placeText_setLine]
    · rw [userChar_digit ⟨low, high⟩, if_neg (Nat.not_lt.2 full)]
    · rw [userChar_erase erase, if_neg (by simpa using typed), modDialogue_setLine _ line, placeText_setLine]
    · rw [userChar_erase erase, if_pos (by simp [empty])]
    · rw [ret, userChar_return line, if_pos empty]
    · rw [ret, userChar_return line, if_neg typed, decimalOf_eq]
    · rw [userChar_other h8 h13 h127 digit]
  · have line : x.dialogue = some d := by rw [hx]; exact inDialogue
    have password : exec (.character l c) s = .next (passwordChar l d c (s.setLine l x)) := by
      rw [exec_character_of_entry running signOn inDialogue entry hx, phase]
    rw [password]
    refine ⟨fun low high room => ?_, fun low high full => ?_, fun erase typed => ?_, fun erase empty => ?_, fun ret empty => ?_,
      fun ret typed => ?_, fun h8 h13 control => ?_⟩
    · rw [passwordChar_printable ⟨low, high⟩, if_pos room, modDialogue_setLine _ line]
      rfl
    · rw [passwordChar_printable ⟨low, high⟩, if_neg (Nat.not_lt.2 full)]
    · rw [passwordChar_erase erase, if_neg (by simpa using typed), modDialogue_setLine _ line]
      rfl
    · rw [passwordChar_erase erase, if_pos (by simp [empty])]
    · rw [ret, passwordChar_return line, if_pos empty]
    · rw [ret, passwordChar_return line, if_neg typed]
    · rw [passwordChar_other h8 h13 control]

/-! ### The sign-on timer and the claim timer -/

section
variable {l : Fin 8} {k : Fin 12} {s : State} {d : Dialogue} {x : Session}

theorem exec_signOnTimerExpiry (running : s.inReset = false) (inDialogue : s.lines[l].dialogue = some d) :
    exec (.signOnTimerExpiry l) s = .next
      (if s.lines[l].state = .signOn ∧ d.step ≠ .claimed ∧ due d.timer then hangUp l (placeFixed l .timeOut s) else s) := by
  change execSignOnTimerExpiry l s = _
  unfold execSignOnTimerExpiry
  rw [awake_of_running running, inDialogue]

theorem freeSlot_eq : freeSlot k s = s.setSlot k { s.table.slots[k] with claimTimer := none, session := none } := rfl

theorem exec_claimTimerExpiry_of_due (running : s.inReset = false) (holds : s.table.slots[k].session = some x)
    (expired : s.table.slots[k].claimTimer = some 0) (claiming : x.state = .claiming) :
    exec (.claimTimerExpiry k) s = .next (if x.abandoned then freeSlot k s else hangUpWith x.line .noResponse (freeSlot k s)) := by
  change execClaimTimerExpiry k s = _
  unfold execClaimTimerExpiry
  rw [awake_of_running running, holds]
  simp only
  rw [if_pos ⟨claiming, (due_iff _).2 expired⟩]
  unfold homeSilent
  rw [holds]

end

/-- Settles O12, by the timer's value and the step of the context or the state of the slot. -/
theorem signOnAndClaimTimeOut : Obligations.SignOnAndClaimTimeOut := by
  refine ⟨fun l s d running inDialogue => ⟨fun signOn step expired => ?_, fun not => ?_⟩,
    fun k s u x running holds expired claiming hu => ⟨fun abandoned => ?_, fun l kept bound => ?_⟩⟩
  · have notClaimed : d.step ≠ .claimed := by rcases step with h | h <;> rw [h] <;> exact nofun
    rw [exec_signOnTimerExpiry running inDialogue, if_pos ⟨signOn, notClaimed, (due_iff _).2 expired⟩]
    rfl
  · rw [exec_signOnTimerExpiry running inDialogue, if_neg]
    rintro ⟨-, step, expired⟩
    exact not.elim (fun h => h ((due_iff _).1 expired)) step
  · rw [exec_claimTimerExpiry_of_due running holds expired claiming, if_pos abandoned, hu, freeSlot_eq]
  · rw [exec_claimTimerExpiry_of_due running holds expired claiming, if_neg (Bool.eq_false_iff.1 kept), hu, freeSlot_eq, bound]
    rfl

/-! ### The slot reservation -/

section
variable {l : Fin 8} {s : State} {d : Dialogue}

theorem State.sessionCap_of_settings {x : Settings} (h : s.station.settings = some x) : s.sessionCap = x.sessionCap := by
  unfold State.sessionCap
  rw [h]

theorem State.freeSlotNumber_of_first {k : Fin 12} (free : s.table.slots[k].session = none)
    (first : ∀ j : Fin 12, j < k → s.table.slots[j].session ≠ none) : s.freeSlotNumber = some k := by
  unfold State.freeSlotNumber allSlots
  refine List.find?_eq_some_iff_getElem.2 ⟨by rw [free]; rfl, k.val, by simp, by simp, fun j hj => ?_⟩
  have := first ⟨j, by omega⟩ hj
  simpa [Option.isNone_eq_false_iff, ← Option.ne_none_iff_isSome] using this

theorem State.freeSlotNumber_of_none (full : ∀ k : Fin 12, s.table.slots[k].session ≠ none) : s.freeSlotNumber = none := by
  unfold State.freeSlotNumber
  refine List.find?_eq_none.2 fun k _ h => full k ?_
  exact Option.isNone_iff_eq_none.1 h

theorem claimFor_of_census_below (below : s.census < s.sessionCap) : claimFor l d s = reserveFor l d s :=
  if_neg (Nat.not_le.2 below)

theorem reserveFor_of_full (full : ∀ k : Fin 12, s.table.slots[k].session ≠ none) :
    reserveFor l d s = match s.table.detachOrder with
      | k :: _ => endSession k .detachEvicted (modDialogue l (fun x => { x with step := .slotWait, awaitedSlot := some k }) s)
      | [] => systemFull l s := by
  unfold reserveFor
  rw [State.freeSlotNumber_of_none full] <;> rfl

theorem reserveSlot_of_room {k : Fin 12} {u : State} (room : s.bus.queue.length < 24)
    (hu : u = s.setSlot k { generation := (s.table.slots[k].generation + 1) % 256, replySource := none, claimTimer := none,
                            session := some (Session.claiming (d.userNumber.getD 0) l s.lines[l].speedClass) }) :
    reserveSlot k l d s = (u.queued 255 (.claim
      { handle := { station := s.own, slot := k, generation := (s.table.slots[k].generation + 1) % 256 },
        account := d.userNumber.getD 0, digest := d.digest, speedClass := s.lines[l].speedClass, line := l })).setLine l
      (Line.claimOut k s.lines[l]) := by
  subst hu
  unfold reserveSlot
  simp only
  rw [if_pos ((State.room_iff _).2 (by exact room))]
  unfold State.handleAt
  rw [State.modSlot, State.setSlot_slot]
  rfl

end

/-- Settles O13, by the census, the lowest free slot and the room in the queue. -/
theorem claimReservesASlot : Obligations.ClaimReservesASlot := by
  intro l s d c x signOn inDialogue settings
  have cap := State.sessionCap_of_settings settings
  refine ⟨fun reached => if_pos (by rw [cap]; exact reached), fun below => ?_, fun k u hu => ⟨fun room => ?_, fun full => ?_⟩⟩
  · rw [← cap] at below
    rw [claimFor_of_census_below below]
    refine ⟨fun k free first => ?_, fun full => ⟨fun k rest order => ?_, fun order => ?_⟩⟩
    · unfold reserveFor
      rw [State.freeSlotNumber_of_first free first]
    · rw [reserveFor_of_full full, order]
      simp only
      rw [modDialogue, State.modLine_eq_setLine, inDialogue]
      rfl
    · rw [reserveFor_of_full full, order]
      rfl
  · rw [reserveSlot_of_room room hu]
    simp only [Line.claimOut, if_pos signOn, inDialogue, Option.map_some]
  · have noRoom : s.room = false := Bool.eq_false_iff.2 fun h => absurd (s.room_iff.1 h) (by omega)
    rw [reserveSlot_of_full noRoom, hu, freeSlot_eq]
    simp only [State.modSlot, State.setSlot_slot]
    rfl

end Sys2Proof.Machine
end

section
/-! Signing on (chapter 3): GRANTs, late and duplicate replies, and the old session that a GRANT REATTACH names. -/

namespace Sys2Proof.Machine

/-! ### The session that a handle matches -/

section
variable {s t : State} {h : Handle} {k : Fin 12}

/-- What a handle matches is said by the station's address and the slots' generations and sessions (R77). -/
theorem State.matched_congr (own : t.station = s.station) (slots : t.table.slots = s.table.slots) : t.matched h = s.matched h := by
  unfold State.matched State.slotOf State.own
  rw [own, slots]

theorem State.matched_eq_none_iff :
    s.matched h = none ↔ ∀ k : Fin 12, h = s.handleAt k → s.table.slots[k].session = none := by
  constructor
  · intro none k handle
    by_contra some
    obtain ⟨x, hx⟩ := Option.ne_none_iff_exists'.1 some
    exact absurd (none.symm.trans (State.matched_eq_some_iff.2 ⟨handle, hx⟩)) nofun
  · intro free
    by_contra some
    obtain ⟨⟨k, x⟩, hx⟩ := Option.ne_none_iff_exists'.1 some
    obtain ⟨handle, holds⟩ := State.matched_eq_some_iff.1 hx
    exact absurd (holds.symm.trans (free k handle)) nofun

theorem State.slotOf_handleAt (k : Fin 12) : s.slotOf (s.handleAt k) = some k :=
  State.slotOf_eq_some_iff.2 (by simp [State.handleAt])

end

/-! ### The old session of a GRANT REATTACH -/

theorem exec_grant_of_takesNow {source : Nat} {g : GrantBody} {s : State} (h : s.takesNow (.grant source g)) :
    exec (.grant source g) s = .next (settleOld g (settleGrant source g (s.taking (.grant source g)))) :=
  congrArg Host.Outcome.next (takeHanded_of_takesNow (fun s => settleOld g (settleGrant source g s)) h)

theorem settleOld_of_new {g : GrantBody} (new : g.oldHandle = none) (s : State) : settleOld g s = s := by
  unfold settleOld
  rw [new]

theorem settleOld_of_unmatched {g : GrantBody} {h : Handle} {s : State} (old : g.oldHandle = some h) (absent : s.matched h = none) :
    settleOld g s = s := by
  unfold settleOld
  rw [old]
  simp only [absent]

theorem settleOld_of_matched {g : GrantBody} {h : Handle} {k : Fin 12} {x : Session} {s : State} (old : g.oldHandle = some h)
    (found : s.matched h = some (k, x)) :
    settleOld g s = match x.state with
      | .detached => endSession k .moved s
      | .ending => if x.endCause = some .detachExpired ∧ x.finalStatus ≠ some .inFlight then
          (s.rewriteWaiting (Entry.chargesFor h) (Payload.madeMoved k)).modSession k (fun y => { y with endCause := some .moved })
        else s
      | _ => s := by
  unfold settleOld
  rw [old]
  simp only [found] <;> rfl

theorem settleGrant_of_otherStation {source : Nat} {g : GrantBody} {s : State} (other : g.handle.station ≠ s.own) :
    settleGrant source g s = s := by
  unfold settleGrant State.slotOf
  rw [if_neg other]

/-- The waiting final CHARGE of slot `k`, made that of a moved session, entry by entry (R70, R171). -/
theorem rewriteWaiting_madeMoved (h : Handle) (k : Fin 12) (s : State) :
    s.rewriteWaiting (Entry.chargesFor h) (Payload.madeMoved k) = s.setQueue (s.bus.queue.map (fun e =>
      match e.payload with
      | .charge c j => if c.handle = h ∧ e.inFlight = false ∧ j = some k then
          { e with payload := .charge { c with endCause := some .moved } j } else e
      | _ => e)) := by
  unfold State.rewriteWaiting
  refine congrArg (State.setQueue · s) (List.map_congr_left fun e _ => ?_)
  obtain ⟨a, p, flies, m⟩ := e
  cases p with
  | charge c j =>
    cases flies <;> by_cases handle : c.handle = h <;> cases j <;> simp [Entry.chargesFor, Payload.madeMoved, handle]
    split <;> simp [*]
  | _ => simp [Entry.chargesFor]

/-- Settles O17, by the state of the session that the old handle matches. -/
theorem grantReattachEndsTheOldSession : Obligations.GrantReattachEndsTheOldSession := by
  refine ⟨fun source g s takes other => ?_, fun g h u old => ⟨settleOld_of_unmatched old, fun k x found => ⟨fun detached => ?_,
    fun ending cause status => ?_, fun stays => ?_⟩⟩⟩
  · rw [exec_grant_of_takesNow takes, settleGrant_of_otherStation (s := s.taking _) other]
  · rw [settleOld_of_matched old found, detached]
  · have waits : x.endCause = some .detachExpired ∧ x.finalStatus ≠ some .inFlight :=
      ⟨cause, by rcases status with h | h <;> rw [h] <;> exact nofun⟩
    rw [settleOld_of_matched old found, ending]
    simp only
    rw [if_pos waits, rewriteWaiting_madeMoved, State.modSession_of_session (x := x) _ (by exact (State.matched_eq_some_iff.1 found).2), ← ending]
    rfl
  · rw [settleOld_of_matched old found]
    rcases stays with state | state | state | ⟨state, stays⟩
    · rw [state]
    · rw [state]
    · rw [state]
    · rw [state]
      exact if_neg fun ⟨cause, notFlying⟩ => stays.elim (fun h => h cause) notFlying

/-! ### A GRANT that settles a claim -/

section
variable {source : Nat} {g : GrantBody} {k : Fin 12} {l : Fin 8} {x : Session} {s : State}

/-- The slot as a GRANT leaves it that settles its claim (R47, R101). -/
def Slot.granted (source : Nat) (g : GrantBody) (total : Nat) (x : Session) (y : Slot) : Slot :=
  { y with replySource := some source, claimTimer := none,
           session := some { x with home := some source, acctClass := some g.acctClass, state := .active, remainder := 0,
                                    postCounter := 0, saturated := false, total := total } }

theorem settleGrant_of_claim (handle : g.handle = s.handleAt k) (first : s.table.slots[k].replySource = none)
    (holds : s.table.slots[k].session = some x) (claiming : x.state = .claiming) (kept : x.abandoned = false)
    (bound : x.line = some l) :
    settleGrant source g s = offerTally (resumedText l g
      ((s.setSlot k (Slot.granted source g (s.openingTotal g x.speedClass) x s.table.slots[k])).modLine l Line.bind)) := by
  have named : s.slotOf g.handle = some k := handle ▸ s.slotOf_handleAt k
  have current : s.table.slots[k].generation = g.handle.generation := by rw [handle]; rfl
  have held : (s.modSlot k fun y => { y with replySource := some source }).table.slots[k].session = some x := by
    rw [State.modSlot, State.setSlot_slot, holds]
  have bound' : bindSession k x source g (s.modSlot k fun y => { y with replySource := some source }) =
      offerTally (resumedText l g
        ((s.setSlot k (Slot.granted source g (s.openingTotal g x.speedClass) x s.table.slots[k])).modLine l Line.bind)) := by
    obtain ⟨_, _, line, _, _, _, _, _, _, _, _, _, _, _⟩ := x
    subst bound
    unfold bindSession
    simp only [State.modSlot, State.setSlot_slot, State.setSlot_setSlot]
    rfl
  simp only [settleGrant, named, current, ne_eq, not_true_eq_false, if_false, first, held, claiming, if_true, kept,
    Bool.false_eq_true, bound']

/-- The line that a GRANT binds: ONLINE, its dialogue closed, told of a reattach (R47). -/
theorem resumedText_bind (online : s.lines[l].state = .claiming) :
    resumedText l g (s.modLine l Line.bind) = s.setLine l
      (if g.oldHandle = none then { s.lines[l] with state := .online, dialogue := none }
       else Line.place FixedText.sessionResumed.chars { s.lines[l] with state := .online, dialogue := none }) := by
  have bind : Line.bind s.lines[l] = { s.lines[l] with state := .online, dialogue := none } := if_pos online
  unfold resumedText
  rw [State.modLine_eq_setLine, bind]
  cases g.oldHandle with
  | none => rfl
  | some h => rw [if_neg nofun]; exact placeText_setLine ..

theorem State.openingTotal_eq (s : State) (g : GrantBody) (speedClass : Nat) :
    s.openingTotal g speedClass = if g.oldHandle = none then (s.meter.tariff speedClass g.acctClass).surcharge else 0 := by
  unfold State.openingTotal
  cases g.oldHandle <;> rfl

/-- The binding of a claim changes no session but that of its slot, which a handle goes on to match (R77). -/
theorem matched_setSlot_granted {h : Handle} {total : Nat} (y : Fin 12 × Session) (ne : y.1 ≠ k) :
    (s.setSlot k (Slot.granted source g total x s.table.slots[k])).matched h = some y ↔ s.matched h = some y := by
  obtain ⟨j, y⟩ := y
  have slot := State.setSlot_slot_ne (s := s) (Slot.granted source g total x s.table.slots[k]) ne
  rw [State.matched_eq_some_iff, State.matched_eq_some_iff]
  simp only [State.handleAt, State.own, slot, State.setSlot_station]

theorem matched_setSlot_granted_none {h : Handle} {total : Nat} (holds : s.table.slots[k].session = some x)
    (absent : s.matched h = none) : (s.setSlot k (Slot.granted source g total x s.table.slots[k])).matched h = none := by
  rw [State.matched_eq_none_iff] at absent ⊢
  intro j handle
  by_cases same : j = k
  · subst same
    have := absent j (by rw [handle]; simp [State.handleAt, State.own, Slot.granted])
    rw [holds] at this
    cases this
  · rw [State.setSlot_slot_ne _ same]
    refine absent j ?_
    rw [handle]
    simp only [State.handleAt, State.own, State.setSlot_slot_ne _ same, State.setSlot_station]

end

theorem offerTally_station (s : State) : (offerTally s).station = s.station := by simp

/-- Settles O14: the claim is settled first, and the old handle finds what it found before. -/
theorem grantMakesTheSessionLive : Obligations.GrantMakesTheSessionLive := by
  rintro source g k l x s u v takes rfl handle first holds claiming kept bound line hv
  have settled : settleGrant source g (s.taking (.grant source g)) = offerTally v := by
    rw [settleGrant_of_claim (s := s.taking (.grant source g)) handle first holds claiming kept bound, resumedText_bind (by exact line),
      State.openingTotal_eq, hv]
    rfl
  have matched (h : Handle) : (offerTally v).matched h =
      (s.setSlot k (Slot.granted source g (s.openingTotal g x.speedClass) x s.table.slots[k])).matched h := by
    refine (State.matched_congr (offerTally_station v) offerTally_slots).trans (State.matched_congr ?_ ?_)
    · rw [hv]; rfl
    · rw [hv, State.openingTotal_eq]; rfl
  rw [exec_grant_of_takesNow takes, settled]
  refine ⟨fun absent => ?_, fun h j y old found => ⟨fun detached => ?_, fun _ => rfl⟩⟩
  · cases old : g.oldHandle with
    | none => rw [settleOld_of_new old]
    | some h =>
      rw [settleOld_of_unmatched old]
      rw [matched, matched_setSlot_granted_none holds (Option.eq_none_iff_forall_ne_some.2 fun y => absent h y old)]
  · have other : j ≠ k := by
      rintro rfl
      cases holds.symm.trans (State.matched_eq_some_iff.1 found).2
      rw [claiming] at detached
      cases detached
    rw [settleOld_of_matched old ((matched h).trans ((matched_setSlot_granted (j, y) other).2 found)), detached]

end Sys2Proof.Machine
end

section
/-! Signing on (chapter 3): replies to abandoned slots, late replies and duplicates. -/

namespace Sys2Proof.Machine

theorem State.holding_eq_nothing_iff (p : Entry → Bool) (s : State) : s.holding p = .nothing ↔ ∀ e ∈ s.bus.queue, p e = false := by
  unfold State.holding
  split
  · next absent => simpa using absent
  · next e found =>
    have picked := List.find?_some found
    have here := List.mem_of_find?_eq_some found
    constructor
    · intro h
      split at h <;> cases h
    · intro none
      exact absurd ((none e here).symm.trans picked) nofun

/-- The zero CHARGE is offered as the queue and the station state let it (R52, R53). -/
theorem offerZeroCharge_eq (source : Nat) (g : GrantBody) (cause : EndCause) (v : State) :
    offerZeroCharge source g cause v =
      if v.station.state = .inService ∧ v.bus.queue.length < 24 ∧ (∀ e ∈ v.bus.queue, Entry.chargesFor g.handle e = false) then
        v.queued source (.charge
          { handle := g.handle, account := g.account, home := source, total := 0, endCause := some cause } none)
      else v := by
  unfold offerZeroCharge
  refine if_congr ?_ rfl rfl
  rw [Bool.and_eq_true, Bool.and_eq_true, State.inService_iff, State.room_iff, decide_eq_true_iff, State.holding_eq_nothing_iff, and_assoc]

section
variable {source : Nat} {g : GrantBody} {d : DenyBody} {k : Fin 12} {s : State}

theorem settleGrant_of_notHere (away : s.slotOf g.handle = none) : settleGrant source g s = s := by
  unfold settleGrant
  rw [away]

theorem settleDeny_of_notHere (away : s.slotOf d.handle = none) : settleDeny source d s = s := by
  unfold settleDeny
  rw [away]

theorem lateGrant_of_unmatched (absent : s.matched g.handle = none) : lateGrant source g s = offerZeroCharge source g .late s := by
  unfold lateGrant
  rw [absent]
  rfl

theorem lateGrant_of_matched {y : Fin 12 × Session} (found : s.matched g.handle = some y) : lateGrant source g s = s := by
  unfold lateGrant
  rw [found]
  rfl

theorem settleGrant_of_otherGeneration (here : s.slotOf g.handle = some k) (other : g.handle.generation ≠ s.table.slots[k].generation) :
    settleGrant source g s = offerZeroCharge source g .late s := by
  have absent : s.matched g.handle = none := by
    unfold State.matched
    simp only [here]
    exact if_neg (Ne.symm other)
  unfold settleGrant
  simp only [here]
  rw [if_pos (Ne.symm other), lateGrant_of_unmatched absent]

theorem settleDeny_of_otherGeneration (here : s.slotOf d.handle = some k) (other : d.handle.generation ≠ s.table.slots[k].generation) :
    settleDeny source d s = s := by
  unfold settleDeny
  simp only [here]
  rw [if_pos (Ne.symm other)]

/-- A GRANT that answers the reservation of its handle's slot, by the reply that the slot has had (R46, R53). -/
theorem settleGrant_of_second {first : Nat} (handle : g.handle = s.handleAt k) (had : s.table.slots[k].replySource = some first) :
    settleGrant source g s = if first = source then lateGrant source g s
      else offerZeroCharge source g .duplicate (logDuplicate first source g.handle s) := by
  have current : s.table.slots[k].generation = g.handle.generation := by rw [handle]; rfl
  unfold settleGrant
  simp only [show s.slotOf g.handle = some k from handle ▸ s.slotOf_handleAt k, current, ne_eq, not_true_eq_false, if_false, had]

theorem settleDeny_of_second {first : Nat} (handle : d.handle = s.handleAt k) (had : s.table.slots[k].replySource = some first) :
    settleDeny source d s = if first = source then s else logDuplicate first source d.handle s := by
  have current : s.table.slots[k].generation = d.handle.generation := by rw [handle]; rfl
  unfold settleDeny
  simp only [show s.slotOf d.handle = some k from handle ▸ s.slotOf_handleAt k, current, ne_eq, not_true_eq_false, if_false, had]

/-- A GRANT that is the first reply to the reservation of its handle's slot, by the session there (R46). -/
theorem settleGrant_of_first (handle : g.handle = s.handleAt k) (first : s.table.slots[k].replySource = none) {u : State}
    (hu : u = s.setSlot k { s.table.slots[k] with replySource := some source }) :
    settleGrant source g s = match s.table.slots[k].session with
      | none => lateGrant source g u
      | some x =>
        if x.state = .claiming then if x.abandoned then settleAbandoned k x source g u else bindSession k x source g u else u := by
  subst hu
  have current : ¬ s.table.slots[k].generation ≠ g.handle.generation := fun h => h (by rw [handle]; rfl)
  unfold settleGrant
  simp only [show s.slotOf g.handle = some k from handle ▸ s.slotOf_handleAt k]
  rw [if_neg current]
  simp only [first, State.modSlot, State.setSlot_slot] <;> rfl

/-- A DENY that is the first reply to the reservation of its handle's slot, by the session there (R46). -/
theorem settleDeny_of_first (handle : d.handle = s.handleAt k) (first : s.table.slots[k].replySource = none) {u : State}
    (hu : u = s.setSlot k { s.table.slots[k] with replySource := some source }) :
    settleDeny source d s = match s.table.slots[k].session with
      | none => u
      | some x =>
        if x.state = .claiming then
          if x.abandoned then freeSlot k u
          else match x.line with
            | none => freeSlot k u
            | some l => denyLine l d.reason (freeSlot k u)
        else u := by
  subst hu
  have current : ¬ s.table.slots[k].generation ≠ d.handle.generation := fun h => h (by rw [handle]; rfl)
  unfold settleDeny
  simp only [show s.slotOf d.handle = some k from handle ▸ s.slotOf_handleAt k]
  rw [if_neg current]
  simp only [first, State.modSlot, State.setSlot_slot] <;> rfl

theorem settleGrant_of_free (handle : g.handle = s.handleAt k) (first : s.table.slots[k].replySource = none)
    (free : s.table.slots[k].session = none) :
    settleGrant source g s = offerZeroCharge source g .late (s.setSlot k { s.table.slots[k] with replySource := some source }) := by
  have absent : (s.setSlot k { s.table.slots[k] with replySource := some source }).matched g.handle = none := by
    refine State.matched_eq_none_iff.2 fun j hj => ?_
    obtain rfl : k = j := Fin.ext (by rw [handle] at hj; exact congrArg Handle.slot hj)
    rw [State.setSlot_slot, free]
  rw [settleGrant_of_first handle first rfl, free]
  exact lateGrant_of_unmatched absent

theorem settleDeny_of_free (handle : d.handle = s.handleAt k) (first : s.table.slots[k].replySource = none)
    (free : s.table.slots[k].session = none) :
    settleDeny source d s = s.setSlot k { s.table.slots[k] with replySource := some source } := by
  rw [settleDeny_of_first handle first rfl, free]

end

section
variable {source : Nat} {k : Fin 12} {x : Session} {s : State}

/-- The record that a GRANT leaves of an abandoned slot's session, its final CHARGE in the status given (R51). -/
def Session.abandonedBy (source : Nat) (g : GrantBody) (status : FinalStatus) (x : Session) : Session :=
  { x with home := some source, acctClass := some g.acctClass, state := .ending, line := none, abandoned := false, total := 0,
           remainder := 0, postCounter := 0, grace := none, endCause := some .abandoned, finalStatus := some status }

theorem holdingCharge_of_none {h : Handle} (none : ∀ e ∈ s.bus.queue, Entry.chargesFor h e = false) : s.holdingCharge h = .nothing := by
  rcases holdingCharge_cases h s with ⟨_, holding⟩ | ⟨⟨e, he, charge, _⟩, _⟩ | ⟨e, he, charge, _⟩
  · exact holding
  · exact absurd ((none e he).symm.trans charge) nofun
  · exact absurd ((none e he).symm.trans charge) nofun

/-- A waiting final CHARGE finds room and no CHARGE of its handle, and joins (R87). -/
theorem offerFinal_of_room (holds : s.table.slots[k].session = some x) (ending : x.state = .ending)
    (waits : x.finalStatus = some .waiting) (room : s.bus.queue.length < 24)
    (none : ∀ e ∈ s.bus.queue, Entry.chargesFor (s.handleAt k) e = false) :
    offerFinal k s = (s.setSlot k { s.table.slots[k] with session := some { x with finalStatus := some .queued } }).queued
      (x.home.getD 0) (.charge (finalBody (s.handleAt k) x) (some k)) := by
  unfold offerFinal
  simp only [holds]
  rw [if_pos ⟨ending, waits⟩, holdingCharge_of_none none]
  simp only
  rw [if_pos (s.room_iff.2 room), State.modSession_of_session (x := x) _ (by exact holds)]
  rfl

theorem settleGrant_of_abandoned {g : GrantBody} (handle : g.handle = s.handleAt k) (first : s.table.slots[k].replySource = none)
    (holds : s.table.slots[k].session = some x) (claiming : x.state = .claiming) (abandoned : x.abandoned = true)
    (room : s.bus.queue.length < 24) (uncharged : ∀ e ∈ s.bus.queue, Entry.chargesFor g.handle e = false) :
    settleGrant source g s = (s.setSlot k
        { s.table.slots[k] with replySource := some source, claimTimer := none, session := some (x.abandonedBy source g .queued) }).queued
      source (.charge { handle := g.handle, account := x.account, home := source, total := 0, endCause := some .abandoned } (some k)) := by
  have same (y : Slot) (hy : y.generation = s.table.slots[k].generation) : (s.setSlot k y).handleAt k = g.handle := by
    rw [handle]
    simp only [State.handleAt, State.setSlot_slot, hy]
    rfl
  have settled : settleGrant source g s = offerFinal k (s.setSlot k
      { s.table.slots[k] with replySource := some source, claimTimer := none, session := some (x.abandonedBy source g .waiting) }) := by
    rw [settleGrant_of_first handle first rfl, holds]
    simp only
    rw [if_pos claiming, if_pos abandoned]
    unfold settleAbandoned
    rw [State.modSlot, State.setSlot_slot, State.setSlot_setSlot]
    rfl
  have named := same
    { s.table.slots[k] with replySource := some source, claimTimer := none, session := some (x.abandonedBy source g .waiting) } rfl
  rw [settled, offerFinal_of_room (x := x.abandonedBy source g .waiting) (by rw [State.setSlot_slot]) rfl rfl (by exact room)
    (by rw [named]; exact uncharged), named, State.setSlot_slot]
  rw [State.setSlot_setSlot]
  rfl

theorem settleDeny_of_abandoned {d : DenyBody} (handle : d.handle = s.handleAt k) (first : s.table.slots[k].replySource = none)
    (holds : s.table.slots[k].session = some x) (claiming : x.state = .claiming) (abandoned : x.abandoned = true) :
    settleDeny source d s = s.setSlot k { s.table.slots[k] with replySource := some source, claimTimer := none, session := none } := by
  rw [settleDeny_of_first handle first rfl, holds]
  simp only
  rw [if_pos claiming, if_pos abandoned, freeSlot_eq, State.setSlot_slot, State.setSlot_setSlot]

end

/-- Settles O16: by generation, reply source and state of the slot that the handle names. -/
theorem abandonedLateAndDuplicateReplies : Obligations.AbandonedLateAndDuplicateReplies := by
  rintro source g d k s u w zero takesGrant takesDeny same new rfl rfl hz
  have zero_eq (cause : EndCause) (v : State) : zero cause v = offerZeroCharge source g cause v := by
    rw [hz, offerZeroCharge_eq]
  have grant : exec (.grant source g) s = .next (settleGrant source g (s.taking (.grant source g))) := by
    rw [exec_grant_of_takesNow takesGrant, settleOld_of_new new]
  have deny : exec (.deny source d) s = .next (settleDeny source d (s.taking (.deny source d))) := exec_deny_of_takesNow takesDeny
  rw [grant, deny]
  refine ⟨fun x handle first holds claiming abandoned => ⟨fun room none => ?_, ?_⟩, fun station slot other => ?_,
    fun handle first free x hx => ?_, fun handle had => ⟨fun free => ?_, fun used => ?_, ?_⟩,
    fun first fault handle had other hf => ?_, fun away => ?_⟩
  · rw [settleGrant_of_abandoned (s := s.taking _) handle first holds claiming abandoned room none]
    rfl
  · rw [settleDeny_of_abandoned (s := s.taking _) (same ▸ handle) first holds claiming abandoned]
    rfl
  · have here : s.slotOf g.handle = some k := State.slotOf_eq_some_iff.2 ⟨station, slot⟩
    rw [settleGrant_of_otherGeneration (s := s.taking _) here other, zero_eq,
      settleDeny_of_otherGeneration (s := s.taking _) (same ▸ here) (same ▸ other)]
    exact ⟨rfl, rfl⟩
  · rw [settleGrant_of_free (s := s.taking _) handle first free, zero_eq, settleDeny_of_free (s := s.taking _) (same ▸ handle) first free, hx]
    exact ⟨rfl, rfl⟩
  · rw [settleGrant_of_second (s := s.taking _) handle had, if_pos rfl, zero_eq, lateGrant_of_unmatched]
    refine State.matched_eq_none_iff.2 fun j hj => ?_
    obtain rfl : k = j := Fin.ext (by rw [handle] at hj; exact congrArg Handle.slot hj)
    exact free
  · obtain ⟨x, hx⟩ := Option.ne_none_iff_exists'.1 used
    rw [settleGrant_of_second (s := s.taking _) handle had, if_pos rfl,
      lateGrant_of_matched (s := s.taking _) (y := (k, x)) (State.matched_eq_some_iff.2 ⟨handle, hx⟩)]
  · rw [settleDeny_of_second (s := s.taking _) (same ▸ handle) had, if_pos rfl]
  · rw [settleGrant_of_second (s := s.taking _) handle had, if_neg other, zero_eq,
      settleDeny_of_second (s := s.taking _) (same ▸ handle) had, if_neg other, hf, ← same]
    exact ⟨rfl, rfl⟩
  · have none : s.slotOf g.handle = none := by
      refine Option.eq_none_iff_forall_ne_some.2 fun j hj => ?_
      obtain ⟨station, slot⟩ := State.slotOf_eq_some_iff.1 hj
      rcases away with other | high
      · exact other station
      · omega
    rw [settleGrant_of_notHere (s := s.taking _) none, settleDeny_of_notHere (s := s.taking _) (same ▸ none)]
    exact ⟨rfl, rfl⟩

end Sys2Proof.Machine
end

section
/-! Sessions and metering: what entering ENDING and DETACHED leaves, and the offers of a session's CHARGEs (R79, R86, R87, R105 to R107). -/

namespace Sys2Proof.Machine

/-! ### A fault event beside a change of another block -/

section
variable (t : SessionTable) (m : Meter) (h : Home) (r : Store) (s : State)

/-- The state with the blocks that a fault event does not touch given. -/
def State.beside : State := { s with table := t, meter := m, home := h, store := r }

theorem settlePermission_beside : settlePermission (s.beside t m h r) = (settlePermission s).beside t m h r := by
  unfold settlePermission
  rw [show (s.beside t m h r).permission = s.permission from rfl]
  split <;> rfl

theorem logWith_beside (n : Nat) (e : FaultEvent) : logWith n e (s.beside t m h r) = (logWith n e s).beside t m h r := by
  induction n generalizing e s with
  | zero => rfl
  | succ n ih =>
    have settled := settlePermission_beside t m h r { s with faults := s.faults.take e }
    unfold logWith
    simp only
    rw [show settlePermission { s.beside t m h r with faults := (s.beside t m h r).faults.take e } =
      (settlePermission { s with faults := s.faults.take e }).beside t m h r from settled]
    simp only [apply_ite (State.beside t m h r), ← ih]
    rfl

theorem logFault_beside (k : FaultKind) (x : Subject) : logFault k x (s.beside t m h r) = (logFault k x s).beside t m h r :=
  logWith_beside t m h r s _ _

end

/-! ### What the offers add to the queue -/

section
variable {s : State}

theorem settlePermission_queue (s : State) : (settlePermission s).bus.queue = s.bus.queue := by
  rcases settlePermission_cases s with ⟨_, h⟩ | ⟨_, h⟩ <;> rw [h]

theorem logWith_queue (n : Nat) (e : FaultEvent) (s : State) : ∃ rest, (logWith n e s).bus.queue = s.bus.queue ++ rest := by
  induction n generalizing e s with
  | zero => exact ⟨[], (List.append_nil _).symm⟩
  | succ n ih =>
    have settled : (settlePermission { s with faults := s.faults.take e }).bus.queue = s.bus.queue := settlePermission_queue _
    unfold logWith
    simp only
    split
    · split
      · exact ⟨_, congrArg (· ++ _) settled⟩
      · obtain ⟨rest, h⟩ := ih (queueFullEvent 0) (settlePermission { s with faults := s.faults.take e })
        exact ⟨rest, h.trans (congrArg (· ++ _) settled)⟩
    · exact ⟨[], settled.trans (List.append_nil _).symm⟩

theorem offerTally_queue (s : State) : ∃ rest, (offerTally s).bus.queue = s.bus.queue ++ rest := by
  unfold offerTally
  split
  · split
    · exact ⟨[], (List.append_nil _).symm⟩
    · exact ⟨[], (List.append_nil _).symm⟩
    · split
      · exact ⟨_, rfl⟩
      · exact logWith_queue _ _ _
  · exact ⟨[], (List.append_nil _).symm⟩

end

/-! ### The one CHARGE that the queue holds for a handle -/

section
variable {s : State} {h : Handle} {before after : List Entry} {e : Entry} {c : ChargeBody} {o : Option (Fin 12)}

theorem Entry.chargesFor_of_payload (payload : e.payload = .charge c o) (handle : c.handle = h) : Entry.chargesFor h e = true := by
  simp [Entry.chargesFor, payload, handle]

theorem Entry.isZeroCharge_iff (payload : e.payload = .charge c o) : e.isZeroCharge = true ↔ o = none ∧ c.endCause ≠ none := by
  unfold Entry.isZeroCharge
  rw [payload]
  cases o <;> simp [Option.isSome_iff_ne_none]

theorem holdingCharge_of_split (split : s.bus.queue = before ++ e :: after)
    (others : ∀ y ∈ before ++ after, Entry.chargesFor h y = false) (payload : e.payload = .charge c o) (handle : c.handle = h) :
    s.holdingCharge h = if e.inFlight = true ∨ o = none ∧ c.endCause ≠ none then .inFlight else .waiting := by
  have only : ∀ y ∈ s.bus.queue, Entry.chargesFor h y = true → y = e := by
    intro y hy charge
    rw [split, List.mem_append, List.mem_cons] at hy
    rcases hy with hy | rfl | hy
    · rw [others y (List.mem_append_left _ hy)] at charge; cases charge
    · rfl
    · rw [others y (List.mem_append_right _ hy)] at charge; cases charge
  simp only [← Entry.isZeroCharge_iff payload]
  rcases holdingCharge_cases h s with ⟨absent, _⟩ | ⟨⟨y, hy, charge, zero⟩, holding⟩ | ⟨y, hy, charge, notZero, holding⟩
  · have := absent e (by rw [split]; exact List.mem_append_right _ List.mem_cons_self)
    rw [Entry.chargesFor_of_payload payload handle] at this
    cases this
  · rw [only y hy charge] at zero
    rw [holding, if_pos (.inr zero)]
  · rw [only y hy charge] at holding notZero
    rw [holding, notZero]
    simp only [Bool.false_eq_true, or_false]

theorem rewriteWaiting_of_split (f : Payload → Payload) (split : s.bus.queue = before ++ e :: after)
    (others : ∀ y ∈ before ++ after, Entry.chargesFor h y = false) (charge : Entry.chargesFor h e = true) (waits : e.inFlight = false) :
    s.rewriteWaiting (Entry.chargesFor h) f = s.setQueue (before ++ { e with payload := f e.payload } :: after) := by
  have kept (q : List Entry) (none : ∀ y ∈ q, Entry.chargesFor h y = false) :
      q.map (fun e => if Entry.chargesFor h e && !e.inFlight then { e with payload := f e.payload } else e) = q :=
    (List.map_congr_left fun y hy => by rw [none y hy]; rfl).trans (List.map_id q)
  unfold State.rewriteWaiting
  rw [split, List.map_append, List.map_cons, kept before fun y hy => others y (List.mem_append_left _ hy),
    kept after fun y hy => others y (List.mem_append_right _ hy), charge, waits]
  rfl

end

/-! ### The offer of a final CHARGE (R87) -/

section
variable {k : Fin 12} {x : Session} {s u : State}

theorem offerFinal_of_other (holds : s.table.slots[k].session = some x) (other : x.state ≠ .ending ∨ x.finalStatus ≠ some .waiting) :
    offerFinal k s = s := by
  unfold offerFinal
  rw [holds]
  exact if_neg fun h => other.elim (fun ne => ne h.1) (fun ne => ne h.2)

theorem offerFinal_of_waiting (holds : s.table.slots[k].session = some x) (ending : x.state = .ending)
    (waits : x.finalStatus = some .waiting) :
    offerFinal k s = match s.holdingCharge (s.handleAt k) with
      | .waiting => (s.rewriteWaiting (Entry.chargesFor (s.handleAt k)) (Payload.madeFinal k x)).modSession k
          (fun y => { y with finalStatus := some .queued })
      | .inFlight => s
      | .nothing => if s.room then
          (s.joinQueue (Entry.fresh (x.home.getD 0) (.charge (finalBody (s.handleAt k) x) (some k)))).modSession k
            (fun y => { y with finalStatus := some .queued })
        else s := by
  unfold offerFinal
  rw [holds]
  simp only
  rw [if_pos ⟨ending, waits⟩] <;> rfl

/-- What the offer of a waiting final CHARGE does, by what the queue holds for its handle (R87). -/
theorem offerFinal_findings {cause : EndCause} (holds : s.table.slots[k].session = some x)
    (hu : u = s.setSlot k { s.table.slots[k] with session := some { x with finalStatus := some .queued } })
    (ending : x.state = .ending) (waits : x.finalStatus = some .waiting) (hc : x.endCause = some cause) :
    (∀ (before after : List Entry) (e : Entry) (c : ChargeBody) (o : Option (Fin 12)), s.bus.queue = before ++ e :: after →
      (∀ y ∈ before ++ after, Entry.chargesFor (s.handleAt k) y = false) → e.payload = .charge c o →
      c.handle = s.handleAt k →
      (e.inFlight = true ∨ o = none ∧ c.endCause ≠ none → offerFinal k s = s) ∧
      (e.inFlight = false → o ≠ none ∨ c.endCause = none →
        offerFinal k s = u.setQueue (before ++
          { e with payload := .charge { c with total := x.total, endCause := some cause } (some k) } :: after))) ∧
    ((∀ e ∈ s.bus.queue, Entry.chargesFor (s.handleAt k) e = false) →
      (s.bus.queue.length < 24 → offerFinal k s = u.queued (x.home.getD 0)
        (.charge { handle := s.handleAt k, account := x.account, home := x.home.getD 0, total := x.total,
                   endCause := some cause } (some k))) ∧
      (24 ≤ s.bus.queue.length → offerFinal k s = s)) := by
  refine ⟨fun before after e c o split others payload handle => ⟨fun blocked => ?_, fun waiting rewritable => ?_⟩,
    fun none => ⟨fun room => ?_, fun full => ?_⟩⟩
  · rw [offerFinal_of_waiting holds ending waits, holdingCharge_of_split split others payload handle, if_pos blocked]
  · have free : ¬ (e.inFlight = true ∨ o = none ∧ c.endCause ≠ none) := by
      rintro (flies | ⟨absent, present⟩)
      · rw [waiting] at flies; cases flies
      · exact rewritable.elim (fun h => h absent) present
    rw [offerFinal_of_waiting holds ending waits, holdingCharge_of_split split others payload handle, if_neg free]
    simp only
    rw [rewriteWaiting_of_split _ split others (Entry.chargesFor_of_payload payload handle) waiting,
      State.modSession_of_session (x := x) _ (by exact holds), payload, hu]
    simp only [Payload.madeFinal, hc, Option.getD_some]
    rfl
  · rw [offerFinal_of_room holds ending waits room none, hu]
    simp only [finalBody, hc, Option.getD_some]
  · have noRoom : ¬ s.room = true := fun h => absurd (s.room_iff.1 h) (by omega)
    rw [offerFinal_of_waiting holds ending waits, holdingCharge_of_none none]
    exact if_neg noRoom

theorem State.setSlot_beside (k : Fin 12) (y : Slot) (s : State) :
    s.setSlot k y = s.beside { s.table with slots := s.table.slots.set k y } s.meter s.home s.store := rfl

end

/-! ### Entering ENDING (R86, R105) -/

/-- The record of a session that has entered ENDING, its final CHARGE still to be offered, with its mark of saturation (R86, R105). -/
def Session.closed (cause : EndCause) (saturated : Bool) (x : Session) : Session :=
  { x with state := .ending, line := none, abandoned := false, grace := none, postCounter := 0, remainder := 0,
           total := finalTotal x, endCause := some cause, finalStatus := some .waiting, saturated := saturated }

/-- The state in which the session of slot `k` has been closed with a mark, before its final CHARGE is offered (R86). -/
def State.closing (k : Fin 12) (cause : EndCause) (x : Session) (s : State) (saturated : Bool) : State :=
  { s with table := { s.table with
      slots := s.table.slots.set k { s.table.slots[k] with session := some (x.closed cause saturated) },
      detachOrder := s.table.detachOrder.filter (fun j => decide (j ≠ k)) } }

/-- The state in which the session has been closed, with the credit that its total cannot take (R86, R103, R105). -/
def State.closed (k : Fin 12) (cause : EndCause) (x : Session) (s : State) : State :=
  if x.remainder < 500 ∨ x.total < 16777215 then s.closing k cause x x.saturated
  else
    let v := { s.closing k cause x true with meter := { s.meter with overflow := min 65535 (s.meter.overflow + 1) } }
    if x.saturated then v
    else logFault .meterSaturated { Subject.blank with handle := some (s.handleAt k), account := some x.account } v

section
variable {k : Fin 12} {x : Session} {s : State}

theorem finalTotal_of_below (h : x.remainder < 500) : finalTotal x = x.total := if_pos h

theorem finalTotal_of_rounded (h : ¬ x.remainder < 500) (below : x.total < Config.maxCredits) : finalTotal x = x.total + 1 := by
  unfold finalTotal
  rw [if_neg h, if_pos below]

theorem finalTotal_of_top (h : ¬ x.remainder < 500) (top : ¬ x.total < Config.maxCredits) : finalTotal x = x.total := by
  unfold finalTotal
  rw [if_neg h, if_neg top]

theorem modSession_modSession (f g : Session → Session) (s : State) :
    (s.modSession k f).modSession k g = s.modSession k (fun x => g (f x)) := by
  unfold State.modSession State.modSlot
  rw [State.setSlot_setSlot, State.setSlot_slot]
  simp [Function.comp_def]

theorem logFault_modSession (f : Session → Session) (kind : FaultKind) (y : Subject) (s : State) :
    (logFault kind y s).modSession k f = logFault kind y (s.modSession k f) := by
  have table : (logFault kind y s).table = s.table := (logWith_keeps _ _ _).1
  have left : (logFault kind y s).modSession k f = (logFault kind y s).beside (s.modSession k f).table s.meter s.home s.store := by
    have others : (logFault kind y s).meter = s.meter ∧ (logFault kind y s).home = s.home ∧ (logFault kind y s).store = s.store := by
      simp [logFault]
    obtain ⟨meter, home, store⟩ := others
    unfold State.modSession State.modSlot State.setSlot State.beside
    rw [table, ← meter, ← home, ← store]
  exact left.trans (logFault_beside (s.modSession k f).table s.meter s.home s.store s kind y).symm

/-- A session whose total has come to its top, its excess counted: METER_SATURATED is logged while its mark is clear (R103). -/
theorem noteSaturation_addOverflow {f : Session → Session} {n : Nat} (holds : s.table.slots[k].session = some x)
    (same : (f x).saturated = x.saturated ∧ (f x).account = x.account) :
    noteSaturation k (addOverflow n (s.modSession k f)) =
      if x.saturated then addOverflow n (s.modSession k f)
      else logFault .meterSaturated { Subject.blank with handle := some (s.handleAt k), account := some x.account }
        (addOverflow n (s.modSession k (fun y => { f y with saturated := true }))) := by
  have found : (addOverflow n (s.modSession k f)).table.slots[k].session = some (f x) := by
    show (s.modSession k f).table.slots[k].session = _
    rw [State.modSession_slot, holds]
    rfl
  have handle : (addOverflow n (s.modSession k f)).handleAt k = s.handleAt k := by
    show (s.modSession k f).handleAt k = _
    unfold State.handleAt
    rw [State.modSession_slot]
    rfl
  have marked : (addOverflow n (s.modSession k f)).modSession k (fun y => { y with saturated := true }) =
      addOverflow n (s.modSession k (fun y => { f y with saturated := true })) :=
    congrArg (addOverflow n) (modSession_modSession f _ s)
  unfold noteSaturation
  rw [found]
  simp only
  rw [same.1, same.2, handle, marked]

/-- The rounding of a session and its record's closing together (R86, R105). -/
theorem roundSession_ended (cause : EndCause) (holds : s.table.slots[k].session = some x) :
    (roundSession k { s with table := { s.table with detachOrder := s.table.detachOrder.filter (fun j => decide (j ≠ k)) } }).modSession k
      (Session.ended cause) = s.closed k cause x := by
  generalize hs : { s with table := { s.table with detachOrder := s.table.detachOrder.filter (fun j => decide (j ≠ k)) } } = s0
  have holds0 : s0.table.slots[k].session = some x := by rw [← hs]; exact holds
  unfold roundSession
  rw [holds0]
  simp only
  unfold State.closed
  by_cases below : x.remainder < 500
  · rw [if_pos below, if_pos (.inl below), modSession_modSession, State.modSession_of_session _ holds0, ← hs]
    unfold State.closing Session.closed
    rw [finalTotal_of_below below]
    rfl
  · rw [if_neg below]
    by_cases room : x.total < Config.maxCredits
    · rw [if_pos room, if_pos (.inr room), modSession_modSession, State.modSession_of_session _ holds0, ← hs]
      unfold State.closing Session.closed
      rw [finalTotal_of_rounded below room]
      rfl
    · have closed (b : Bool) : (addOverflow 1 (s0.modSession k (fun y => { y with remainder := 0, saturated := b }))).modSession k
          (Session.ended cause) = { s.closing k cause x b with meter := { s.meter with overflow := min 65535 (s.meter.overflow + 1) } } := by
        refine (congrArg (addOverflow 1) (modSession_modSession (fun y => { y with remainder := 0, saturated := b }) _ s0)).trans ?_
        rw [State.modSession_of_session _ holds0, ← hs]
        unfold State.closing Session.closed addOverflow
        rw [finalTotal_of_top below room, holdAt_eq_min]
        rfl
      rw [if_neg room, if_neg fun h => h.elim below room,
        noteSaturation_addOverflow (f := fun y => { y with remainder := 0 }) holds0 ⟨rfl, rfl⟩]
      cases marked : x.saturated with
      | true =>
        rw [if_pos rfl, ← closed]
        have same : s0.modSession k (fun y => { y with remainder := 0 }) = s0.modSession k (fun y => { y with remainder := 0, saturated := true }) := by
          rw [State.modSession_of_session _ holds0, State.modSession_of_session _ holds0, marked]
        rw [same]
        rfl
      | false =>
        rw [if_neg nofun, ← closed, logFault_modSession, ← hs]
        rfl

theorem endSession_eq (cause : EndCause) (holds : s.table.slots[k].session = some x) :
    endSession k cause s =
      if x.state.live then offerTally (offerFinal k (s.closed k cause x)) else offerFinal k (s.closed k cause x) := by
  have live : s.table.slots[k].live = x.state.live := by
    unfold Slot.live
    rw [holds]
  unfold endSession
  simp only
  rw [roundSession_ended cause holds, live]

theorem State.closing_slot (cause : EndCause) (b : Bool) :
    (s.closing k cause x b).table.slots[k] = { s.table.slots[k] with session := some (x.closed cause b) } :=
  State.setSlot_slot ..

theorem State.closing_slot_ne {j : Fin 12} (cause : EndCause) (b : Bool) (ne : j ≠ k) :
    (s.closing k cause x b).table.slots[j] = s.table.slots[j] := State.setSlot_slot_ne _ ne

/-- The table that the closing leaves is that of the record closed with one mark or the other; of the rest, the overflow count and
what the fault changes. -/
theorem State.closed_leaves (k : Fin 12) (cause : EndCause) (x : Session) (s : State) :
    (∃ b, (s.closed k cause x).table = (s.closing k cause x b).table) ∧
    s.closed k cause x = { s with
      lines := (s.closed k cause x).lines, table := (s.closed k cause x).table, bus := (s.closed k cause x).bus,
      faults := (s.closed k cause x).faults,
      meter := { s.meter with overflow := (s.closed k cause x).meter.overflow } } := by
  unfold State.closed
  split
  · exact ⟨⟨_, rfl⟩, rfl⟩
  · simp only
    split
    · exact ⟨⟨_, rfl⟩, rfl⟩
    · generalize hv : ({ s.closing k cause x true with
        meter := { s.meter with overflow := min 65535 (s.meter.overflow + 1) } } : State) = v
      have kept := logFault_keeps .meterSaturated { Subject.blank with handle := some (s.handleAt k), account := some x.account } v
      obtain ⟨table, meter, home, store, supply, station, freeDraws, pending, -⟩ := kept
      refine ⟨⟨true, table.trans (hv ▸ rfl)⟩, ?_⟩
      subst hv
      generalize logFault _ _ _ = w at *
      cases w
      simp only at *
      subst meter home store supply station freeDraws pending
      rfl

theorem offerFinal_detachOrder (k : Fin 12) (s : State) : (offerFinal k s).table.detachOrder = s.table.detachOrder := by
  unfold offerFinal
  repeat' split
  all_goals rfl

theorem offerTally_detachOrder (s : State) : (offerTally s).table.detachOrder = s.table.detachOrder := by
  unfold offerTally
  repeat' split
  all_goals simp [joinTally, logQueueFull, State.joinQueue]

/-- A final CHARGE offered is WAITING in its slot, or QUEUED (R87). -/
theorem offerFinal_session (holds : s.table.slots[k].session = some x) (waits : x.finalStatus = some .waiting) :
    ∃ status, (offerFinal k s).table.slots[k].session = some { x with finalStatus := status } ∧
      (status = some .waiting ∨ status = some .queued) := by
  have still : ∃ status, s.table.slots[k].session = some { x with finalStatus := status } ∧
      (status = some .waiting ∨ status = some .queued) := ⟨_, by rw [holds, ← waits], .inl rfl⟩
  have queued (u : State) (hu : u.table.slots[k].session = some x) :
      ∃ status, (u.modSession k (fun y => { y with finalStatus := some .queued })).table.slots[k].session = some { x with finalStatus := status } ∧
        (status = some .waiting ∨ status = some .queued) := by
    refine ⟨_, ?_, .inr rfl⟩
    rw [State.modSession_slot, hu]
    rfl
  unfold offerFinal
  rw [holds]
  simp only
  split
  · split
    · exact queued _ holds
    · exact still
    · split
      · exact queued _ holds
      · exact still
  · exact still

end

/-! ### O18 -/

/-- What `endSession` leaves: the session, the detach order, the other slots, and the rest of the station (R86). -/
theorem endSession_leaves {k : Fin 12} {x : Session} {s : State} (cause : EndCause) (holds : s.table.slots[k].session = some x) :
    (∃ y : Session, (endSession k cause s).table.slots[k].session = some y ∧
      y = { x with state := .ending, line := none, abandoned := false, grace := none, postCounter := 0, remainder := 0,
                   total := finalTotal x, endCause := some cause, finalStatus := y.finalStatus, saturated := y.saturated } ∧
      (y.finalStatus = some .waiting ∨ y.finalStatus = some .queued)) ∧
    (endSession k cause s).table.detachOrder = s.table.detachOrder.filter (fun j => decide (j ≠ k)) ∧
    (∀ j : Fin 12, j ≠ k → (endSession k cause s).table.slots[j] = s.table.slots[j]) ∧
    endSession k cause s = { s with
      lines := (endSession k cause s).lines, table := (endSession k cause s).table, bus := (endSession k cause s).bus,
      faults := (endSession k cause s).faults,
      meter := { s.meter with overflow := (endSession k cause s).meter.overflow } } := by
  obtain ⟨⟨b, table⟩, rest⟩ := State.closed_leaves k cause x s
  have slots : (endSession k cause s).table.slots = (offerFinal k (s.closed k cause x)).table.slots := by
    rw [endSession_eq cause holds]
    split
    · exact offerTally_slots
    · rfl
  have order : (endSession k cause s).table.detachOrder = (s.closed k cause x).table.detachOrder := by
    rw [endSession_eq cause holds]
    split
    · rw [offerTally_detachOrder, offerFinal_detachOrder]
    · rw [offerFinal_detachOrder]
  refine ⟨?_, ?_, fun j ne => ?_, ?_⟩
  · obtain ⟨status, session, either⟩ := offerFinal_session (k := k) (s := s.closed k cause x) (x := x.closed cause b)
      (by rw [table, State.closing_slot]) rfl
    exact ⟨_, by rw [slots, session], rfl, either⟩
  · rw [order, table]
    rfl
  · rw [slots, offerFinal_slot (.inl ne), table, State.closing_slot_ne cause b ne]
  · obtain ⟨-, meter, home, store, -, supply, station, freeDraws, pending, -⟩ := offerFinal_keeps k (s.closed k cause x)
    have kept : (endSession k cause s).meter = (s.closed k cause x).meter ∧ (endSession k cause s).home = (s.closed k cause x).home ∧
        (endSession k cause s).store = (s.closed k cause x).store ∧ (endSession k cause s).supply = (s.closed k cause x).supply ∧
        (endSession k cause s).station = (s.closed k cause x).station ∧
        (endSession k cause s).freeDraws = (s.closed k cause x).freeDraws ∧
        (endSession k cause s).pending = (s.closed k cause x).pending := by
      rw [endSession_eq cause holds]
      split <;> simp
    obtain ⟨meter, home, store, supply, station, freeDraws, pending⟩ := kept
    rw [rest] at meter home store supply station freeDraws pending
    generalize endSession k cause s = t at *
    cases t
    simp only at *
    subst meter home store supply station freeDraws pending
    rfl

/-- The final CHARGE of an ending session joins the queue before what the ending brings else, when nothing stands in its way (R87). -/
theorem endSession_queue {k : Fin 12} {x : Session} {s : State} (cause : EndCause) (holds : s.table.slots[k].session = some x)
    (below : x.remainder < 500) (room : s.bus.queue.length < 24)
    (none : ∀ e ∈ s.bus.queue, Entry.chargesFor (s.handleAt k) e = false) :
    ∃ rest : List Entry, (endSession k cause s).bus.queue = s.bus.queue ++
      { destination := x.home.getD 0,
        payload := .charge { handle := s.handleAt k, account := x.account, home := x.home.getD 0, total := x.total,
                             endCause := some cause } (some k),
        inFlight := false, mismatches := 0 } :: rest := by
  have handle (b : Bool) : (s.closing k cause x b).handleAt k = s.handleAt k := by
    unfold State.handleAt
    rw [State.closing_slot]
    rfl
  have joined : (offerFinal k (s.closed k cause x)).bus.queue = s.bus.queue ++
      [{ destination := x.home.getD 0,
         payload := .charge { handle := s.handleAt k, account := x.account, home := x.home.getD 0, total := x.total,
                              endCause := some cause } (some k),
         inFlight := false, mismatches := 0 }] := by
    unfold State.closed
    rw [if_pos (.inl below), offerFinal_of_room (x := x.closed cause x.saturated) (by rw [State.closing_slot]) rfl rfl
      (by exact room) (by rw [handle]; exact none), handle]
    unfold finalBody Session.closed
    rw [finalTotal_of_below below]
    rfl
  rw [endSession_eq cause holds]
  split
  · obtain ⟨rest, h⟩ := offerTally_queue (offerFinal k (s.closed k cause x))
    exact ⟨rest, by rw [h, joined, List.append_assoc]; rfl⟩
  · exact ⟨[], joined⟩

/-- Settles O18: the ending is the session closed and its final CHARGE offered; the detach and the offer of a final CHARGE by what
the queue holds. -/
theorem endingAndDetaching : Obligations.EndingAndDetaching := by
  refine ⟨?_, fun k x grace s u holds hu => ?_, fun k x cause s u holds hu => ⟨offerFinal_of_other holds, offerFinal_findings holds hu⟩⟩
  · rintro k cause x s t holds rfl
    obtain ⟨session, order, others, rest⟩ := endSession_leaves cause holds
    refine ⟨session, order, others, rest, ?_, endSession_queue cause holds⟩
    intro marked v w hm hv hw
    have marked_eq (b : Bool) : marked b = s.closing k cause x b := hm b
    have closed : w = s.closed k cause x := by
      unfold State.closed
      rw [marked_eq] at hv
      rcases hw with ⟨fits, rfl⟩ | ⟨high, top, saturated, rfl⟩ | ⟨high, top, saturated, rfl⟩
      · rw [if_pos fits, marked_eq]
      · rw [if_neg (by omega), saturated, hv]
        rfl
      · rw [if_neg (by omega), saturated, hv]
        rfl
    rw [closed, endSession_eq cause holds]
    refine ⟨fun live => if_pos ?_, fun notLive => if_neg ?_⟩
    · rcases live with h | h | h <;> rw [h] <;> rfl
    · rcases notLive with h | h <;> rw [h] <;> exact nofun
  · have handle : u.handleAt k = s.handleAt k := by
      rw [hu]
      simp [State.handleAt, State.own]
    have detached : detachSession k x grace s =
        offerRefusable (x.home.getD 0) (.detach { handle := s.handleAt k, account := x.account }) u := by
      rw [← handle, hu]
      unfold detachSession
      rw [State.modSession_of_session _ holds]
      rfl
    rw [detached]
    have same : u.bus = s.bus := by rw [hu]
    unfold offerRefusable
    refine ⟨fun room => if_pos (u.room_iff.2 (by rw [same]; exact room)), fun full => if_neg fun h => ?_⟩
    have := u.room_iff.1 h
    rw [same] at this
    omega

end Sys2Proof.Machine
end

section
/-! Sessions and metering: CUTOFF, REFUSE and the grace timers; the TALLY; the posting and the band's flip. -/

namespace Sys2Proof.Machine

/-! ### CUTOFF and the grace timers (R81 to R83) -/

section
variable {k : Fin 12} {x : Session} {s : State}

theorem exec_cutoff_of_takesNow {c : CutoffBody} (h : s.takesNow (.cutoff c)) :
    exec (.cutoff c) s = .next (settleCutoff c (s.taking (.cutoff c))) :=
  congrArg Host.Outcome.next (takeHanded_of_takesNow (settleCutoff c) h)

theorem settleCutoff_of_unmatched {c : CutoffBody} (absent : s.matched c.handle = none) : settleCutoff c s = s := by
  unfold settleCutoff
  rw [absent]

theorem settleCutoff_of_active {c : CutoffBody} {l : Fin 8} (found : s.matched c.handle = some (k, x)) (active : x.state = .active)
    (bound : x.line = some l) :
    settleCutoff c s = (placeText l FixedText.creditExhausted.chars s).setSlot k
      { s.table.slots[k] with session := some { x with state := .cutoffGrace, grace := some 60 } } := by
  unfold settleCutoff
  rw [found]
  simp only
  rw [active, bound]
  simp only
  rw [State.modSession_of_session (x := x) _ (by exact (State.matched_eq_some_iff.1 found).2), bound]
  rfl

theorem settleCutoff_of_detached {c : CutoffBody} (found : s.matched c.handle = some (k, x)) (detached : x.state = .detached) :
    settleCutoff c s = endSession k .credit s := by
  unfold settleCutoff
  simp only [found, detached]

theorem settleCutoff_of_left {c : CutoffBody} (found : s.matched c.handle = some (k, x))
    (left : x.state = .cutoffGrace ∨ x.state = .claiming ∨ x.state = .ending) : settleCutoff c s = s := by
  unfold settleCutoff
  rcases left with h | h | h <;> simp only [found, h]

theorem graceDue_iff (timer : Option Nat) : graceDue timer = true ↔ timer = some 0 ∨ timer = some 1 := by
  simp [graceDue, due]

theorem exec_detachGraceExpiry (running : s.inReset = false) (holds : s.table.slots[k].session = some x) :
    exec (.detachGraceExpiry k) s = .next (if x.state = .detached ∧ graceDue x.grace then endSession k .detachExpired s else s) := by
  change execDetachGraceExpiry k s = _
  unfold execDetachGraceExpiry
  rw [awake_of_running running, holds]

theorem exec_cutoffGraceExpiry (running : s.inReset = false) (holds : s.table.slots[k].session = some x) :
    exec (.cutoffGraceExpiry k) s = .next (if x.state = .cutoffGrace ∧ graceDue x.grace then
      endSession k .credit (match x.line with | none => s | some l => hangUp l s) else s) := by
  change execCutoffGraceExpiry k s = _
  unfold execCutoffGraceExpiry
  rw [awake_of_running running, holds] <;> rfl

end

/-- Settles O19, by the session's state and its grace timer. -/
theorem cutoffAndGraceExpiries : Obligations.CutoffAndGraceExpiries := by
  refine ⟨?_, fun k x s running holds => ⟨fun moment => ⟨fun detached => ?_, fun l cutoff bound => ?_⟩, fun other => ?_⟩⟩
  · rintro c s u takes rfl
    rw [exec_cutoff_of_takesNow takes]
    refine ⟨fun k x found => ⟨fun l active bound => ?_, fun detached => ?_, fun left => ?_⟩, fun absent => ?_⟩
    · rw [settleCutoff_of_active (s := s.taking _) found active bound]
      rfl
    · rw [settleCutoff_of_detached (s := s.taking _) found detached]
    · rw [settleCutoff_of_left (s := s.taking _) found left]
    · rw [settleCutoff_of_unmatched (s := s.taking _) absent]
  · rw [exec_detachGraceExpiry running holds, if_pos ⟨detached, (graceDue_iff _).2 moment⟩]
  · rw [exec_cutoffGraceExpiry running holds, if_pos ⟨cutoff, (graceDue_iff _).2 moment⟩, bound]
  · have notDue : ¬ graceDue x.grace = true := fun h => ((graceDue_iff _).1 h).elim other.1 other.2
    rw [exec_detachGraceExpiry running holds, exec_cutoffGraceExpiry running holds, if_neg fun h => notDue h.2,
      if_neg fun h => notDue h.2]
    exact ⟨rfl, rfl⟩

/-! ### REFUSE (R85) -/

section
variable {k : Fin 12} {x : Session} {s : State} {r : RefuseBody}

theorem exec_refuse_of_takesNow (h : s.takesNow (.refuse r)) :
    exec (.refuse r) s = .next (settleRefuse r (s.taking (.refuse r))) :=
  congrArg Host.Outcome.next (takeHanded_of_takesNow (settleRefuse r) h)

theorem settleRefuse_of_matched (found : s.matched r.handle = some (k, x)) :
    settleRefuse r s = match x.state with
      | .active => endSession k .homeLost (hangUpWith x.line .accountFault (logRefused r s))
      | .cutoffGrace => endSession k .homeLost (hangUpWith x.line .accountFault (logRefused r s))
      | .detached => endSession k .homeLost (logRefused r s)
      | _ => s := by
  unfold settleRefuse
  rw [found] <;> rfl

theorem settleRefuse_of_unmatched (absent : s.matched r.handle = none) : settleRefuse r s = s := by
  unfold settleRefuse
  rw [absent]

end

/-- Settles O20, by the state of the session that the REFUSE finds. -/
theorem refuseEndsTheSession : Obligations.RefuseEndsTheSession := by
  rintro r s u v takes rfl rfl
  rw [exec_refuse_of_takesNow takes]
  refine ⟨fun k x found => ⟨fun l live bound => ?_, fun detached => ?_, fun left => ?_⟩, fun absent => ?_⟩
  · rw [settleRefuse_of_matched (s := s.taking _) found]
    rcases live with h | h <;> rw [h, bound] <;> rfl
  · rw [settleRefuse_of_matched (s := s.taking _) found, detached]
    rfl
  · rw [settleRefuse_of_matched (s := s.taking _) found]
    rcases left with h | h <;> rw [h]
  · rw [settleRefuse_of_unmatched (s := s.taking _) absent]

/-! ### The TALLY (R88, R90) -/

section
variable {s : State}

theorem offerTally_of_none (serving : s.inService = true) (none : ∀ e ∈ s.bus.queue, Entry.isTally e = false) :
    offerTally s = if s.room then joinTally s else logQueueFull 255 s := by
  unfold offerTally
  rw [if_pos serving, (State.holding_eq_nothing_iff _ _).2 none]

theorem offerTally_of_split {before after : List Entry} {e : Entry} (serving : s.inService = true)
    (split : s.bus.queue = before ++ e :: after) (others : ∀ x ∈ before, Entry.isTally x = false) (tally : Entry.isTally e = true) :
    offerTally s = if e.inFlight then { s with table := { s.table with tallyOwed := true } } else s := by
  unfold offerTally
  rw [if_pos serving, State.holding_of_split split tally others]
  cases e.inFlight <;> rfl

theorem exec_tallyHeartbeatExpiry (running : s.inReset = false) :
    exec .tallyHeartbeatExpiry s = .next (if s.inService ∧ due s.table.heartbeat then
      offerTally { s with table := { s.table with heartbeat := some 10 } } else s) := awake_of_running running

theorem exec_tally_of_takesNow {source : Nat} {t : TallyBody} (h : s.takesNow (.tally source t)) :
    exec (.tally source t) s = .next (takeTally source t (s.taking (.tally source t))) :=
  congrArg Host.Outcome.next (takeHanded_of_takesNow (takeTally source t) h)

/-- A restart TALLY of a station that no entry names orphans none (R67). -/
theorem clearStation_of_none {source : Nat} (none : ∀ e ∈ s.home.list, e.handle.station ≠ source) : clearStation source s = s := by
  unfold clearStation
  rw [List.filter_eq_nil_iff.2 (by simpa using none)]
  rfl

theorem countTally_home (source : Nat) (t : TallyBody) (s : State) : (countTally source t s).home = s.home := by
  unfold countTally
  split <;> rfl

theorem takeTally_of_kept {source : Nat} {t : TallyBody} (kept : t.restart = false ∨ ∀ e ∈ s.home.list, e.handle.station ≠ source) :
    takeTally source t s = countTally source t s := by
  unfold takeTally
  simp only
  split
  · next restart =>
    rcases kept with no | none
    · exact absurd (no.symm.trans restart) nofun
    · exact clearStation_of_none (by rw [countTally_home]; exact none)
  · rfl

theorem exec_censusAgeExpiry {a : Fin 16} {e : CensusEntry} (running : s.inReset = false) (present : s.bus.census[a] = some e) :
    exec (.censusAgeExpiry a) s = .next
      (if e.age = 0 then { s with bus := { s.bus with census := s.bus.census.set a none } } else s) := by
  change execCensusAgeExpiry a s = _
  unfold execCensusAgeExpiry
  rw [awake_of_running running, present]

end

theorem setIfInBounds_eq_set {α : Type} {n : Nat} (v : Vector α n) (i : Fin n) (x : α) : v.setIfInBounds i.val x = v.set i x := by
  ext j hj
  rw [Vector.getElem_setIfInBounds, Vector.getElem_set]

/-- Settles O22: the offer by what the queue holds of TALLYs, the heartbeat, and the census by source. -/
theorem talliesOfferedAndCounted : Obligations.TalliesOfferedAndCounted := by
  refine ⟨fun s serving => ⟨fun none room => ?_, fun before after e split others tally => offerTally_of_split serving split others tally,
    fun none full => ?_, fun running expired => ?_, fun unexpired => ?_⟩, ?_, fun a e s running present => ⟨fun old => ?_, fun young => ?_⟩⟩
  · rw [offerTally_of_none serving none, if_pos (s.room_iff.2 room)]
    rfl
  · rw [offerTally_of_none serving none, if_neg fun h => absurd (s.room_iff.1 h) (by omega)]
    rfl
  · rw [exec_tallyHeartbeatExpiry running, if_pos ⟨serving, (due_iff _).2 expired⟩]
  · exact awake_of_unchanged (if_neg fun h => unexpired ((due_iff _).1 h.2))
  · rintro source t s u takes rfl kept
    rw [exec_tally_of_takesNow takes, takeTally_of_kept (s := s.taking _) kept]
    unfold countTally
    refine ⟨fun a address low other => ?_, fun away => ?_⟩
    · rw [if_pos ⟨low, by omega, other⟩]
      subst address
      rw [holdAt_eq_min, setIfInBounds_eq_set]
      rfl
    · refine congrArg _ (if_neg fun ⟨low, _, other⟩ => ?_)
      rcases away with zero | own
      · omega
      · exact other own
  · rw [exec_censusAgeExpiry running present, if_pos old]
  · rw [exec_censusAgeExpiry running present, if_neg young]

/-! ### The posting and the band's flip (R96, R106, R107) -/

section
variable {k : Fin 12} {x : Session} {s u : State}

theorem SessionState.live_iff (x : SessionState) : x.live = true ↔ x = .active ∨ x = .cutoffGrace ∨ x = .detached := by
  cases x <;> simp [SessionState.live]

theorem exec_posting (running : s.inReset = false) (holds : s.table.slots[k].session = some x) :
    exec (.posting k) s = .next (if x.state.live ∧ x.postCounter = 59 then postSecond k s else s) := by
  change execPosting k s = _
  unfold execPosting
  rw [awake_of_running running, holds]

theorem postSecond_of_full (holds : s.table.slots[k].session = some x) (live : x.state.live = true) (full : x.postCounter = 59) :
    postSecond k s = offerCharge k (s.setSlot k { s.table.slots[k] with session := some { x with postCounter := 0 } }) := by
  unfold postSecond
  rw [holds]
  simp only
  rw [if_pos live, if_neg (by omega), State.modSession_of_session _ holds]

/-- What the offer of a session's CHARGE does, by what the queue holds for its handle (R107). -/
theorem offerCharge_findings (holds : s.table.slots[k].session = some x) :
    ((∀ e ∈ s.bus.queue, Entry.chargesFor (s.handleAt k) e = false) → s.bus.queue.length < 24 →
      offerCharge k s = s.queued (x.home.getD 0)
        (.charge { handle := s.handleAt k, account := x.account, home := x.home.getD 0, total := x.total, endCause := none } none)) ∧
    ((∀ e ∈ s.bus.queue, Entry.chargesFor (s.handleAt k) e = false) → 24 ≤ s.bus.queue.length → offerCharge k s = s) ∧
    (∀ (before after : List Entry) (e : Entry) (c : ChargeBody) (o : Option (Fin 12)), s.bus.queue = before ++ e :: after →
      (∀ y ∈ before ++ after, Entry.chargesFor (s.handleAt k) y = false) → e.payload = .charge c o → c.handle = s.handleAt k →
      offerCharge k s = if e.inFlight = true ∨ o = none ∧ c.endCause ≠ none then s else
        s.setQueue (before ++ { e with payload := .charge { c with total := x.total } o } :: after)) := by
  have offered : offerCharge k s = match s.holdingCharge (s.handleAt k) with
      | .waiting => s.rewriteWaiting (Entry.chargesFor (s.handleAt k)) (Payload.withTotal x.total)
      | .inFlight => s
      | .nothing => if s.room then s.queued (x.home.getD 0)
          (.charge { handle := s.handleAt k, account := x.account, home := x.home.getD 0, total := x.total, endCause := none } none)
        else s := by
    unfold offerCharge
    rw [holds] <;> rfl
  rw [offered]
  refine ⟨fun none room => ?_, fun none full => ?_, fun before after e c o split others payload handle => ?_⟩
  · rw [holdingCharge_of_none none]
    exact if_pos (s.room_iff.2 room)
  · rw [holdingCharge_of_none none]
    exact if_neg fun h => absurd (s.room_iff.1 h) (by omega)
  · rw [holdingCharge_of_split split others payload handle]
    by_cases free : e.inFlight = true ∨ o = none ∧ c.endCause ≠ none
    · rw [if_pos free, if_pos free]
    · rw [if_neg free, if_neg free]
      have waits : e.inFlight = false := Bool.eq_false_iff.2 fun flies => free (.inl flies)
      simp only
      rw [rewriteWaiting_of_split _ split others (Entry.chargesFor_of_payload payload handle) waits, payload]
      rfl

end

/-- Settles O24: the posting is the counter at 0 and the offer of the CHARGE. -/
theorem postingAndBandFlip : Obligations.PostingAndBandFlip := by
  refine fun s running => ⟨fun k x u holds state full hu => ?_, fun runs last => ⟨fun peak => ?_, fun offPeak => ?_⟩⟩
  · have live := (SessionState.live_iff _).2 state
    have posted : exec (.posting k) s = .next (offerCharge k u) := by
      rw [exec_posting running holds, if_pos ⟨live, full⟩, postSecond_of_full holds live full, hu]
    have session : u.table.slots[k].session = some { x with postCounter := 0 } := by rw [hu, State.setSlot_slot]
    have handle : u.handleAt k = s.handleAt k := by
      rw [hu]
      unfold State.handleAt
      rw [State.setSlot_slot]
      rfl
    have queue : u.bus.queue = s.bus.queue := by rw [hu]; rfl
    obtain ⟨joins, refused, rewritten⟩ := offerCharge_findings session
    rw [handle, queue] at joins refused rewritten
    rw [posted]
    refine ⟨fun none room => congrArg _ (joins none room), fun none full => congrArg _ (refused none full),
      fun before after e c o split others payload named => congrArg _ (rewritten before after e c o split others payload named)⟩
  · change execBandFlip s = _
    unfold execBandFlip
    rw [awake_of_running running, if_pos ⟨runs, last⟩]
    simp [Meter.countDown, runs, last, peak]
  · change execBandFlip s = _
    unfold execBandFlip
    rw [awake_of_running running, if_pos ⟨runs, last⟩]
    simp [Meter.countDown, runs, last, offPeak]

end Sys2Proof.Machine
end

section
/-! Metering and tariffs: what a tick does (R94, R102, R103, R106). -/

namespace Sys2Proof.Machine

/-! ### What the sessions' charges and posts may change -/

/-- The state as a charge or a post leaves it: slots, overflow count, queue and fault log changed at most, and lines only where
they ring. -/
structure State.Metered (s u : State) : Prop where
  rest : u = { s with lines := u.lines, table := { s.table with slots := u.table.slots },
                      meter := { s.meter with overflow := u.meter.overflow }, bus := { s.bus with queue := u.bus.queue },
                      faults := u.faults }
  stationTime : u.faults.stationTime = s.faults.stationTime
  lines : ∀ l : Fin 8, s.lines[l].state ≠ .ringing → u.lines[l] = s.lines[l]

namespace State.Metered
variable {s u v : State}

theorem refl (s : State) : s.Metered s := ⟨rfl, rfl, fun _ _ => rfl⟩

theorem trans (h : s.Metered u) (g : u.Metered v) : s.Metered v := by
  refine ⟨?_, g.stationTime.trans h.stationTime, fun l quiet => ?_⟩
  · have first := h.rest
    have second := g.rest
    generalize hu : u.lines = lines at *
    rw [second, first]
  · have same := h.lines l quiet
    rw [g.lines l (by rw [same]; exact quiet), same]

theorem tariff (h : s.Metered u) : u.meter.tariff = s.meter.tariff := by
  rw [h.rest]
  rfl

theorem setSlot (k : Fin 12) (y : Slot) : s.Metered (s.setSlot k y) := ⟨rfl, rfl, fun _ _ => rfl⟩

theorem setQueue (q : List Entry) : s.Metered (s.setQueue q) := ⟨rfl, rfl, fun _ _ => rfl⟩

theorem addOverflow (n : Nat) : s.Metered (addOverflow n s) := ⟨rfl, rfl, fun _ _ => rfl⟩

end State.Metered

theorem FaultLog.take_stationTime (f : FaultLog) (e : FaultEvent) : (f.take e).stationTime = f.stationTime := by
  unfold FaultLog.take
  split
  · rfl
  · have counted (g : FaultLog) : (g.countEvent e.kind).stationTime = g.stationTime := by
      unfold FaultLog.countEvent
      split_ifs <;> rfl
    rw [counted]
    cases e.kind.severity <;> rfl

theorem settlePermission_faults (s : State) : (settlePermission s).faults = s.faults := by
  rcases settlePermission_cases s with ⟨_, h⟩ | ⟨_, h⟩ <;> rw [h]

theorem logWith_stationTime (n : Nat) (e : FaultEvent) (s : State) : (logWith n e s).faults.stationTime = s.faults.stationTime := by
  induction n generalizing e s with
  | zero => rfl
  | succ n ih =>
    have settled : (settlePermission { s with faults := s.faults.take e }).faults.stationTime = s.faults.stationTime := by
      rw [settlePermission_faults]
      exact FaultLog.take_stationTime _ _
    unfold logWith
    simp only
    split
    · split
      · exact settled
      · exact (ih _ _).trans settled
    · exact settled

theorem State.Metered.logFault (kind : FaultKind) (x : Subject) (s : State) : s.Metered (logFault kind x s) := by
  refine ⟨?_, logWith_stationTime _ _ s, fun l quiet => logWith_line _ _ quiet⟩
  obtain ⟨table, meter, home, store, supply, station, freeDraws, pending, lastSender, idle, awaitsIdle, deferral, census, handed⟩ :=
    logFault_keeps kind x s
  generalize Machine.logFault kind x s = t at *
  obtain ⟨_, _, _, _, _, ⟨_, _, _, _, _, _, _⟩, _, _, _, _, _⟩ := t
  simp only at *
  subst table meter home store supply station freeDraws pending lastSender idle awaitsIdle deferral census handed
  rfl

theorem State.Metered.noteSaturation (k : Fin 12) (s : State) : s.Metered (noteSaturation k s) := by
  unfold Machine.noteSaturation
  split
  · exact .refl s
  · split
    · exact .refl s
    · exact (State.Metered.setSlot k _).trans (.logFault _ _ _)

theorem State.Metered.chargeSecond (k : Fin 12) (s : State) : s.Metered (chargeSecond k s) := by
  unfold Machine.chargeSecond
  split
  · exact .refl s
  · split
    · simp only
      split
      · exact .setSlot k _
      · exact ((State.Metered.setSlot k _).trans (.addOverflow _)).trans (.noteSaturation k _)
    · exact .refl s

theorem State.Metered.offerCharge (k : Fin 12) (s : State) : s.Metered (offerCharge k s) := by
  unfold Machine.offerCharge
  split
  · exact .refl s
  · split
    · exact .setQueue _
    · exact .refl s
    · split
      · exact .setQueue _
      · exact .refl s

theorem State.Metered.postSecond (k : Fin 12) (s : State) : s.Metered (postSecond k s) := by
  unfold Machine.postSecond
  split
  · exact .refl s
  · split
    · split
      · exact .setSlot k _
      · exact (State.Metered.setSlot k _).trans (.offerCharge k _)
    · exact .refl s

/-! ### One slot after another -/

/-- A slot as a change of its session alone leaves it. -/
def Slot.SessionChanged (P : Session → Session → Prop) (a b : Slot) : Prop :=
  b = { a with session := b.session } ∧ (a.session = none → b.session = none) ∧
    ∀ x, a.session = some x → ∃ y, b.session = some y ∧ P x y

theorem Slot.SessionChanged.of_none {P : Session → Session → Prop} {a : Slot} (h : a.session = none) : a.SessionChanged P a :=
  ⟨rfl, id, fun x hx => absurd (h.symm.trans hx) nofun⟩

theorem Slot.SessionChanged.of_some {P : Session → Session → Prop} {a b : Slot} {x y : Session} (h : a.session = some x)
    (hb : b = { a with session := some y }) (p : P x y) : a.SessionChanged P b := by
  subst hb
  exact ⟨rfl, fun none => absurd (h.symm.trans none) nofun, fun z hz => ⟨y, rfl, by cases h.symm.trans hz; exact p⟩⟩

/-- What each slot in turn is changed to, when each step changes its own slot alone, by what no step changes. -/
theorem foldl_slots {f : Fin 12 → State → State} {P : Meter → Session → Session → Prop}
    (metered : ∀ (k : Fin 12) (s : State), s.Metered (f k s)) (others : ∀ (k j : Fin 12) (s : State), j ≠ k → (f k s).table.slots[j] = s.table.slots[j])
    (own : ∀ (k : Fin 12) (s : State), s.table.slots[k].SessionChanged (P s.meter) (f k s).table.slots[k])
    (rates : ∀ s u : State, s.Metered u → P u.meter = P s.meter) (ks : List (Fin 12)) (distinct : ks.Nodup) (s : State) :
    s.Metered (ks.foldl (fun u k => f k u) s) ∧
    (∀ k ∈ ks, s.table.slots[k].SessionChanged (P s.meter) (ks.foldl (fun u k => f k u) s).table.slots[k]) ∧
    (∀ k, k ∉ ks → (ks.foldl (fun u k => f k u) s).table.slots[k] = s.table.slots[k]) := by
  induction ks generalizing s with
  | nil => exact ⟨.refl s, nofun, fun _ _ => rfl⟩
  | cons j ks ih =>
    obtain ⟨fresh, distinct⟩ := List.nodup_cons.1 distinct
    obtain ⟨rest, changed, kept⟩ := ih distinct (f j s)
    rw [List.foldl_cons]
    refine ⟨(metered j s).trans rest, fun k hk => ?_, fun k hk => ?_⟩
    · rcases List.mem_cons.1 hk with rfl | hk
      · rw [kept k fresh]
        exact own k s
      · have ne : k ≠ j := fun h => fresh (h ▸ hk)
        have := changed k hk
        rwa [others j k s ne, rates s _ (metered j s)] at this
    · obtain ⟨ne, hk⟩ := not_or.1 (fun h => hk (List.mem_cons.2 h))
      rw [kept k hk, others j k s ne]

/-! ### One second's charge (R102, R103) -/

/-- What a session has after one second's charge. -/
def Session.Charged (m : Meter) (x y : Session) : Prop :=
  y = { x with total := y.total, remainder := y.remainder, saturated := y.saturated } ∧
  (x.state.metered = true → ∀ n : Nat, n = x.remainder + (m.tariff x.speedClass (x.acctClass.getD 0)).rate →
    (x.total + n / 1000 ≤ 16777215 → y.total = x.total + n / 1000 ∧ y.remainder = n % 1000) ∧
    (16777215 < x.total + n / 1000 → y.total = 16777215 ∧ y.remainder = 0)) ∧
  (x.state.metered = false → y.total = x.total ∧ y.remainder = x.remainder)

/-- What a session has after one second's post. -/
def Session.Posted (x y : Session) : Prop :=
  y = { x with postCounter := y.postCounter } ∧
  (x.state.live = true → y.postCounter = if x.postCounter < 59 then x.postCounter + 1 else 0) ∧
  (x.state.live = false → y.postCounter = x.postCounter)

section
variable {k j : Fin 12} {x : Session} {s u : State} {n : Nat}

theorem chargeSecond_of_free (free : s.table.slots[k].session = none) : chargeSecond k s = s := by
  unfold chargeSecond
  rw [free]

theorem postSecond_of_free (free : s.table.slots[k].session = none) : postSecond k s = s := by
  unfold postSecond
  rw [free]

theorem chargeSecond_of_unmetered (holds : s.table.slots[k].session = some x) (unmetered : x.state.metered = false) :
    chargeSecond k s = s := by
  unfold chargeSecond
  rw [holds]
  simp only
  rw [unmetered]
  rfl

theorem chargeSecond_of_fits (holds : s.table.slots[k].session = some x) (metered : x.state.metered = true)
    (hn : n = x.remainder + (s.meter.tariff x.speedClass (x.acctClass.getD 0)).rate) (fits : x.total + n / 1000 ≤ 16777215) :
    chargeSecond k s = s.setSlot k
      { s.table.slots[k] with session := some { x with total := x.total + n / 1000, remainder := n % 1000 } } := by
  unfold chargeSecond
  rw [holds]
  simp only
  rw [if_pos metered, ← hn, if_pos fits, State.modSession_of_session _ holds]

theorem chargeSecond_of_saturates (holds : s.table.slots[k].session = some x) (metered : x.state.metered = true)
    (hn : n = x.remainder + (s.meter.tariff x.speedClass (x.acctClass.getD 0)).rate) (past : 16777215 < x.total + n / 1000)
    (hu : u = { s.setSlot k { s.table.slots[k] with session := some { x with total := 16777215, remainder := 0, saturated := true } } with
      meter := { s.meter with overflow := min 65535 (s.meter.overflow + (x.total + n / 1000 - 16777215)) } }) :
    chargeSecond k s = if x.saturated then u
      else logFault .meterSaturated { Subject.blank with handle := some (s.handleAt k), account := some x.account } u := by
  have marked (f : Session → Session) (hf : f x = { x with total := 16777215, remainder := 0, saturated := true }) :
      addOverflow (x.total + n / 1000 - 16777215) (s.modSession k f) = u := by
    rw [State.modSession_of_session _ holds, hf, hu]
    unfold addOverflow
    rw [holdAt_eq_min]
    rfl
  unfold chargeSecond
  rw [holds]
  simp only
  rw [if_pos metered, ← hn, if_neg (Nat.not_le.2 past),
    noteSaturation_addOverflow (f := fun y => { y with total := Config.maxCredits, remainder := 0 }) holds ⟨rfl, rfl⟩]
  cases saturated : x.saturated with
  | true =>
    rw [if_pos rfl, if_pos rfl]
    exact marked _ (by rw [← saturated])
  | false =>
    rw [if_neg nofun, if_neg nofun]
    exact congrArg _ (marked _ rfl)

theorem logFault_table (kind : FaultKind) (y : Subject) (s : State) : (logFault kind y s).table = s.table := by simp

theorem chargeSecond_table_of_saturates (holds : s.table.slots[k].session = some x) (metered : x.state.metered = true)
    (hn : n = x.remainder + (s.meter.tariff x.speedClass (x.acctClass.getD 0)).rate) (past : 16777215 < x.total + n / 1000) :
    (chargeSecond k s).table =
      (s.setSlot k { s.table.slots[k] with session := some { x with total := 16777215, remainder := 0, saturated := true } }).table := by
  rw [chargeSecond_of_saturates holds metered hn past rfl]
  split
  · rfl
  · rw [logFault_table]

theorem postSecond_of_notLive (holds : s.table.slots[k].session = some x) (notLive : x.state.live = false) : postSecond k s = s := by
  unfold postSecond
  rw [holds]
  simp only
  rw [notLive]
  rfl

theorem postSecond_of_counting (holds : s.table.slots[k].session = some x) (live : x.state.live = true) (below : x.postCounter < 59) :
    postSecond k s = s.setSlot k { s.table.slots[k] with session := some { x with postCounter := x.postCounter + 1 } } := by
  unfold postSecond
  rw [holds]
  simp only
  rw [if_pos live, if_pos below, State.modSession_of_session _ holds]

theorem postSecond_of_offering (holds : s.table.slots[k].session = some x) (live : x.state.live = true) (full : ¬ x.postCounter < 59) :
    postSecond k s = offerCharge k (s.setSlot k { s.table.slots[k] with session := some { x with postCounter := 0 } }) := by
  unfold postSecond
  rw [holds]
  simp only
  rw [if_pos live, if_neg full, State.modSession_of_session _ holds]

theorem offerCharge_table (k : Fin 12) (s : State) : (offerCharge k s).table = s.table := by
  unfold offerCharge
  repeat' split
  all_goals rfl

theorem chargeSecond_own (k : Fin 12) (s : State) :
    s.table.slots[k].SessionChanged (Session.Charged s.meter) (chargeSecond k s).table.slots[k] := by
  cases holds : s.table.slots[k].session with
  | none => rw [chargeSecond_of_free holds]; exact .of_none holds
  | some x =>
    cases metered : x.state.metered with
    | false =>
      rw [chargeSecond_of_unmetered holds metered]
      refine .of_some holds (by rw [← holds]) ⟨rfl, fun h => ?_, fun _ => ⟨rfl, rfl⟩⟩
      exact absurd (metered.symm.trans h) nofun
    | true =>
      have unmet (h : x.state.metered = false) : False := absurd (metered.symm.trans h) nofun
      rcases Nat.lt_or_ge 16777215 (x.total + (x.remainder + (s.meter.tariff x.speedClass (x.acctClass.getD 0)).rate) / 1000) with past | fits
      · have slot : (chargeSecond k s).table.slots[k] = { s.table.slots[k] with
            session := some { x with total := 16777215, remainder := 0, saturated := true } } := by
          rw [chargeSecond_table_of_saturates holds metered rfl past]
          exact State.setSlot_slot k s _
        refine .of_some holds slot ⟨rfl, fun _ n hn => ⟨fun fits => ?_, fun _ => ⟨rfl, rfl⟩⟩, fun h => (unmet h).elim⟩
        subst hn
        omega
      · rw [chargeSecond_of_fits holds metered rfl fits]
        refine .of_some holds (State.setSlot_slot ..) ⟨rfl, fun _ n hn => ⟨fun _ => ?_, fun past => ?_⟩, fun h => (unmet h).elim⟩
        · subst hn; exact ⟨rfl, rfl⟩
        · subst hn; omega

theorem chargeSecond_other (k j : Fin 12) (s : State) (ne : j ≠ k) : (chargeSecond k s).table.slots[j] = s.table.slots[j] := by
  cases holds : s.table.slots[k].session with
  | none => rw [chargeSecond_of_free holds]
  | some x =>
    cases metered : x.state.metered with
    | false => rw [chargeSecond_of_unmetered holds metered]
    | true =>
      rcases Nat.lt_or_ge 16777215 (x.total + (x.remainder + (s.meter.tariff x.speedClass (x.acctClass.getD 0)).rate) / 1000) with past | fits
      · rw [chargeSecond_table_of_saturates holds metered rfl past]
        exact State.setSlot_slot_ne _ ne
      · rw [chargeSecond_of_fits holds metered rfl fits, State.setSlot_slot_ne _ ne]

theorem postSecond_own (k : Fin 12) (s : State) :
    s.table.slots[k].SessionChanged Session.Posted (postSecond k s).table.slots[k] := by
  cases holds : s.table.slots[k].session with
  | none => rw [postSecond_of_free holds]; exact .of_none holds
  | some x =>
    cases live : x.state.live with
    | false =>
      rw [postSecond_of_notLive holds live]
      exact .of_some holds (by rw [← holds]) ⟨rfl, fun h => absurd (live.symm.trans h) nofun, fun _ => rfl⟩
    | true =>
      by_cases below : x.postCounter < 59
      · rw [postSecond_of_counting holds live below]
        exact .of_some holds (State.setSlot_slot ..) ⟨rfl, fun _ => (if_pos below).symm, fun h => absurd (live.symm.trans h) nofun⟩
      · rw [postSecond_of_offering holds live below, offerCharge_table]
        exact .of_some holds (State.setSlot_slot ..) ⟨rfl, fun _ => (if_neg below).symm, fun h => absurd (live.symm.trans h) nofun⟩

theorem postSecond_other (k j : Fin 12) (s : State) (ne : j ≠ k) : (postSecond k s).table.slots[j] = s.table.slots[j] := by
  cases holds : s.table.slots[k].session with
  | none => rw [postSecond_of_free holds]
  | some x =>
    cases live : x.state.live with
    | false => rw [postSecond_of_notLive holds live]
    | true =>
      by_cases below : x.postCounter < 59
      · rw [postSecond_of_counting holds live below, State.setSlot_slot_ne _ ne]
      · rw [postSecond_of_offering holds live below, offerCharge_table, State.setSlot_slot_ne _ ne]

end

/-! ### The tick -/

/-- The sessions' charges and then their posts, in slot order (R94, R102, R106). -/
def State.chargedAndPosted (s : State) : State :=
  (List.finRange 12).foldl (fun u k => postSecond k u) ((List.finRange 12).foldl (fun u k => chargeSecond k u) s)

/-- What a session has after a tick's charge and post. -/
def Session.Ticked (m : Meter) (x y : Session) : Prop := ∃ z, Session.Charged m x z ∧ Session.Posted z y

theorem State.chargedAndPosted_leaves (s : State) :
    s.Metered s.chargedAndPosted ∧
    ∀ k : Fin 12, s.table.slots[k].SessionChanged (Session.Ticked s.meter) s.chargedAndPosted.table.slots[k] := by
  have charged := foldl_slots (f := chargeSecond) (P := Session.Charged) State.Metered.chargeSecond chargeSecond_other chargeSecond_own
    (fun s u h => by unfold Session.Charged; rw [h.tariff]) (List.finRange 12) (List.nodup_finRange 12) s
  have posted := foldl_slots (f := postSecond) (P := fun _ => Session.Posted) State.Metered.postSecond postSecond_other postSecond_own
    (fun _ _ _ => rfl) (List.finRange 12) (List.nodup_finRange 12) ((List.finRange 12).foldl (fun u k => chargeSecond k u) s)
  unfold State.chargedAndPosted
  generalize (List.finRange 12).foldl (fun u k => chargeSecond k u) s = u at *
  generalize (List.finRange 12).foldl (fun u k => postSecond k u) u = v at *
  refine ⟨charged.1.trans posted.1, fun k => ?_⟩
  obtain ⟨same, none, some⟩ := charged.2.1 k (List.mem_finRange k)
  obtain ⟨same', none', some'⟩ := posted.2.1 k (List.mem_finRange k)
  refine ⟨?_, fun h => none' (none h), fun x hx => ?_⟩
  · rw [same] at same'
    exact same'
  · obtain ⟨z, hz, p⟩ := some x hx
    obtain ⟨y, hy, q⟩ := some' z hz
    exact ⟨y, hy, z, p, q⟩

theorem Meter.countDown_eq (m : Meter) : m.countDown = { m with band := m.countDown.band, remaining := m.countDown.remaining } := by
  unfold Meter.countDown
  split_ifs
  · rfl
  · rfl
  · cases m.band <;> rfl

/-- The whole-second timers and the band at a tick, beside what the charges and posts left (R2, R96). -/
theorem timersTick_rest {s t : State} {lines : Vector Line 8} {slots : Vector Slot 12} {overflow : Nat} {queue : List Entry} {faults : FaultLog}
    (ht : t = timersTick { s with
      lines := lines, table := { s.table with slots := slots },
      meter := Meter.countDown { s.meter with overflow := overflow }, bus := { s.bus with queue := queue }, faults := faults }) :
    t = { s with lines := t.lines, table := { s.table with slots := t.table.slots,
                                                           heartbeat := s.table.heartbeat.map (fun n => n - 1) },
                 meter := { s.meter with band := t.meter.band, remaining := t.meter.remaining, overflow := t.meter.overflow },
                 home := { s.home with list := s.home.list.map (fun e => { e with silence := e.silence - 1 }) },
                 store := { s.store with holdTimer := s.store.holdTimer.map (fun n => n - 1) },
                 bus := { s.bus with queue := t.bus.queue,
                                     census := s.bus.census.map (fun x => x.map (fun e => { e with age := e.age - 1 })) },
                 faults := t.faults } := by
  have counted := Meter.countDown_eq { s.meter with overflow := overflow }
  generalize Meter.countDown { s.meter with overflow := overflow } = c at *
  subst ht
  rw [counted]
  rfl

/-- What a tick leaves, from what the charges and posts left (R2, R94, R96). -/
theorem execTick_leaves {s t v : State} (hv : v = s.chargedAndPosted) (ht : t = timersTick { v with meter := v.meter.countDown }) :
    t.bus.queue = v.bus.queue ∧ t.meter.overflow = v.meter.overflow ∧
    t.faults = { v.faults with stationTime := t.faults.stationTime } ∧
    (∀ k : Fin 12, t.table.slots[k].session = v.table.slots[k].session.map (fun x => { x with grace := x.grace.map (fun n => n - 1) })) ∧
    t = { s with lines := t.lines, table := { s.table with slots := t.table.slots,
                                                           heartbeat := s.table.heartbeat.map (fun n => n - 1) },
                 meter := { s.meter with band := t.meter.band, remaining := t.meter.remaining, overflow := t.meter.overflow },
                 home := { s.home with list := s.home.list.map (fun e => { e with silence := e.silence - 1 }) },
                 store := { s.store with holdTimer := s.store.holdTimer.map (fun n => n - 1) },
                 bus := { s.bus with queue := t.bus.queue,
                                     census := s.bus.census.map (fun x => x.map (fun e => { e with age := e.age - 1 })) },
                 faults := t.faults } ∧
    t.faults.stationTime = min 16777215 (s.faults.stationTime + 1) ∧
    (∀ l : Fin 8, s.lines[l].state ≠ .ringing →
      t.lines[l] = { s.lines[l] with
        timer := s.lines[l].timer.map (fun n => n - 1),
        dialogue := s.lines[l].dialogue.map (fun d =>
          if d.step = .claimed then d else { d with timer := d.timer.map (fun n => n - 1) }) }) := by
  obtain ⟨metered, -⟩ := s.chargedAndPosted_leaves
  rw [← hv] at metered
  have overflow : v.meter.countDown.overflow = v.meter.overflow := by rw [v.meter.countDown_eq]
  have session (k : Fin 12) : t.table.slots[k].session =
      v.table.slots[k].session.map (fun x => { x with grace := x.grace.map (fun n => n - 1) }) := by
    rw [ht]
    simp [timersTick, Slot.second, down]
  refine ⟨by rw [ht]; rfl, by rw [ht]; exact overflow, by rw [ht]; rfl, session, ?_, ?_, fun l quiet => ?_⟩
  · rw [metered.rest] at ht
    exact timersTick_rest ht
  · rw [ht, ← metered.stationTime]
    exact Nat.min_comm _ _
  · have line := metered.lines l quiet
    rw [← line, ht]
    simp only [timersTick, Fin.getElem_fin, Vector.getElem_map]
    rfl

/-- What a tick leaves of a slot and its session (R45, R79, R102, R103, R106). -/
theorem timersTick_slot {s t v : State} (hv : v = s.chargedAndPosted) (ht : t = timersTick { v with meter := v.meter.countDown })
    (k : Fin 12) :
    (t.table.slots[k] = { s.table.slots[k] with
        claimTimer := s.table.slots[k].claimTimer.map (fun n => n - 1), session := t.table.slots[k].session } ∧
      (s.table.slots[k].session = none → t.table.slots[k].session = none)) ∧
    ∀ x : Session, s.table.slots[k].session = some x → ∃ y z : Session,
      t.table.slots[k].session = some { y with grace := y.grace.map (fun n => n - 1) } ∧
      Session.Charged s.meter x z ∧ Session.Posted z y := by
  obtain ⟨same, none, some⟩ := s.chargedAndPosted_leaves.2 k
  rw [← hv] at same none some
  have slot : t.table.slots[k] = v.table.slots[k].second := by
    rw [ht]
    simp [timersTick]
  refine ⟨⟨?_, fun free => ?_⟩, fun x hx => ?_⟩
  · rw [slot, same]
    rfl
  · rw [slot]
    unfold Slot.second
    rw [none free]
    rfl
  · obtain ⟨y, hy, z, charged, posted⟩ := some x hx
    refine ⟨y, z, ?_, charged, posted⟩
    rw [slot]
    unfold Slot.second
    rw [hy]
    rfl

/-- The band timer at a tick (R96). -/
theorem Meter.countDown_band (m : Meter) :
    (m.countDown.band, m.countDown.remaining) =
      if m.running = false then (m.band, m.remaining)
      else if 1 < m.remaining then (m.band, m.remaining - 1)
      else match m.band with
        | .peak => (.offPeak, m.offPeakLength.getD 1)
        | .offPeak => (.peak, m.peakLength.getD 1) := by
  unfold Meter.countDown
  cases m.running
  · rfl
  · by_cases more : 1 < m.remaining
    · simp [more]
    · cases m.band <;> simp [more]

theorem Session.ticked_fields {m : Meter} {x y z : Session} (charged : Session.Charged m x z) (posted : Session.Posted z y) :
    y = { x with total := y.total, remainder := y.remainder, postCounter := y.postCounter, saturated := y.saturated } ∧
    y.total = z.total ∧ y.remainder = z.remainder ∧ z.state = x.state ∧ z.postCounter = x.postCounter := by
  obtain ⟨hz, -⟩ := charged
  obtain ⟨hy, -⟩ := posted
  generalize z.total = a, z.remainder = b, z.saturated = c at hz
  subst hz
  generalize y.postCounter = d at hy
  subst hy
  exact ⟨rfl, rfl, rfl, rfl, rfl⟩

/-- What a tick leaves of a session that a slot holds. -/
theorem Session.ticked {m : Meter} {x y z : Session} (charged : Session.Charged m x z) (posted : Session.Posted z y) :
    (x.state = .active ∨ x.state = .cutoffGrace →
      ∀ n : Nat, n = x.remainder + (m.tariff x.speedClass (x.acctClass.getD 0)).rate →
        (x.total + n / 1000 ≤ 16777215 → y.total = x.total + n / 1000 ∧ y.remainder = n % 1000) ∧
        (16777215 < x.total + n / 1000 → y.total = 16777215 ∧ y.remainder = 0)) ∧
    (x.state = .claiming ∨ x.state = .detached ∨ x.state = .ending → y.total = x.total ∧ y.remainder = x.remainder) ∧
    (x.state = .active ∨ x.state = .cutoffGrace ∨ x.state = .detached →
      y.postCounter = if x.postCounter < 59 then x.postCounter + 1 else 0) ∧
    (x.state = .claiming ∨ x.state = .ending → y.postCounter = x.postCounter) := by
  obtain ⟨-, total, remainder, state, counter⟩ := Session.ticked_fields charged posted
  obtain ⟨-, metered, unmetered⟩ := charged
  obtain ⟨-, live, notLive⟩ := posted
  rw [total, remainder, ← counter]
  rw [state] at live notLive
  refine ⟨fun h => metered ((SessionState.metered_iff _).2 h), fun h => unmetered ?_, fun h => live ((SessionState.live_iff _).2 h),
    fun h => notLive ?_⟩
  · rcases h with h | h | h <;> rw [h] <;> rfl
  · rcases h with h | h <;> rw [h] <;> rfl

theorem exec_tick {s : State} (running : s.inReset = false) (serving : s.inService = true) :
    exec .tick s = .next (timersTick { s.chargedAndPosted with meter := s.chargedAndPosted.meter.countDown }) := by
  change execTick s = _
  unfold execTick meterTick
  rw [awake_of_running running, if_pos serving]
  rfl

/-- Settles O23: the charges and posts slot by slot, then the timers of every block. -/
theorem tickChargesAndCounts : Obligations.TickChargesAndCounts := by
  refine ⟨fun s running serving => ?_, fun k s free => ⟨chargeSecond_of_free free, postSecond_of_free free⟩, fun k x s holds => ?_⟩
  · obtain ⟨v, hv⟩ : ∃ v, v = s.chargedAndPosted := ⟨_, rfl⟩
    obtain ⟨t, ht⟩ : ∃ t, t = timersTick { v with meter := v.meter.countDown } := ⟨_, rfl⟩
    obtain ⟨queue, overflow, faults, session, rest, stationTime, lines⟩ := execTick_leaves hv ht
    have slots := timersTick_slot hv ht
    refine ⟨t, v, by rw [exec_tick running serving, ht, hv], hv, queue, overflow, faults, session, rest, stationTime, lines,
      fun k => (slots k).1, fun k x hx => ?_, ?_⟩
    · obtain ⟨y, z, after, charged, posted⟩ := (slots k).2 x hx
      obtain ⟨fields, -⟩ := Session.ticked_fields charged posted
      refine ⟨_, after, ?_, Session.ticked (y := y) charged posted⟩
      rw [fields]
    · have band : t.meter = v.meter.countDown := by rw [ht]; rfl
      have same : v.meter = { s.meter with overflow := v.meter.overflow } := by
        have := congrArg State.meter (hv ▸ s.chargedAndPosted_leaves.1).rest
        exact this
      rw [band, Meter.countDown_band, same] <;> rfl
  · refine ⟨fun unmetered => chargeSecond_of_unmetered holds ?_, fun state n hn => ⟨fun fits => ?_, fun past u hu => ?_⟩,
      fun notLive => postSecond_of_notLive holds ?_, fun state => ⟨fun below => ?_, fun full running => ?_⟩⟩
    · rcases unmetered with h | h | h <;> rw [h] <;> rfl
    · exact chargeSecond_of_fits holds ((SessionState.metered_iff _).2 state) hn fits
    · have charged := chargeSecond_of_saturates holds ((SessionState.metered_iff _).2 state) hn past hu
      refine ⟨fun marked => ?_, fun unmarked => ?_⟩
      · rw [charged, if_pos marked]
      · rw [charged, if_neg (Bool.eq_false_iff.1 unmarked)]
    · rcases notLive with h | h <;> rw [h] <;> rfl
    · exact postSecond_of_counting holds ((SessionState.live_iff _).2 state) below
    · rw [exec_posting running holds, if_pos ⟨(SessionState.live_iff _).2 state, full⟩]

end Sys2Proof.Machine
end

section
/-! Metering and tariffs: TIME and TARIFF LOAD (R97, R99). -/

namespace Sys2Proof.Machine

/-! ### TIME -/

section
variable {b : List Byte} {s : State}

theorem exec_time_of_takesNow (h : s.takesNow (.command .time b)) :
    exec (.time b) s = .next (setTime b (s.taking (.command .time b))) :=
  congrArg Host.Outcome.next (takeHanded_of_takesNow (setTime b) h)

theorem not_inService_of_ne (out : s.station.state ≠ .inService) : s.inService = false :=
  Bool.eq_false_iff.2 fun h => out ((s.inService_iff).1 h)

theorem setTime_of_notInService (out : s.station.state ≠ .inService) : setTime b s = offerResult .time .refusedState [] s := by
  unfold setTime
  rw [not_inService_of_ne out]
  rfl

theorem setTime_of_serving (serving : s.station.state = .inService) :
    setTime b s = match timeOf b with
      | none => offerResult .time .badField [] s
      | some (band, seconds) => offerResult .time .done (bytesOf 1 band.code ++ bytesOf 3 (clampSeconds seconds))
          { s with meter := { s.meter with band := band, remaining := clampSeconds seconds } } := by
  unfold setTime
  rw [(s.inService_iff).2 serving] <;> rfl

theorem clampSeconds_eq (n : Nat) : clampSeconds n = max 1 (min 86400 n) := by
  unfold clampSeconds clampTo
  rfl

theorem Band.code_lt (band : Band) : band.code < 2 := by cases band <;> decide

theorem timeOf_bytes {band : Band} {n : Nat} (fits : n < 16777216) : timeOf (bytesOf 1 band.code ++ bytesOf 3 n) = some (band, n) := by
  have code : fieldOf (bytesOf 1 band.code ++ bytesOf 3 n) 0 1 = band.code := by
    rw [fieldOf_bytesOf_append]
    exact Nat.mod_eq_of_lt (by have := band.code_lt; omega)
  have seconds : fieldOf (bytesOf 1 band.code ++ bytesOf 3 n) 1 3 = n := by
    rw [fieldOf_bytesOf_append_of_le (Nat.le_refl _), fieldOf_bytesOf]
    exact Nat.mod_eq_of_lt (by omega)
  unfold timeOf
  rw [if_pos (by simp), code, seconds]
  cases band <;> rfl

theorem timeOf_eq_none (bad : b.length ≠ 4 ∨ 1 < fieldOf b 0 1) : timeOf b = none := by
  unfold timeOf
  split
  · next four =>
    have high := bad.resolve_left fun h => h four
    rw [if_neg (by omega), if_neg (by omega)]
  · rfl

end

/-! ### TARIFF LOAD -/

section
variable {b : List Byte} {s : State}

theorem exec_tariffLoad_of_takesNow (h : s.takesNow (.command .tariffLoad b)) :
    exec (.tariffLoad b) s = .next (loadTariffs b (s.taking (.command .tariffLoad b))) :=
  congrArg Host.Outcome.next (takeHanded_of_takesNow (loadTariffs b) h)

theorem loadTariffs_eq (s : State) :
    loadTariffs b s = match tariffLoadOf b with
      | none => offerResult .tariffLoad .badField [] s
      | some entries => offerResult .tariffLoad .done
          (bytesOf 1 (entries.countP tariffFits) ++ bytesOf 1 (entries.countP (fun e => !tariffFits e)))
          { s with meter := entries.foldl Meter.load s.meter } := by
  unfold loadTariffs
  rfl

theorem tariffLoadOf_eq_none (bad : b = [] ∨ 8 < fieldOf b 0 1 ∨ b.length ≠ 1 + 4 * fieldOf b 0 1) : tariffLoadOf b = none := by
  refine if_neg fun ⟨given, few, whole⟩ => ?_
  rcases bad with h | h | h
  · exact given h
  · omega
  · exact h whole

end

/-- The bytes of one entry of a TARIFF LOAD (R99). -/
def tariffBytes (e : Nat × Nat × Nat) : List Byte := bytesOf 1 e.1 ++ bytesOf 2 e.2.1 ++ bytesOf 1 e.2.2

theorem tariffEntries_flatMap (entries : List (Nat × Nat × Nat)) (fits : ∀ e ∈ entries, e.1 < 256 ∧ e.2.1 < 65536 ∧ e.2.2 < 256) :
    tariffEntries entries.length (entries.flatMap tariffBytes) = entries := by
  induction entries with
  | nil => rfl
  | cons e entries ih =>
    obtain ⟨index, rate, surcharge⟩ := fits e List.mem_cons_self
    have rest := ih fun x hx => fits x (List.mem_cons_of_mem _ hx)
    rw [List.length_cons, List.flatMap_cons, tariffEntries]
    refine congrArg₂ List.cons (Prod.ext ?_ (Prod.ext ?_ ?_)) ?_
    · show fieldOf (tariffBytes e ++ entries.flatMap tariffBytes) 0 1 = _
      unfold tariffBytes
      rw [List.append_assoc, List.append_assoc, fieldOf_bytesOf_append]
      omega
    · show fieldOf (tariffBytes e ++ entries.flatMap tariffBytes) 1 2 = _
      unfold tariffBytes
      rw [List.append_assoc, List.append_assoc, fieldOf_bytesOf_append_of_le (by omega), fieldOf_bytesOf_append]
      omega
    · show fieldOf (tariffBytes e ++ entries.flatMap tariffBytes) 3 1 = _
      unfold tariffBytes
      rw [List.append_assoc, List.append_assoc, fieldOf_bytesOf_append_of_le (by omega), fieldOf_bytesOf_append_of_le (by omega),
        fieldOf_bytesOf_append]
      omega
    · rw [List.drop_left' (by simp [tariffBytes]), rest]

theorem tariffLoadOf_bytes {entries : List (Nat × Nat × Nat)} (few : entries.length ≤ 8)
    (fits : ∀ e ∈ entries, e.1 < 256 ∧ e.2.1 < 65536 ∧ e.2.2 < 256) :
    tariffLoadOf (bytesOf 1 entries.length ++ entries.flatMap tariffBytes) = some entries := by
  have count : fieldOf (bytesOf 1 entries.length ++ entries.flatMap tariffBytes) 0 1 = entries.length := by
    rw [fieldOf_bytesOf_append]
    omega
  have length : (entries.flatMap tariffBytes).length = 4 * entries.length := by
    rw [List.length_flatMap]
    simp [tariffBytes, Nat.mul_comm]
  unfold tariffLoadOf
  rw [count, if_pos ⟨by simp [bytesOf], few, by simp [length]⟩, List.drop_left' (by simp), tariffEntries_flatMap entries fits]

theorem tariffFits_iff (e : Nat × Nat × Nat) : tariffFits e = true ↔ e.1 ≤ 63 ∧ e.2.1 ≤ 4095 := by simp [tariffFits]

theorem Meter.load_eq (m : Meter) (e : Nat × Nat × Nat) : m.load e = { m with tariffs := (m.load e).tariffs } := by
  unfold Meter.load
  split <;> rfl

theorem Meter.load_tariff (m : Meter) (e : Nat × Nat × Nat) (i : Fin 64) :
    (m.load e).tariffs[i] = if e.1 = i.val ∧ e.2.1 ≤ 4095 then { rate := e.2.1, surcharge := e.2.2 } else m.tariffs[i] := by
  unfold Meter.load
  by_cases fits : tariffFits e = true
  · have low := ((tariffFits_iff e).1 fits).2
    rw [if_pos fits]
    simp [Vector.getElem_setIfInBounds, low]
  · rw [if_neg fits, if_neg fun ⟨index, low⟩ => fits ((tariffFits_iff e).2 ⟨by omega, low⟩)]

/-- The table after every entry: the later of two at one index stands (R99). -/
theorem foldl_load (entries : List (Nat × Nat × Nat)) (m : Meter) :
    entries.foldl Meter.load m = { m with tariffs := (entries.foldl Meter.load m).tariffs } ∧
    ∀ i : Fin 64, (entries.foldl Meter.load m).tariffs[i] =
      (match (entries.filter (fun e => decide (e.1 = i.val ∧ e.2.1 ≤ 4095))).getLast? with
       | some e => { rate := e.2.1, surcharge := e.2.2 }
       | none => m.tariffs[i]) := by
  induction entries using List.reverseRecOn with
  | nil => exact ⟨rfl, fun i => rfl⟩
  | append_singleton entries e ih =>
    obtain ⟨rest, tariffs⟩ := ih
    rw [List.foldl_append, List.foldl_cons, List.foldl_nil]
    refine ⟨?_, fun i => ?_⟩
    · rw [Meter.load_eq, rest]
    · rw [Meter.load_tariff, tariffs, List.filter_append, List.filter_singleton]
      by_cases here : e.1 = i.val ∧ e.2.1 ≤ 4095
      · simp [here]
      · simp [here]

/-- Settles O25: the body read by its layout, and the table by its entries in turn. -/
theorem timeAndTariffLoad : Obligations.TimeAndTariffLoad := by
  intro b s
  constructor
  · rintro takes u rfl
    rw [exec_time_of_takesNow takes]
    refine ⟨fun out => ?_, fun band n serving fits hb => ?_, fun serving bad => ?_⟩
    · rw [setTime_of_notInService (s := s.taking _) out]
    · rw [setTime_of_serving (s := s.taking _) serving, hb, timeOf_bytes fits]
      simp only
      rw [clampSeconds_eq]
      rfl
    · rw [setTime_of_serving (s := s.taking _) serving, timeOf_eq_none bad]
  · rintro takes u rfl
    rw [exec_tariffLoad_of_takesNow takes, loadTariffs_eq]
    refine ⟨fun bad => ?_, fun entries few fits hb => ?_⟩
    · rw [tariffLoadOf_eq_none bad]
    · obtain ⟨rest, tariffs⟩ := foldl_load entries s.meter
      rw [hb]
      refine ⟨entries.foldl Meter.load s.meter, ?_, rest, tariffs⟩
      rw [show (fun e : Nat × Nat × Nat => bytesOf 1 e.1 ++ bytesOf 2 e.2.1 ++ bytesOf 1 e.2.2) = tariffBytes from rfl,
        tariffLoadOf_bytes few fits]
      have taken : entries.countP (fun e => decide (e.1 ≤ 63 ∧ e.2.1 ≤ 4095)) = entries.countP tariffFits :=
        List.countP_congr fun e _ => by rw [tariffFits_iff]; simp
      have notTaken : entries.countP (fun e => decide (¬ (e.1 ≤ 63 ∧ e.2.1 ≤ 4095))) = entries.countP (fun e => !tariffFits e) :=
        List.countP_congr fun e _ => by rw [Bool.not_eq_true', ← Bool.not_eq_true, tariffFits_iff, decide_eq_true_iff]
      rw [taken, notTaken]
      rfl

end Sys2Proof.Machine
end

section
/-! The account home (chapters 4 and 7): orphans, CLAIMs and CHARGEs taken, up to their request for the store. -/

namespace Sys2Proof.Machine

/-! ### Orphans (R66, R69) -/

section
variable {s : State} {e : HomeEntry}

theorem State.setQueue_self (s : State) : s.setQueue s.bus.queue = s := rfl

/-- The rewrite of a successor's waiting GRANTs, entry by entry (R69, R171). -/
theorem rewriteGrant_eq (successor : Option Handle) (s : State) : rewriteGrant successor s = s.grantsMadeNew successor := by
  cases successor with
  | none =>
    unfold rewriteGrant State.grantsMadeNew
    refine (congrArg (State.setQueue · s) ((List.map_congr_left fun x _ => ?_).trans (List.map_id s.bus.queue))).symm
    cases x.payload <;> simp
  | some h =>
    unfold rewriteGrant State.grantsMadeNew State.rewriteWaiting
    refine congrArg (State.setQueue · s) (List.map_congr_left fun x _ => ?_)
    obtain ⟨a, p, flies, m⟩ := x
    cases p with
    | grant g =>
      by_cases handle : g.handle = h
      · cases flies <;> simp [Entry.grantsTo, Payload.madeNew, handle]
      · simp [Entry.grantsTo, handle, Ne.symm handle]
    | _ => simp [Entry.grantsTo]

theorem removeOrphan_eq (e : HomeEntry) (s : State) : removeOrphan e s = s.orphanGone e := by
  unfold removeOrphan State.orphanGone
  simp only [rewriteGrant_eq]
  rfl

theorem grantsMadeNew_some (h : Handle) (v : State) :
    v.grantsMadeNew (some h) = v.setQueue (v.bus.queue.map (fun x =>
      match x.payload with
      | .grant g => if g.handle = h ∧ x.inFlight = false then { x with payload := .grant { g with oldHandle := none } } else x
      | _ => x)) := by
  unfold State.grantsMadeNew
  refine congrArg (State.setQueue · v) (List.map_congr_left fun x _ => ?_)
  cases x.payload with
  | grant g => simp only [Option.some.injEq, eq_comm (a := h)]
  | _ => rfl

theorem orphanGone_of_moving (moving : e.state = .moving) : s.orphanGone e = (s.orphaned e).grantsMadeNew e.successor := if_pos moving

theorem orphanGone_of_notMoving (notMoving : e.state ≠ .moving) : s.orphanGone e = s.orphaned e := if_neg notMoving

theorem orphanGone_home (e : HomeEntry) (s : State) : (s.orphanGone e).home = s.home.without e.handle := by
  rw [← removeOrphan_eq, removeOrphan_home]

theorem orphanGone_store (e : HomeEntry) (s : State) : (s.orphanGone e).store = s.store := by
  unfold State.orphanGone State.orphaned State.grantsMadeNew
  split <;> simp

/-- The list and the detach order after several orphans, one after another. -/
theorem foldl_orphanGone (gone : List HomeEntry) (u : State) :
    (gone.foldl State.orphanGone u).store = u.store ∧
    (gone.foldl State.orphanGone u).home = { u.home with
      list := u.home.list.filter (fun x => decide (∀ e ∈ gone, x.handle ≠ e.handle)),
      detachOrder := u.home.detachOrder.filter (fun h => decide (∀ e ∈ gone, h ≠ e.handle)) } := by
  induction gone generalizing u with
  | nil => simp
  | cons e gone ih =>
    rw [List.foldl_cons]
    obtain ⟨store, home⟩ := ih (u.orphanGone e)
    refine ⟨store.trans (orphanGone_store e u), ?_⟩
    rw [home, orphanGone_home]
    unfold Home.without
    simp only [List.filter_filter, List.forall_mem_cons]
    congr 1 <;> (refine List.filter_congr fun x _ => ?_; simp [Bool.and_comm])

end

/-! ### CLAIM (R58) -/

theorem exec_claim_of_takesNow {c : ClaimBody} {s : State} (h : s.takesNow (.claim c)) :
    exec (.claim c) s = .next (takeClaim c (s.taking (.claim c))) :=
  congrArg Host.Outcome.next (takeHanded_of_takesNow (takeClaim c) h)

theorem Home.quarantined_iff (h : Home) (account : Nat) : h.quarantined account = true ↔ ∃ q ∈ h.quarantine, q.account = account := by
  simp [Home.quarantined]

theorem Home.quarantined_eq_false_iff (h : Home) (account : Nat) :
    h.quarantined account = false ↔ ∀ q ∈ h.quarantine, q.account ≠ account := by
  simp [Home.quarantined]

theorem takeClaim_of_range {c : ClaimBody} {u v : State} (range : u.home.inRange c.account = true)
    (hv : u.home.find c.handle = none ∧ v = u ∨ ∃ e : HomeEntry, u.home.find c.handle = some e ∧ v = u.orphanGone e) :
    takeClaim c u = if v.store.hold = .held then denyClaim c .homeBusy v
      else if v.home.quarantined c.account then denyClaim c .recordFault v
      else settleStore { v with home := { v.home with work := some (.claim c) } } := by
  unfold takeClaim
  rw [if_pos range]
  rcases hv with ⟨absent, rfl⟩ | ⟨e, found, rfl⟩
  · rw [absent]
    rfl
  · rw [found]
    simp only [removeOrphan_eq]
    rfl

/-- Settles O26, by what stands under the claim's handle, the hold and the quarantine list. -/
theorem claimTakenByTheHome : Obligations.ClaimTakenByTheHome := by
  rintro c s u v takes rfl
  rw [exec_claim_of_takesNow takes]
  refine ⟨fun out => ?_, fun range hv => ?_⟩
  · refine congrArg _ (if_neg (Bool.eq_false_iff.1 ?_))
    exact out
  · have kept : v.store = s.store ∧ v.home.quarantine = s.home.quarantine := by
      rcases hv with ⟨_, rfl⟩ | ⟨e, _, rfl⟩
      · exact ⟨rfl, rfl⟩
      · exact ⟨orphanGone_store .., by rw [orphanGone_home]; rfl⟩
    obtain ⟨store, quarantine⟩ := kept
    rw [takeClaim_of_range (u := s.taking _) range hv, store, ← quarantine]
    refine ⟨fun held => ?_, fun free listed => ?_, fun free unlisted => ?_⟩
    · rw [if_pos held]
      rfl
    · rw [if_neg free, if_pos ((Home.quarantined_iff ..).2 listed)]
      rfl
    · rw [if_neg free, if_neg (Bool.eq_false_iff.1 ((Home.quarantined_eq_false_iff ..).2 unlisted))]

/-! ### Restart TALLYs, silence timers and the end of a CLAIM (R66, R67) -/

theorem clearStation_eq (source : Nat) (u : State) :
    clearStation source u = (u.home.list.filter (fun e => decide (e.handle.station = source))).foldl State.orphanGone u := by
  unfold clearStation
  simp only [removeOrphan_eq]

theorem finishClaim_eq (s : State) :
    finishClaim s = (s.home.list.filter (fun e => e.expiryPutOff && decide (e.silence = 0))).foldl State.orphanGone { s with
      home := { s.home with work := none, list := s.home.list.map (fun e => { e with expiryPutOff := false }) } } := by
  unfold finishClaim
  simp only [removeOrphan_eq]
  rfl

/-- The handles of the entries that one property picks are those of no other entry, when the handles are distinct. -/
theorem filter_handles_of_pairwise {list : List HomeEntry} (distinct : list.Pairwise (fun x y => x.handle ≠ y.handle))
    (p : HomeEntry → Bool) : list.filter (fun x => decide (∀ e ∈ list.filter p, x.handle ≠ e.handle)) = list.filter (fun e => !p e) := by
  refine List.filter_congr fun x hx => ?_
  have only (e : HomeEntry) (he : e ∈ list) (same : x.handle = e.handle) : x = e := by
    by_contra ne
    have : Std.Symm (fun x y : HomeEntry => x.handle ≠ y.handle) := ⟨fun _ _ h => h.symm⟩
    exact distinct.forall hx he ne same
  rw [Bool.eq_iff_iff]
  simp only [decide_eq_true_iff, List.mem_filter, Bool.not_eq_true']
  constructor
  · intro h
    by_contra picked
    exact h x ⟨hx, by simpa using picked⟩ rfl
  · rintro not e ⟨he, picked⟩ same
    rw [only e he same] at not
    exact absurd (not.symm.trans picked) nofun

theorem exec_silenceTimerExpiry {h : Handle} {e : HomeEntry} {s : State} (running : s.inReset = false) (found : s.home.find h = some e) :
    exec (.silenceTimerExpiry h) s = .next (if e.silence = 0 then
      match s.home.work with
      | some (.claim _) => s.setHome (s.home.modEntry h (fun x => { x with expiryPutOff := true }))
      | _ => s.orphanGone e
      else s) := by
  change execSilenceTimerExpiry h s = _
  unfold execSilenceTimerExpiry
  rw [awake_of_running running, found, ← removeOrphan_eq] <;> rfl

theorem takeTally_restart {source : Nat} {t : TallyBody} {u : State} (restart : t.restart = true) :
    takeTally source t u = clearStation source (countTally source t u) := by
  unfold takeTally
  simp only
  rw [if_pos restart]

/-- Settles O29: each of the three is a fold of `orphanGone` over the entries that it picks. -/
theorem orphansLeaveTheList : Obligations.OrphansLeaveTheList := by
  refine ⟨fun source a t s u takes restart address hu => ?_, fun h e s running found => ⟨fun expired free => ?_,
    fun c expired claiming => ?_, fun unexpired => ?_⟩, fun s due hdue => ?_, fun e s v hv => ⟨fun state => ?_, fun moving h successor => ?_⟩⟩
  · have counted : countTally source t (s.taking (.tally source t)) = u := by
      rw [hu]
      subst address
      unfold countTally
      refine if_congr ⟨fun h => ⟨h.1, h.2.2⟩, fun h => ⟨h.1, by omega, h.2⟩⟩ ?_ rfl
      rw [holdAt_eq_min, setIfInBounds_eq_set]
      rfl
    have home : u.home = s.home := by rw [← counted, countTally_home]; rfl
    have store : u.store = s.store := by
      rw [hu]
      split <;> rfl
    obtain ⟨goneStore, goneHome⟩ := foldl_orphanGone (s.home.list.filter (fun e => decide (e.handle.station = source))) u
    refine ⟨_, ?_, rfl, ?_, ?_, goneStore.trans store, ?_, ?_⟩
    · rw [exec_tally_of_takesNow takes, takeTally_restart restart, counted, clearStation_eq, home]
    · rw [goneHome, home]
      refine List.filter_congr fun x hx => ?_
      simp only [List.mem_filter, decide_eq_true_iff, decide_eq_decide]
      constructor
      · exact fun none here => none x ⟨hx, here⟩ rfl
      · exact fun away e ⟨_, station⟩ same => away (by rw [same]; exact station)
    · rw [goneHome, home]
      simp only [List.filter_filter]
      refine List.filter_congr fun x hx => ?_
      by_cases away : x.station ≠ source
      · have kept : ∀ e ∈ s.home.list.filter (fun e => decide (e.handle.station = source)), x ≠ e.handle := by
          rintro e he rfl
          exact away (by simpa using (List.mem_filter.1 he).2)
        rw [decide_eq_true kept, Bool.and_true]
      · simp [away]
    · rw [goneHome, home]
    · rw [goneHome, home]
  · rw [exec_silenceTimerExpiry running found, if_pos expired]
    cases work : s.home.work with
    | none => rfl
    | some w =>
      cases w with
      | claim c => exact absurd work (free c)
      | charge => rfl
  · rw [exec_silenceTimerExpiry running found, if_pos expired, claiming]
    rfl
  · rw [exec_silenceTimerExpiry running found, if_neg unexpired]
  · have picks : due = fun e => e.expiryPutOff && decide (e.silence = 0) := by
      funext e
      rw [hdue]
      simp
    rw [finishClaim_eq, ← picks]
    refine ⟨rfl, fun distinct => ?_⟩
    rw [(foldl_orphanGone _ _).2]
    simp only [List.filter_map]
    refine congrArg _ ?_
    rw [← filter_handles_of_pairwise distinct due]
    rfl
  · rw [orphanGone_of_notMoving (by rcases state with h | h <;> rw [h] <;> exact nofun), hv]
    rfl
  · rw [orphanGone_of_moving moving, successor, grantsMadeNew_some, hv]
    rfl

end Sys2Proof.Machine
end

section
/-! The account home (chapters 4 and 7): a CHARGE taken, and the evaluation of a CLAIM in its access. -/

namespace Sys2Proof.Machine

/-! ### Settling an entry (R116) -/

theorem settleEntry_kept (h : Handle) (total : Nat) (v : State) :
    settleEntry h total false v = { v with home := { v.home with
      list := v.home.list.map (fun e => if e.handle = h then { e with applied := max e.applied total } else e) } } := rfl

theorem settleEntry_gone (h : Handle) (total : Nat) (v : State) :
    settleEntry h total true v = { v with home := { v.home with
      list := v.home.list.filter (fun e => decide (e.handle ≠ h)),
      detachOrder := v.home.detachOrder.filter (fun x => decide (x ≠ h)) } } := by
  have same : (v.home.list.map (fun e => if e.handle = h then { e with applied := max e.applied total } else e)).filter
      (fun e => decide (e.handle ≠ h)) = v.home.list.filter (fun e => decide (e.handle ≠ h)) := by
    induction v.home.list with
    | nil => rfl
    | cons e list ih =>
      rw [List.map_cons]
      by_cases here : e.handle = h
      · rw [if_pos here, List.filter_cons_of_neg (by simpa using here), List.filter_cons_of_neg (by simpa using here), ih]
      · rw [if_neg here, List.filter_cons_of_pos (by simpa using here), List.filter_cons_of_pos (by simpa using here), ih]
  unfold settleEntry Home.modEntry
  simp only [if_true, State.setHome_home, Home.without, same]
  rfl

/-! ### CHARGE (R114) -/

section
variable {c : ChargeBody} {u v : State} {e : HomeEntry}

theorem exec_charge_of_takesNow {s : State} (h : s.takesNow (.charge c)) :
    exec (.charge c) s = .next (takeCharge c (s.taking (.charge c))) :=
  congrArg Host.Outcome.next (takeHanded_of_takesNow (takeCharge c) h)

theorem Home.find_handle {g : Home} {h : Handle} (found : g.find h = some e) : e.handle = h := by
  simpa using List.find?_some found

theorem noteCharge_eq (e : HomeEntry) (final : Bool) (u : State) {heard : State}
    (hh : heard = { u with home := { u.home with list := u.home.list.map (fun x => if x.handle = e.handle then
      { x with silence := 180, expiryPutOff := false } else x) } }) :
    noteCharge e final u = if final = true ∧ e.state = .moving then heard.grantsMadeNew e.successor else heard := by
  subst hh
  unfold noteCharge
  simp only [rewriteGrant_eq]
  rfl

theorem takeCharge_of_found (mine : c.home = u.own) (range : u.home.inRange c.account = true) (found : u.home.find c.handle = some e)
    (hv : v = noteCharge e c.endCause.isSome u) :
    takeCharge c u = if v.store.hold = .held then v.setHome (v.home.backlogged c.handle e.account c.total c.endCause.isSome)
      else if v.needsStore e c.total then
        settleStore (v.setHome { v.home with work := some (.charge c.handle e.account c.total c.endCause.isSome false) })
      else applyAside e c.total c.endCause.isSome v := by
  unfold takeCharge
  rw [if_pos ⟨mine, range⟩, found, hv]

theorem Home.backlogged_new {g : Home} {h : Handle} {a t : Nat} {f : Bool} (absent : ∀ b ∈ g.backlog, b.handle ≠ h) :
    g.backlogged h a t f = { g with backlog := g.backlog ++ [{ handle := h, account := a, total := t, final := f }] } := by
  unfold Home.backlogged
  rw [if_neg (by simpa using absent)]

theorem Home.backlogged_again {g : Home} {h : Handle} {a t : Nat} {f : Bool} (present : ∃ b ∈ g.backlog, b.handle = h) :
    g.backlogged h a t f = { g with backlog := g.backlog.map (fun b =>
      if b.handle = h then { b with total := max b.total t, final := b.final || f } else b) } := by
  unfold Home.backlogged
  rw [if_pos (by simpa using present)]

theorem noteCharge_kept (e : HomeEntry) (final : Bool) (u : State) :
    (noteCharge e final u).store = u.store ∧ (noteCharge e final u).home.backlog = u.home.backlog ∧
    (noteCharge e final u).home.quarantine = u.home.quarantine := by
  unfold noteCharge
  simp only
  split
  · rw [rewriteGrant_eq]
    exact ⟨rfl, rfl, rfl⟩
  · exact ⟨rfl, rfl, rfl⟩

theorem needsStore_iff (e : HomeEntry) (total : Nat) (v : State) :
    v.needsStore e total = true ↔ e.applied < total ∧ v.home.quarantined e.account = false := by
  simp [State.needsStore]

end

/-- Settles O30, by the entry found, the hold, the total and the quarantine list. -/
theorem chargeTakenByTheHome : Obligations.ChargeTakenByTheHome := by
  rintro c s u takes rfl
  rw [exec_charge_of_takesNow takes]
  refine ⟨fun away => ?_, fun mine range => ⟨fun absent => ?_, fun e heard v found hh hv => ?_⟩,
    fun h total v => ⟨settleEntry_kept h total v, settleEntry_gone h total v⟩⟩
  · refine congrArg _ (if_neg fun ⟨mine, range⟩ => ?_)
    rcases away with other | out
    · exact other mine
    · exact absurd (out.symm.trans range) nofun
  · have unknown : takeCharge c (s.taking (.charge c)) = answerUnknown c.handle c.account c.total (s.taking (.charge c)) := by
      unfold takeCharge
      rw [if_pos ⟨mine, range⟩, show (s.taking (.charge c)).home.find c.handle = none from absent]
    rw [unknown]
    unfold answerUnknown
    refine ⟨fun zero => ?_, fun some => ?_⟩
    · rw [if_pos zero]
    · rw [if_neg (by omega)]
  · have noted : v = noteCharge e c.endCause.isSome (s.taking (.charge c)) := by
      rw [noteCharge_eq e _ _ hh, hv]
      exact if_congr ⟨fun h => ⟨Option.isSome_iff_ne_none.2 h.2, h.1⟩, fun h => ⟨h.2, Option.isSome_iff_ne_none.1 h.1⟩⟩ rfl rfl
    obtain ⟨store, backlog, quarantine⟩ := noteCharge_kept e c.endCause.isSome (s.taking (.charge c))
    rw [← noted] at store backlog quarantine
    have hold : v.store.hold = s.store.hold := congrArg Store.hold store
    have listed : v.home.quarantined e.account = s.home.quarantined e.account := by
      unfold Home.quarantined
      rw [quarantine]
      rfl
    have handle := Home.find_handle found
    rw [takeCharge_of_found (u := s.taking _) mine range found noted, hold]
    refine ⟨fun held new => ?_, fun held again => ?_, fun free stale => ?_, fun free fresh quarantined => ?_,
      fun free fresh unlisted => ?_⟩
    · rw [if_pos held, Home.backlogged_new (by rw [backlog]; exact new), backlog]
      rfl
    · rw [if_pos held, Home.backlogged_again (by rw [backlog]; exact again), backlog]
      rfl
    · rw [if_neg free, if_neg fun h => absurd ((needsStore_iff ..).1 h).1 (by omega)]
      unfold applyAside
      rw [if_neg (by omega), handle]
    · rw [if_neg free, if_neg fun h => absurd (((needsStore_iff ..).1 h).2.symm.trans (listed.trans quarantined)) nofun]
      unfold applyAside
      rw [if_pos fresh, handle]
    · rw [if_neg free, if_pos ((needsStore_iff ..).2 ⟨fresh, listed.trans unlisted⟩)]
      rfl

/-! ### The end of an access -/

section
variable {s : State} {r : Requester}

theorem finishAccess_of_words (running : s.inReset = false) (access : s.store.access = some r) (words : ∀ w ∈ s.accessWords, w < 2048) :
    finishAccess r s = .next (accessEffect s).accessOver := by
  have good : s.badWord = none := List.find?_eq_none.2 fun w hw => by
    simpa using words w hw
  rcases finishAccess_cases r s with ⟨not, _⟩ | ⟨_, _, w, bad, _⟩ | ⟨_, _, _, ended⟩
  · rcases not with h | h
    · exact absurd (running.symm.trans h) nofun
    · exact absurd access h
  · exact absurd (good.symm.trans bad) nofun
  · exact ended

theorem recordWords_lt {i : Nat} (h : i < 512) : ∀ w ∈ recordWords i, w < 2048 := by
  intro w hw
  simp only [recordWords, List.mem_cons, List.not_mem_nil, or_false] at hw
  omega

end

/-! ### The evaluation of a CLAIM (R58 to R64) -/

section
variable {c : ClaimBody} {s w : State} {i : Nat}

theorem exec_claimEvaluation (running : s.inReset = false) (access : s.store.access = some .home)
    (work : s.home.work = some (.claim c)) (index : s.home.index c.account < 512) :
    exec .claimEvaluation s = .next (claimAccess c s).accessOver := by
  have words : s.accessWords = recordWords (s.home.index c.account) := by
    unfold State.accessWords
    rw [access, work]
  have effect : accessEffect s = claimAccess c s := by
    unfold accessEffect
    rw [access, work]
  change execClaimEvaluation s = _
  unfold execClaimEvaluation
  rw [work]
  simp only
  rw [finishAccess_of_words running access (words ▸ recordWords_lt index), effect]

/-- What the evaluation decides and carries out on a record that reads (R59 to R64). -/
def claimDecided (c : ClaimBody) (r : Record) (w : State) : State :=
  if w.home.quarantined c.account then denyClaim c .recordFault w else carryOut c r (w.home.verdict c r) w

/-- The evaluation by the record's outcome, before the CLAIM is finished (R59). -/
def claimEvaluated (c : ClaimBody) (rd : RecordRead) (w : State) : State :=
  match rd.outcome with
  | .uncorrectable n => denyClaim c .recordFault (listAccount .storeUncorrectable c.account n w)
  | .tagMismatch n => denyClaim c .recordFault (listAccount .tagMismatch c.account n w)
  | _ => claimDecided c rd.record w

theorem claimAccess_eq (c : ClaimBody) (s : State) :
    claimAccess c s = finishClaim (claimEvaluated c (s.store.readRecord (s.home.index c.account) c.account)
      (correctRecord (s.home.index c.account) s)) := by
  unfold claimAccess claimEvaluated claimDecided
  simp only <;>
    generalize s.store.readRecord (s.home.index c.account) c.account = rd <;>
      generalize correctRecord (s.home.index c.account) s = w <;>
        cases rd.outcome <;> rfl

theorem claimEvaluated_of_read {rd : RecordRead} (reads : rd.outcome = .clean ∨ rd.outcome = .corrected) :
    claimEvaluated c rd w = claimDecided c rd.record w := by
  unfold claimEvaluated
  rcases reads with h | h <;> rw [h]

section
variable {h : Home} {r : Record}

theorem Home.verdict_of_accepted (valid : r.valid = true) (unlocked : r.locked = false) (digest : c.digest = r.digest)
    (credit : 0 < r.balance + r.allowance) (room : h.list.length < 48) :
    h.verdict c r = match h.earliestDetached c.account with
      | some e => .reattach e
      | none => if r.limit ≤ h.nonMoving c.account then .deny .limit else .new := by
  unfold Home.verdict
  rw [if_neg (by simp [valid]), if_neg (by simp [unlocked]), if_neg (by simp [digest]), if_neg (by omega),
    if_neg (by simpa [Config.homeListPlaces] using room)] <;> rfl

theorem Home.verdict_noAccount (invalid : r.valid = false) : h.verdict c r = .deny .noAccount := by
  unfold Home.verdict
  rw [if_pos (by simp [invalid])]

theorem Home.verdict_locked (valid : r.valid = true) (locked : r.locked = true) : h.verdict c r = .deny .locked := by
  unfold Home.verdict
  rw [if_neg (by simp [valid]), if_pos locked]

theorem Home.verdict_badDigest (valid : r.valid = true) (unlocked : r.locked = false) (digest : c.digest ≠ r.digest) :
    h.verdict c r = .deny .badDigest := by
  unfold Home.verdict
  rw [if_neg (by simp [valid]), if_neg (by simp [unlocked]), if_pos digest]

theorem Home.verdict_credit (valid : r.valid = true) (unlocked : r.locked = false) (digest : c.digest = r.digest)
    (spent : r.balance + r.allowance ≤ 0) : h.verdict c r = .deny .credit := by
  unfold Home.verdict
  rw [if_neg (by simp [valid]), if_neg (by simp [unlocked]), if_neg (by simp [digest]), if_pos spent]

theorem Home.verdict_homeFull (valid : r.valid = true) (unlocked : r.locked = false) (digest : c.digest = r.digest)
    (credit : 0 < r.balance + r.allowance) (full : 48 ≤ h.list.length) : h.verdict c r = .deny .homeFull := by
  unfold Home.verdict
  rw [if_neg (by simp [valid]), if_neg (by simp [unlocked]), if_neg (by simp [digest]), if_neg (by omega), if_pos full]

end

theorem carryOut_deny {r : Record} {reason : DenyReason} (other : reason ≠ .badDigest) (w : State) :
    carryOut c r (.deny reason) w = denyClaim c reason w := by
  unfold carryOut
  cases reason with
  | badDigest => exact absurd rfl other
  | _ => simp only

end

/-- The earliest DETACHED entry of an account, in the detach order (R62). -/
theorem Home.earliestDetached_findings (h : Home) (account : Nat) (e : HomeEntry) :
    (h.earliestDetached account = some e ↔
      ∃ (before after : List Handle) (x : Handle), h.detachOrder = before ++ x :: after ∧ h.find x = some e ∧
        e.account = account ∧ ∀ y ∈ before, ∀ other : HomeEntry, h.find y = some other → other.account ≠ account) ∧
    (h.earliestDetached account = none ↔
      ∀ y ∈ h.detachOrder, ∀ other : HomeEntry, h.find y = some other → other.account ≠ account) := by
  have passes (y : Handle) : (match h.find y with | some e => if e.account = account then some e else none | none => none) = none ↔
      ∀ other : HomeEntry, h.find y = some other → other.account ≠ account := by
    cases h.find y <;> simp
  have picks (y : Handle) (e : HomeEntry) :
      (match h.find y with | some e => if e.account = account then some e else none | none => none) = some e ↔
      h.find y = some e ∧ e.account = account := by
    cases h.find y with
    | none => simp
    | some d =>
      simp only [Option.ite_none_right_eq_some, Option.some.injEq]
      constructor
      · rintro ⟨here, rfl⟩; exact ⟨rfl, here⟩
      · rintro ⟨rfl, here⟩; exact ⟨here, rfl⟩
  unfold Home.earliestDetached
  constructor
  · refine List.findSome?_eq_some_iff.trans ⟨?_, ?_⟩
    · rintro ⟨before, x, after, order, chosen, none⟩
      obtain ⟨found, here⟩ := (picks x e).1 chosen
      exact ⟨before, after, x, order, found, here, fun y hy => (passes y).1 (none y hy)⟩
    · rintro ⟨before, after, x, order, found, here, none⟩
      exact ⟨before, x, after, order, (picks x e).2 ⟨found, here⟩, fun y hy => (passes y).2 (none y hy)⟩
  · exact List.findSome?_eq_none_iff.trans ⟨fun none y hy => (passes y).1 (none y hy), fun none y hy => (passes y).2 (none y hy)⟩

end Sys2Proof.Machine
end

section
/-! The account home (chapter 4): the evaluation of a CLAIM, case by case (R58 to R64). -/

namespace Sys2Proof.Machine

section
variable {c : ClaimBody} {s w x : State} {i : Nat} {r : Record}

theorem resetFailures_eq (index : Nat) (r : Record) (w : State) :
    resetFailures index r w = if r.failures = 0 then w else writeRecord index { r with failures := 0 } w := rfl

/-- A wrong digest is counted in the record, which the fifth locks (R60). -/
theorem carryOut_badDigest (unlocked : r.locked = false) (w : State) :
    carryOut c r (.deny .badDigest) w = denyClaim c .badDigest (writeRecord (w.home.index c.account)
      { r with failures := min 7 (r.failures + 1), locked := decide (5 ≤ min 7 (r.failures + 1)) } w) := by
  have failed : r.failed = { r with failures := min 7 (r.failures + 1), locked := decide (5 ≤ min 7 (r.failures + 1)) } := by
    unfold Record.failed
    simp only [unlocked, Bool.false_or]
    rw [holdAt_eq_min]
  unfold carryOut
  simp only
  rw [failed]

theorem carryOut_new (hx : x = resetFailures (w.home.index c.account) r w) :
    carryOut c r .new w = offerClassOne c.handle.station
      (.grant { handle := c.handle, account := c.account, acctClass := r.acctClass, oldHandle := none })
      { x with home := { x.home with list := w.home.list ++
        [{ handle := c.handle, account := c.account, state := .active, applied := 0, silence := 180,
           cutoffSent := false, successor := none, expiryPutOff := false }] } } := by
  have home : x.home = w.home := by rw [hx, resetFailures_home]
  unfold carryOut
  simp only
  rw [home, ← hx]
  rfl

theorem carryOut_reattach (old : HomeEntry) (hx : x = resetFailures (w.home.index c.account) r w) :
    carryOut c r (.reattach old) w = offerClassOne c.handle.station
      (.grant { handle := c.handle, account := c.account, acctClass := r.acctClass, oldHandle := some old.handle })
      { x with home := { x.home with
          list := w.home.list.map (fun e => if e.handle = old.handle then
              { e with state := .moving, successor := some c.handle, silence := 180, expiryPutOff := false } else e) ++
            [{ handle := c.handle, account := c.account, state := .active, applied := 0, silence := 180,
               cutoffSent := false, successor := none, expiryPutOff := false }],
          detachOrder := w.home.detachOrder.filter (fun h => decide (h ≠ old.handle)) } } := by
  have home : x.home = w.home := by rw [hx, resetFailures_home]
  unfold carryOut
  simp only
  rw [home, ← hx]
  rfl

/-- The denials that a record without fault or lock brings (R59 to R63). -/
theorem claimDecided_of_denied {reason : DenyReason} {h : Home} (same : w.home = h) (unlisted : h.quarantined c.account = false)
    (denied : r.valid = false ∧ reason = .noAccount ∨
      r.valid = true ∧ r.locked = true ∧ reason = .locked ∨
      r.valid = true ∧ r.locked = false ∧ c.digest = r.digest ∧
        (r.balance + r.allowance ≤ 0 ∧ reason = .credit ∨
         0 < r.balance + r.allowance ∧
          (48 ≤ h.list.length ∧ reason = .homeFull ∨
           h.list.length < 48 ∧ h.earliestDetached c.account = none ∧ r.limit ≤ h.nonMoving c.account ∧ reason = .limit))) :
    claimDecided c r w = denyClaim c reason w := by
  unfold claimDecided
  rw [same, if_neg (Bool.eq_false_iff.1 unlisted)]
  rcases denied with ⟨invalid, rfl⟩ | ⟨valid, locked, rfl⟩ | ⟨valid, unlocked, digest, ⟨spent, rfl⟩ | ⟨credit, ⟨full, rfl⟩ | ⟨room, none, limit, rfl⟩⟩⟩
  · rw [Home.verdict_noAccount invalid, carryOut_deny (by decide)]
  · rw [Home.verdict_locked valid locked, carryOut_deny (by decide)]
  · rw [Home.verdict_credit valid unlocked digest spent, carryOut_deny (by decide)]
  · rw [Home.verdict_homeFull valid unlocked digest credit full, carryOut_deny (by decide)]
  · rw [Home.verdict_of_accepted valid unlocked digest credit room, none]
    simp only
    rw [if_pos limit, carryOut_deny (by decide)]

end

/-- Settles O27: the evaluation by the read's outcome, the quarantine list and the record's fields. -/
theorem claimEvaluationSteps : Obligations.ClaimEvaluationSteps := by
  refine ⟨?_, Home.earliestDetached_findings⟩
  rintro c s w v i rd r running access work low hi index hrd rfl hw hv
  have index_eq : s.home.index c.account = i := hi.symm
  have home : w.home = s.home := by rw [hw, correctRecord_home]
  have evaluated : exec .claimEvaluation s = .next (finishClaim (claimEvaluated c rd w)).accessOver := by
    rw [exec_claimEvaluation running access work (by rw [index_eq]; exact index), claimAccess_eq, index_eq, ← hrd, ← hw]
  rw [evaluated]
  refine congrArg (fun u => Host.Outcome.next (finishClaim u).accessOver) ?_
  rcases hv with ⟨n, outcome, rfl⟩ | ⟨n, outcome, rfl⟩ | ⟨reads, listed, rfl⟩ | ⟨reads, unlisted, decided⟩
  · unfold claimEvaluated
    rw [outcome]
    rfl
  · unfold claimEvaluated
    rw [outcome]
    rfl
  · rw [claimEvaluated_of_read reads]
    unfold claimDecided
    rw [if_pos listed]
    rfl
  · rw [claimEvaluated_of_read reads]
    rw [home] at unlisted
    have open_ : ¬ w.home.quarantined c.account = true := by rw [home]; exact Bool.eq_false_iff.1 unlisted
    rcases decided with ⟨reason, rfl, denied⟩ | ⟨valid, unlocked, digest, rfl⟩ |
      ⟨valid, unlocked, digest, credit, room, x, hx, ⟨none, below, rfl⟩ | ⟨old, earliest, rfl⟩⟩
    · rw [claimDecided_of_denied home unlisted denied]
      rfl
    · unfold claimDecided
      rw [if_neg open_, Home.verdict_badDigest valid unlocked digest, carryOut_badDigest unlocked, home, index_eq]
      rfl
    · unfold claimDecided
      rw [if_neg open_, home, Home.verdict_of_accepted valid unlocked digest credit room, none]
      simp only
      rw [if_neg (by omega), carryOut_new (x := x) (by rw [hx, home, index_eq, resetFailures_eq]), home]
    · unfold claimDecided
      rw [if_neg open_, home, Home.verdict_of_accepted valid unlocked digest credit room, earliest]
      simp only
      rw [carryOut_reattach old (x := x) (by rw [hx, home, index_eq, resetFailures_eq]), home]

end Sys2Proof.Machine
end

section
/-! Posting and credit (chapter 7): the application of a CHARGE, the cut-off check, and credits held or unbilled. -/

namespace Sys2Proof.Machine

/-! ### The application of a CHARGE (R116, R117, R120) -/

section
variable {h : Handle} {a total : Nat} {final fromBacklog : Bool} {s base w : State} {e : HomeEntry}

theorem exec_chargeApplication (running : s.inReset = false) (access : s.store.access = some .home)
    (work : s.home.work = some (.charge h a total final fromBacklog)) {i : Nat}
    (index : (match s.home.find h with | some e => s.home.index e.account | none => s.home.index a) = i) (fits : i < 512) :
    exec .chargeApplication s = .next (chargeAccess h a total final fromBacklog s).accessOver := by
  have words : s.accessWords = recordWords i := by
    unfold State.accessWords
    rw [access, work, ← index]
    cases found : s.home.find h <;> simp only [found]
  have effect : accessEffect s = chargeAccess h a total final fromBacklog s := by
    unfold accessEffect
    rw [access, work]
  change execChargeApplication s = _
  unfold execChargeApplication
  rw [work]
  simp only
  rw [finishAccess_of_words running access (words ▸ recordWords_lt fits), effect]

theorem chargeAccess_eq (hb : base = { s with home := { s.home with
      work := none,
      backlog := if fromBacklog then s.home.backlog.filter (fun b => decide (b.handle ≠ h)) else s.home.backlog } }) :
    chargeAccess h a total final fromBacklog s = match s.home.find h with
      | none => answerUnknown h a total base
      | some e =>
        if e.applied < total then applyToRecord e total final base
        else applyAside e total final base := by
  subst hb
  unfold chargeAccess
  rfl

/-- The application by the record's outcome and fields, with `w` the state after the read (R117, R118). -/
def chargeApplied (e : HomeEntry) (total : Nat) (final : Bool) (rd : RecordRead) (i : Nat) (w : State) : State :=
  match rd.outcome with
  | .uncorrectable n =>
    settleEntry e.handle total final (placeFaulted .storeUncorrectable e.account n e.handle (total - e.applied) w)
  | .tagMismatch n => settleEntry e.handle total final (placeFaulted .tagMismatch e.account n e.handle (total - e.applied) w)
  | _ =>
    if w.home.quarantined e.account then
      settleEntry e.handle total final (addHeld e.account (some e.handle) (total - e.applied) w)
    else if !rd.record.valid then
      settleEntry e.handle total final (addUnbilled e.account (some e.handle) (total - e.applied) w)
    else
      let r := rd.record.debit (total - e.applied)
      let x := settleEntry e.handle total final
        (addUnbilled e.account (some e.handle) (debitExcess rd.record.balance (total - e.applied)) (writeRecord i r w))
      if final || decide (e.state = .moving) then x else cutoffCheck e.account r.balance r.allowance x

theorem applyToRecord_eq (e : HomeEntry) (total : Nat) (final : Bool) (base : State) :
    applyToRecord e total final base = chargeApplied e total final (base.store.readRecord (base.home.index e.account) e.account)
      (base.home.index e.account) (correctRecord (base.home.index e.account) base) := by
  unfold applyToRecord chargeApplied
  simp only <;>
    generalize base.store.readRecord (base.home.index e.account) e.account = rd <;>
      generalize correctRecord (base.home.index e.account) base = w <;>
        cases rd.outcome <;> rfl

theorem placeFaulted_of_full {kind : FaultKind} {n credits : Nat} (full : w.home.listingAnswer a = .full) :
    placeFaulted kind a n h credits w = addUnbilled a (some h) credits (listAccount kind a n w) := by
  unfold placeFaulted
  rw [full]

theorem placeFaulted_of_room {kind : FaultKind} {n credits : Nat} (room : w.home.listingAnswer a ≠ .full) :
    placeFaulted kind a n h credits w = addHeld a (some h) credits (listAccount kind a n w) := by
  unfold placeFaulted
  split
  · next full => exact absurd full room
  · rfl

theorem chargeApplied_of_read {rd : RecordRead} {i : Nat} (reads : rd.outcome = .clean ∨ rd.outcome = .corrected) :
    chargeApplied e total final rd i w =
      if w.home.quarantined e.account then
        settleEntry e.handle total final (addHeld e.account (some e.handle) (total - e.applied) w)
      else if !rd.record.valid then
        settleEntry e.handle total final (addUnbilled e.account (some e.handle) (total - e.applied) w)
      else
        let r := rd.record.debit (total - e.applied)
        let x := settleEntry e.handle total final
          (addUnbilled e.account (some e.handle) (debitExcess rd.record.balance (total - e.applied)) (writeRecord i r w))
        if final || decide (e.state = .moving) then x else cutoffCheck e.account r.balance r.allowance x := by
  unfold chargeApplied
  rcases reads with outcome | outcome <;> rw [outcome]

theorem cutoffCheck_of_credit {account allowance : Nat} {balance : Int} (credit : 0 < balance + allowance) (x : State) :
    cutoffCheck account balance allowance x = x := if_neg (by omega)

/-- The debit of a valid record and what the cut-off check is asked for after it (R117, R120). -/
theorem chargeApplied_of_valid {rd : RecordRead} {i : Nat} {r : Record} {v x : State} {b : Int} {delta : Nat}
    (reads : rd.outcome = .clean ∨ rd.outcome = .corrected) (hr : r = rd.record) (hd : delta = total - e.applied)
    (unlisted : w.home.quarantined e.account = false) (valid : r.valid = true) (hb : b = max (-8388608) (r.balance - delta))
    (hx : x = settleEntry e.handle total final (addUnbilled e.account (some e.handle) (-8388608 - (r.balance - delta)).toNat
      (writeRecord i { r with balance := b, termCredits := min 16777215 (r.termCredits + delta) } w)))
    (stays : final = true ∨ e.state = .moving ∨ 0 < b + r.allowance → v = x)
    (checks : final = false → e.state ≠ .moving → b + r.allowance ≤ 0 → v = cutoffCheck e.account b r.allowance x) :
    chargeApplied e total final rd i w = v := by
  have debit : rd.record.debit (total - e.applied) = { r with balance := b, termCredits := min 16777215 (r.termCredits + delta) } := by
    unfold Record.debit debited
    rw [holdAt_eq_min, ← hd, ← hr, hb]
  rw [chargeApplied_of_read reads, if_neg (Bool.eq_false_iff.1 unlisted), if_neg (by rw [← hr, valid]; exact nofun)]
  simp only [debit]
  have excess : debitExcess rd.record.balance (total - e.applied) = (-8388608 - (r.balance - delta)).toNat := by
    unfold debitExcess
    rw [← hd, ← hr]
  rw [excess, ← hx]
  by_cases settled : final = true ∨ e.state = .moving
  · rw [if_pos (by simpa using settled), stays (settled.imp_right .inl)]
  · obtain ⟨notFinal, notMoving⟩ := not_or.1 settled
    rw [if_neg (by simpa using settled)]
    rcases lt_or_ge 0 (b + r.allowance) with credit | spent
    · rw [cutoffCheck_of_credit credit, stays (.inr (.inr credit))]
    · rw [checks (Bool.eq_false_iff.2 notFinal) notMoving spent]

end

/-- Settles O31, by the entry found, the totals and the read's outcome. -/
theorem chargeApplicationCases : Obligations.ChargeApplicationCases := by
  intro h a total final fromBacklog s base running access work hb
  have accessed := chargeAccess_eq (a := a) (total := total) (final := final) hb
  refine ⟨fun absent fits => ?_, fun delta i e w v rd r found low hi fits => ⟨fun stale => ?_, fun fresh hd hrd hr hw hv => ?_⟩⟩
  · have unknown : exec .chargeApplication s = .next (answerUnknown h a total base).accessOver := by
      rw [exec_chargeApplication running access work (i := s.home.index a) (by rw [absent]) fits, accessed, absent]
    rw [unknown]
    unfold answerUnknown
    refine ⟨fun zero => ?_, fun more => ?_⟩
    · rw [if_pos zero]
    · rw [if_neg (by omega)]
  · have handle := Home.find_handle found
    rw [exec_chargeApplication running access work (i := i) (by rw [found]; exact hi.symm) fits, accessed, found]
    simp only
    rw [if_neg (by omega)]
    unfold applyAside
    rw [if_neg (by omega), handle]
  · have handle := Home.find_handle found
    have index : base.home.index e.account = i := by rw [hb]; exact hi.symm
    have store : base.store = s.store := by rw [hb]
    have applied : exec .chargeApplication s = .next (chargeApplied e total final rd i w).accessOver := by
      rw [exec_chargeApplication running access work (i := i) (by rw [found]; exact hi.symm) fits, accessed, found]
      simp only
      rw [if_pos fresh, applyToRecord_eq, index, store, ← hrd, ← hw]
    rw [applied]
    refine congrArg (fun u => Host.Outcome.next (State.accessOver u)) ?_
    rcases hv with ⟨n, kind, outcome, placed⟩ | ⟨reads, listed, rfl⟩ | ⟨reads, unlisted, ⟨invalid, rfl⟩ | ⟨valid, x, b, hbal, hx, stays, checks⟩⟩
    · have faulted : chargeApplied e total final rd i w =
          settleEntry e.handle total final (placeFaulted kind e.account n e.handle (total - e.applied) w) := by
        unfold chargeApplied
        rcases outcome with ⟨outcome, rfl⟩ | ⟨outcome, rfl⟩ <;> rw [outcome]
      rw [faulted, handle, ← hd]
      rcases placed with ⟨full, rfl⟩ | ⟨room, rfl⟩
      · rw [placeFaulted_of_full full]
      · rw [placeFaulted_of_room room]
    · rw [chargeApplied_of_read reads, if_pos listed, handle, ← hd]
    · rw [chargeApplied_of_read reads, if_neg (Bool.eq_false_iff.1 unlisted), if_pos (by rw [← hr, invalid]; rfl), handle, ← hd]
    · exact chargeApplied_of_valid reads hr hd unlisted valid hbal (by rw [handle]; exact hx) stays checks

/-! ### The cut-off check (R120) -/

section
variable {account : Nat} {balance : Int}

/-- The entries that the cut-off check cuts (R120). -/
def HomeEntry.cut (account : Nat) (e : HomeEntry) : Bool := decide (e.account = account ∧ e.state ≠ .moving ∧ e.cutoffSent = false)

/-- The CUTOFF queued for an entry (R120). -/
def cutoffEntry (account : Nat) (balance : Int) (e : HomeEntry) : Entry :=
  { destination := e.handle.station, payload := .cutoff { handle := e.handle, account := account, balance := balance },
    inFlight := false, mismatches := 0 }

theorem cutOne_of_not {s : State} {e : HomeEntry} (not : e.cut account = false) : cutOne account balance s e = s := by
  refine if_neg fun h => ?_
  rw [HomeEntry.cut, decide_eq_true h] at not
  cases not

theorem cutOne_of_room {s : State} {e : HomeEntry} (cut : e.cut account = true) (room : s.bus.queue.length < 24) :
    cutOne account balance s e =
      { s with bus := { s.bus with queue := s.bus.queue ++ [cutoffEntry account balance e] },
               home := s.home.modEntry e.handle (fun x => { x with cutoffSent := true }) } := by
  have roomy : s.room = true := s.room_iff.2 room
  have fits : s.classOneFits = true := by
    unfold State.classOneFits
    rw [roomy]
    rfl
  unfold cutOne
  rw [if_pos (by simpa [HomeEntry.cut] using cut)]
  simp only
  rw [if_pos fits]
  unfold offerClassOne
  rw [if_pos (by exact roomy)]
  rfl

/-- An entry's flag set among entries of other handles (R120). -/
theorem modEntry_of_distinct {g : Home} {before after : List HomeEntry} {e : HomeEntry} (split : g.list = before ++ e :: after)
    (others : ∀ y ∈ before ++ after, y.handle ≠ e.handle) (f : HomeEntry → HomeEntry) :
    g.modEntry e.handle f = { g with list := before ++ f e :: after } := by
  have kept (q : List HomeEntry) (h : ∀ y ∈ q, y.handle ≠ e.handle) : q.map (fun x => if x.handle = e.handle then f x else x) = q :=
    (List.map_congr_left fun y hy => if_neg (h y hy)).trans (List.map_id q)
  unfold Home.modEntry
  rw [split, List.map_append, List.map_cons, kept before fun y hy => others y (List.mem_append_left _ hy),
    kept after fun y hy => others y (List.mem_append_right _ hy), if_pos rfl]

/-- The cut-off check over the entries still to come, with room for the CUTOFFs of all of them (R120). -/
theorem foldl_cutOne (rest before : List HomeEntry) (u : State) (list : u.home.list = before ++ rest)
    (room : u.bus.queue.length + rest.countP (HomeEntry.cut account) ≤ 24)
    (distinct : (before ++ rest).Pairwise (fun x y => x.handle ≠ y.handle)) :
    rest.foldl (cutOne account balance) u = { u with
      bus := { u.bus with queue := u.bus.queue ++ (rest.filter (HomeEntry.cut account)).map (cutoffEntry account balance) },
      home := { u.home with
        list := before ++ rest.map (fun e => if e.cut account then { e with cutoffSent := true } else e) } } := by
  induction rest generalizing before u with
  | nil =>
    rw [List.append_nil] at list
    simp only [List.foldl_nil, List.filter_nil, List.map_nil, List.append_nil, ← list]
  | cons e rest ih =>
    have moved (f : HomeEntry) (hf : f.handle = e.handle) :
        ((before ++ [f]) ++ rest).Pairwise (fun x y => x.handle ≠ y.handle) := by
      rw [List.append_assoc, List.singleton_append]
      simp only [List.pairwise_append, List.pairwise_cons, List.mem_cons, forall_eq_or_imp, hf] at distinct ⊢
      exact distinct
    rw [List.foldl_cons]
    cases cut : e.cut account with
    | false =>
      rw [cutOne_of_not cut, ih (before ++ [e]) u (by rw [list, List.append_assoc]; rfl)
        (by rwa [List.countP_cons_of_neg (by simp [cut])] at room) (moved e rfl)]
      simp [cut]
    | true =>
      rw [List.countP_cons_of_pos cut] at room
      have others : ∀ y ∈ before ++ rest, y.handle ≠ e.handle := by
        intro y hy
        simp only [List.pairwise_append, List.pairwise_cons, List.mem_cons, forall_eq_or_imp] at distinct
        obtain ⟨-, ⟨later, -⟩, earlier⟩ := distinct
        rcases List.mem_append.1 hy with hy | hy
        · exact (earlier y hy).1
        · exact (later y hy).symm
      rw [cutOne_of_room cut (by omega), modEntry_of_distinct list others,
        ih (before ++ [{ e with cutoffSent := true }]) _ (by simp) (by simp only [List.length_append, List.length_singleton]; omega)
          (moved _ rfl)]
      simp [cut]

theorem classOneFits_iff (s : State) :
    s.classOneFits = true ↔ s.bus.queue.length < 24 ∨ ∃ x ∈ s.bus.queue, Entry.isData x = true ∧ x.inFlight = false := by
  unfold State.classOneFits
  rw [Bool.or_eq_true, s.room_iff, List.any_eq_true]
  simp

end

/-! ### Credits held or unbilled (R118, R119), and the answers of a listing (R158 to R160) -/

section
variable {account credits : Nat} {h : Option Handle} {s : State}

theorem mem_addMark (marks : List Nat) (i j : Nat) : j ∈ addMark marks i ↔ j = i ∨ j ∈ marks := by
  induction marks with
  | nil => simp [addMark]
  | cons k marks ih =>
    unfold addMark
    split
    · next same => subst same; simp
    · split
      · simp
      · rw [List.mem_cons, ih, List.mem_cons, or_left_comm]

theorem addUnbilled_zero : addUnbilled account h 0 s = s := rfl

theorem addUnbilled_of_credits (more : 0 < credits) {u : State}
    (hu : u = { s with home := { s.home with unbilled := min 16777215 (s.home.unbilled + credits) } }) :
    addUnbilled account h credits s = if account - s.home.first ∈ s.home.unbilledMarks then u
      else logFault .unbilled { Subject.blank with account := some account, handle := h, total := some credits }
        { u with home := { u.home with unbilledMarks := addMark s.home.unbilledMarks (account - s.home.first) } } := by
  subst hu
  unfold addUnbilled
  rw [if_neg (by omega)]
  simp only [List.contains_iff_mem]
  rw [holdAt_eq_min]
  rfl

theorem find_quarantine {before after : List QuarantineEntry} {held : Nat} {quarantine : List QuarantineEntry}
    (split : quarantine = before ++ { account := account, held := held } :: after) (others : ∀ q ∈ before, q.account ≠ account) :
    quarantine.find? (fun q => decide (q.account = account)) = some { account := account, held := held } := by
  rw [split, List.find?_append, List.find?_eq_none.2 (by simpa using others), Option.none_or, List.find?_cons_of_pos (by simp)]

theorem heldOf_of_split {before after : List QuarantineEntry} {held : Nat}
    (split : s.home.quarantine = before ++ { account := account, held := held } :: after) (others : ∀ q ∈ before, q.account ≠ account) :
    s.home.heldOf account = held := by
  unfold Home.heldOf
  rw [find_quarantine split others]

theorem heldOf_of_unlisted (none : ∀ q ∈ s.home.quarantine, q.account ≠ account) : s.home.heldOf account = 0 := by
  unfold Home.heldOf
  rw [List.find?_eq_none.2 (by simpa using none)]

theorem addHeld_of_split {before after : List QuarantineEntry} {held : Nat}
    (split : s.home.quarantine = before ++ { account := account, held := held } :: after)
    (others : ∀ q ∈ before ++ after, q.account ≠ account) :
    addHeld account h credits s = addUnbilled account h (held + credits - 16777215)
      { s with home := { s.home with quarantine :=
        before ++ { account := account, held := min 16777215 (held + credits) } :: after } } := by
  have kept (q : List QuarantineEntry) (away : ∀ y ∈ q, y.account ≠ account) :
      q.map (fun x => if x.account = account then { x with held := holdAt Config.maxCredits (x.held + credits) } else x) = q :=
    (List.map_congr_left fun y hy => if_neg (away y hy)).trans (List.map_id q)
  unfold addHeld
  rw [heldOf_of_split split fun q hq => others q (List.mem_append_left _ hq), split, List.map_append, List.map_cons,
    kept before fun y hy => others y (List.mem_append_left _ hy), kept after fun y hy => others y (List.mem_append_right _ hy),
    if_pos rfl, holdAt_eq_min]
  rfl

theorem listAccount_of_already {kind : FaultKind} {word : Nat} (listed : s.home.listingAnswer account = .already) :
    listAccount kind account word s = logFault kind { Subject.blank with account := some account, word := some word } s := by
  unfold listAccount
  rw [listed]

theorem listAccount_of_listed {kind : FaultKind} {word : Nat} (listed : s.home.listingAnswer account = .listed) :
    listAccount kind account word s = logFault kind { Subject.blank with account := some account, word := some word }
      { s with home := { s.home with quarantine := s.home.quarantine ++ [{ account := account, held := 0 }] } } := by
  unfold listAccount
  rw [listed]
  rfl

theorem listAccount_of_full {kind : FaultKind} {word : Nat} (full : s.home.listingAnswer account = .full) :
    listAccount kind account word s = logFault .quarantineFull { Subject.blank with account := some account, word := some word } s := by
  unfold listAccount
  rw [full]

end

/-- Settles O32: the check as a fold over the list, and each of the credits' operations by what it finds. -/
theorem cutoffsQueuedAndCreditsPlaced : Obligations.CutoffsQueuedAndCreditsPlaced := by
  refine ⟨fun account allowance balance s t cut spent hcut room distinct ht => ?_, fun account allowance balance s =>
    ⟨fun credit => cutoffCheck_of_credit credit s, fun spent => ?_⟩, fun account credits i h s u hi hu => ?_,
    fun kind account word subject s hs => ?_⟩
  · have cut_eq : cut = HomeEntry.cut account := funext hcut
    subst cut_eq
    have folded := foldl_cutOne (account := account) (balance := balance) s.home.list [] s rfl room distinct
    have checked : t = s.home.list.foldl (cutOne account balance) s := by
      rw [ht]
      exact if_pos spent
    rw [checked, folded]
    exact ⟨rfl, rfl, rfl⟩
  · refine (if_pos spent).trans ?_
    congr 1
    funext u e
    unfold cutOne
    refine if_congr Iff.rfl ?_ rfl
    simp only
    rw [if_congr (classOneFits_iff u) rfl rfl]
    rfl
  · refine ⟨addUnbilled_zero, fun more marked => ?_, fun more unmarked => ⟨_, fun j => mem_addMark s.home.unbilledMarks i j, ?_⟩,
      fun before after held split others => ⟨heldOf_of_split split fun q hq => others q (List.mem_append_left _ hq),
        addHeld_of_split split others⟩, heldOf_of_unlisted, ⟨s.home.unbilledMarks.filter (fun j => decide (j ≠ i)), fun j => ?_, ?_⟩⟩
    · rw [addUnbilled_of_credits more hu, if_pos (hi ▸ marked)]
    · rw [addUnbilled_of_credits more hu, if_neg (hi ▸ unmarked), hi]
    · simp [and_comm]
    · rw [hi]
      rfl
  · subst hs
    refine ⟨fun listed => ?_, fun unlisted => ⟨fun room => ?_, fun full => ?_⟩⟩
    · have answer : s.home.listingAnswer account = .already := if_pos ((Home.quarantined_iff ..).2 listed)
      exact ⟨answer, listAccount_of_already answer⟩
    · have answer : s.home.listingAnswer account = .listed := by
        unfold Home.listingAnswer
        rw [if_neg (Bool.eq_false_iff.1 ((Home.quarantined_eq_false_iff ..).2 unlisted)), if_pos room]
      exact ⟨answer, listAccount_of_listed answer⟩
    · have answer : s.home.listingAnswer account = .full := by
        unfold Home.listingAnswer
        rw [if_neg (Bool.eq_false_iff.1 ((Home.quarantined_eq_false_iff ..).2 unlisted)), if_neg (Nat.not_lt.2 full)]
      exact ⟨answer, listAccount_of_full answer⟩

end Sys2Proof.Machine
end

section
/-! The host adapter's commands to the records (section 10.5, R123 to R128): the checks of the four account commands. -/

namespace Sys2Proof

theorem unsigned24_lt (b : Int) : unsigned24 b < 16777216 := by
  unfold unsigned24
  omega

theorem signed24_unsigned24 {b : Int} (low : -8388608 ≤ b) (high : b ≤ 8388607) : signed24 (unsigned24 b) = b := by
  unfold signed24 unsigned24
  split <;> omega

end Sys2Proof

namespace Sys2Proof.Machine

/-! ### Bodies of the account commands -/

section
variable {b : List Byte}

theorem accountOf_eq_none_iff : accountOf b = none ↔ b.length ≠ 3 ∨ 999999 < fieldOf b 0 3 := by
  unfold accountOf
  split_ifs with fits <;> simp <;> omega

theorem depositOf_eq_none_iff :
    depositOf b = none ↔ b.length ≠ 6 ∨ 999999 < fieldOf b 0 3 ∨ fieldOf b 3 3 = 0 ∨ 8388607 < fieldOf b 3 3 := by
  unfold depositOf
  split_ifs with fits <;> simp <;> omega

theorem accountLoadOf_eq_none_iff :
    accountLoadOf b = none ↔ b.length ≠ 18 ∨ 999999 < fieldOf b 0 3 ∨
      1 < fieldOf b 3 1 ∨ 7 < fieldOf b 12 1 ∨ 3 < fieldOf b 13 1 ∨ 1 < fieldOf b 14 1 := by
  rw [← flagOf_eq_none_iff (fieldOf b 3 1), ← flagOf_eq_none_iff (fieldOf b 14 1)]
  unfold accountLoadOf
  split_ifs with fits
  · obtain ⟨length, account, acctClass, limit⟩ := fits
    cases flagOf (fieldOf b 3 1) <;> cases flagOf (fieldOf b 14 1) <;> simp <;> omega
  · refine iff_of_true rfl ?_
    by_contra sound
    simp only [not_or] at sound
    omega

variable {a n : Nat}

theorem accountOf_bytes (ha : a ≤ 999999) : accountOf (bytesOf 3 a) = some a := by
  have field : fieldOf (bytesOf 3 a) 0 3 = a := (fieldOf_bytesOf 3 a).trans (Nat.mod_eq_of_lt (by omega))
  rw [accountOf, length_bytesOf, field, if_pos ⟨rfl, ha⟩]

theorem depositOf_bytes (ha : a ≤ 999999) (least : 1 ≤ n) (most : n ≤ 8388607) :
    depositOf (bytesOf 3 a ++ bytesOf 3 n) = some (a, n) := by
  have account : fieldOf (bytesOf 3 a ++ bytesOf 3 n) 0 3 = a := fieldOf_bytesOf_append.trans (Nat.mod_eq_of_lt (by omega))
  have amount : fieldOf (bytesOf 3 a ++ bytesOf 3 n) 3 3 = n :=
    (fieldOf_bytesOf_append_of_le le_rfl).trans ((fieldOf_bytesOf 3 n).trans (Nat.mod_eq_of_lt (by omega)))
  rw [depositOf, account, amount, if_pos ⟨by simp, ha, least, most⟩]

theorem accountLoadOf_bytes {l : AccountLoad} (account : l.account ≤ 999999) (low : -8388608 ≤ l.balance)
    (high : l.balance ≤ 8388607) (allowance : l.allowance < 65536) (digest : l.digest < 16777216) (acctClass : l.acctClass < 8)
    (limit : l.limit < 4) (termCredits : l.termCredits < 16777216) : accountLoadOf l.bytes = some l := by
  have fits (x : Bool) : x.toNat % 256 = x.toNat := Nat.mod_eq_of_lt (by have := x.toNat_lt; omega)
  have balance := signed24_unsigned24 low high
  have small := unsigned24_lt l.balance
  simp [accountLoadOf, AccountLoad.bytes, balanceBytes, flagByte_eq_bytesOf, fieldOf_bytesOf_append,
    fieldOf_bytesOf_append_of_le, fieldOf_bytesOf, fits, flagOf_toNat, Nat.mod_eq_of_lt small, balance,
    Nat.mod_eq_of_lt (show l.account < 16777216 by omega), Nat.mod_eq_of_lt allowance, Nat.mod_eq_of_lt digest,
    Nat.mod_eq_of_lt (show l.acctClass < 256 by omega), Nat.mod_eq_of_lt (show l.limit < 256 by omega),
    Nat.mod_eq_of_lt termCredits, account, show l.acctClass ≤ 7 by omega, show l.limit ≤ 3 by omega]

end

/-! ### The four commands as one check and what follows it (R123) -/

/-- The account that the body of an account command names, where the body is good. -/
def accountNamed : CommandKind → List Byte → Option Nat
  | .accountLoad, b => (accountLoadOf b).map AccountLoad.account
  | .deposit, b => (depositOf b).map Prod.fst
  | _, b => accountOf b

/-- The length of the body of an account command. -/
def accountLength : CommandKind → Nat
  | .accountLoad => 18
  | .deposit => 6
  | _ => 3

/-- What follows the checks of an ACCOUNT LOAD (R124). -/
def loadWork (load : Option AccountLoad) (s : State) : State :=
  match load with
  | none => s
  | some l => if s.home.inUse l then offerResult .accountLoad .inUse [] s else requestHost (.accountLoad l) s

theorem loadWork_some (l : AccountLoad) (s : State) : loadWork (some l) s =
    if s.home.inUse l then offerResult .accountLoad .inUse [] s else requestHost (.accountLoad l) s := rfl

/-- What follows the checks of an account command (R124, R126 to R128). -/
def accountWork : CommandKind → List Byte → State → State
  | .accountLoad, b => loadWork (accountLoadOf b)
  | .accountRead, b => requestHost (.accountRead ((accountOf b).getD 0))
  | .deposit, b => requestHost (.deposit ((depositOf b).getD (0, 0)).1 ((depositOf b).getD (0, 0)).2)
  | _, b => requestHost (.unlock ((accountOf b).getD 0))

theorem accountWork_accountLoad (b : List Byte) : accountWork .accountLoad b = loadWork (accountLoadOf b) := rfl

theorem accountWork_accountRead (b : List Byte) :
    accountWork .accountRead b = requestHost (.accountRead ((accountOf b).getD 0)) := rfl

theorem accountWork_deposit (b : List Byte) :
    accountWork .deposit b = requestHost (.deposit ((depositOf b).getD (0, 0)).1 ((depositOf b).getD (0, 0)).2) := rfl

theorem accountWork_unlock (b : List Byte) : accountWork .unlock b = requestHost (.unlock ((accountOf b).getD 0)) := rfl

section
variable {kind : CommandKind} {listedFails : Bool} {named : Option Nat} {a : Nat} {go : State → State} {s : State}

theorem checkAccount_of_notInService (out : s.station.state ≠ .inService) :
    checkAccount kind listedFails named go s = offerResult kind .refusedState [] s := by
  have idle : s.inService = false := Bool.eq_false_iff.2 (mt s.inService_iff.1 out)
  unfold checkAccount
  rw [idle]
  rfl

theorem checkAccount_of_inService (serving : s.station.state = .inService) :
    checkAccount kind listedFails named go s = match named with
      | none => offerResult kind .badField [] s
      | some a =>
        if !s.home.inRange a then offerResult kind .notHome [] s
        else if listedFails && s.home.quarantined a then offerResult kind .recordFault [] s
        else go s := by
  unfold checkAccount
  rw [s.inService_iff.2 serving] <;> rfl

theorem checkAccount_of_badField (serving : s.station.state = .inService) :
    checkAccount kind listedFails none go s = offerResult kind .badField [] s := checkAccount_of_inService serving

theorem checkAccount_of_notHome (serving : s.station.state = .inService) (away : s.home.inRange a = false) :
    checkAccount kind listedFails (some a) go s = offerResult kind .notHome [] s := by
  rw [checkAccount_of_inService serving]
  exact if_pos (by rw [away]; rfl)

theorem checkAccount_of_listed (serving : s.station.state = .inService) (home : s.home.inRange a = true)
    (listed : s.home.quarantined a = true) : checkAccount kind true (some a) go s = offerResult kind .recordFault [] s := by
  rw [checkAccount_of_inService serving]
  simp only
  rw [if_neg (by rw [home]; exact nofun), if_pos (by rw [listed]; rfl)]

theorem checkAccount_of_passed (serving : s.station.state = .inService) (home : s.home.inRange a = true)
    (passed : listedFails = false ∨ s.home.quarantined a = false) : checkAccount kind listedFails (some a) go s = go s := by
  rw [checkAccount_of_inService serving]
  simp only
  rw [if_neg (by rw [home]; exact nofun), if_neg (by rcases passed with h | h <;> simp [h])]

end

section
variable {i : Instr} {kind : CommandKind} {b : List Byte} {s u : State}

/-- One of the four account commands (R123). -/
def accountCommand (i : Instr) (kind : CommandKind) (b : List Byte) : Prop :=
  i = .accountLoad b ∧ kind = .accountLoad ∨ i = .accountRead b ∧ kind = .accountRead ∨
    i = .deposit b ∧ kind = .deposit ∨ i = .unlock b ∧ kind = .unlock

theorem takeAccountLoad_eq (b : List Byte) (u : State) : takeAccountLoad b u =
    checkAccount .accountLoad false (accountNamed .accountLoad b) (accountWork .accountLoad b) u := by
  change _ = checkAccount .accountLoad false ((accountLoadOf b).map AccountLoad.account) (loadWork (accountLoadOf b)) u
  unfold takeAccountLoad
  cases named : accountLoadOf b with
  | none =>
    simp only [Option.map_none]
    unfold checkAccount
    rfl
  | some l => rfl

theorem exec_account (command : accountCommand i kind b) (takes : s.takesNow (.command kind b))
    (hu : u = s.taking (.command kind b)) :
    exec i s = .next (checkAccount kind (decide (kind ≠ .accountLoad)) (accountNamed kind b) (accountWork kind b) u) := by
  subst hu
  rcases command with ⟨rfl, rfl⟩ | ⟨rfl, rfl⟩ | ⟨rfl, rfl⟩ | ⟨rfl, rfl⟩
  · exact congrArg Host.Outcome.next ((takeHanded_of_takesNow (takeAccountLoad b) takes).trans (takeAccountLoad_eq b _))
  · exact congrArg Host.Outcome.next (takeHanded_of_takesNow (takeAccountRead b) takes)
  · exact congrArg Host.Outcome.next (takeHanded_of_takesNow (takeDeposit b) takes)
  · exact congrArg Host.Outcome.next (takeHanded_of_takesNow (takeUnlock b) takes)

theorem accountNamed_eq_none_iff (command : accountCommand i kind b) : accountNamed kind b = none ↔
    b.length ≠ accountLength kind ∨ 999999 < fieldOf b 0 3 ∨
      kind = .deposit ∧ (fieldOf b 3 3 = 0 ∨ 8388607 < fieldOf b 3 3) ∨
      kind = .accountLoad ∧ (1 < fieldOf b 3 1 ∨ 7 < fieldOf b 12 1 ∨ 3 < fieldOf b 13 1 ∨ 1 < fieldOf b 14 1) := by
  rcases command with ⟨-, rfl⟩ | ⟨-, rfl⟩ | ⟨-, rfl⟩ | ⟨-, rfl⟩
  · simp [accountNamed, accountLength, accountLoadOf_eq_none_iff]
  · simp [accountNamed, accountLength, accountOf_eq_none_iff]
  · simp [accountNamed, accountLength, depositOf_eq_none_iff]
  · simp [accountNamed, accountLength, accountOf_eq_none_iff]

theorem Home.inUse_iff (g : Home) (l : AccountLoad) : g.inUse l = true ↔
    (∃ e ∈ g.list, e.account = l.account) ∧ (l.valid = false ∨ l.limit < g.nonMoving l.account) := by
  simp [Home.inUse, Home.lists]

/-- A good body with the account it names and the work that it asks the store for. -/
def accountRequest (i : Instr) (b : List Byte) (a n : Nat) (l : AccountLoad) (work : HostWork) : Prop :=
  i = .accountRead b ∧ b = bytesOf 3 a ∧ work = .accountRead a ∨
    i = .unlock b ∧ b = bytesOf 3 a ∧ work = .unlock a ∨
    i = .deposit b ∧ b = bytesOf 3 a ++ bytesOf 3 n ∧ work = .deposit a n ∨
    i = .accountLoad b ∧ b = l.bytes ∧ l.account = a ∧ work = .accountLoad l ∧
      (-8388608 ≤ l.balance ∧ l.balance ≤ 8388607 ∧ l.allowance < 65536 ∧ l.digest < 16777216 ∧ l.acctClass < 8 ∧
        l.limit < 4 ∧ l.termCredits < 16777216)

variable {a n : Nat} {l : AccountLoad} {work : HostWork}

theorem accountRequest_reads (command : accountCommand i kind b) (ha : a ≤ 999999) (least : 1 ≤ n) (most : n ≤ 8388607)
    (request : accountRequest i b a n l work) :
    accountNamed kind b = some a ∧ (kind ≠ .accountLoad → accountWork kind b = requestHost work) ∧
      (kind = .accountLoad → l.account = a ∧ work = .accountLoad l ∧ accountLoadOf b = some l) := by
  rcases request with ⟨rfl, rfl, rfl⟩ | ⟨rfl, rfl, rfl⟩ | ⟨rfl, rfl, rfl⟩ | ⟨rfl, rfl, account, rfl, low, high, allowance, digest, acctClass, limit, credits⟩
  · obtain rfl : kind = .accountRead := by simpa [accountCommand] using command
    refine ⟨accountOf_bytes ha, fun _ => ?_, nofun⟩
    rw [accountWork_accountRead, accountOf_bytes ha, Option.getD_some]
  · obtain rfl : kind = .unlock := by simpa [accountCommand] using command
    refine ⟨accountOf_bytes ha, fun _ => ?_, nofun⟩
    rw [accountWork_unlock, accountOf_bytes ha, Option.getD_some]
  · obtain rfl : kind = .deposit := by simpa [accountCommand] using command
    have reads := depositOf_bytes ha least most
    refine ⟨congrArg (Option.map Prod.fst) reads, fun _ => ?_, nofun⟩
    rw [accountWork_deposit, reads, Option.getD_some]
  · obtain rfl : kind = .accountLoad := by simpa [accountCommand] using command
    have reads := accountLoadOf_bytes (account ▸ ha) low high allowance digest acctClass limit credits
    exact ⟨(congrArg (Option.map AccountLoad.account) reads).trans (congrArg some account), fun not => absurd rfl not,
      fun _ => ⟨account, rfl, reads⟩⟩

end

/-- Settles O33, by R123's checks in their order. -/
theorem accountCommandChecks : Obligations.AccountCommandChecks := by
  intro s u i kind b takes hu command
  have taken := exec_account command takes hu
  have station : u.station = s.station := by rw [hu]; rfl
  have home : u.home = s.home := by rw [hu]; rfl
  have store : u.store = s.store := by rw [hu]; rfl
  rw [taken, ← station, ← home, ← store]
  refine ⟨fun out => by rw [checkAccount_of_notInService out], fun serving => ⟨fun bad => ?_, ?_⟩⟩
  · rw [(accountNamed_eq_none_iff command).2 bad, checkAccount_of_badField serving]
  · intro a n l work ha least most request
    obtain ⟨named, requested, load⟩ := accountRequest_reads command ha least most request
    rw [named]
    refine ⟨fun away => by rw [checkAccount_of_notHome serving away], fun inHome => ⟨fun other listed => ?_,
      fun other unlisted => ?_, fun isLoad inUse refused => ?_, fun isLoad free => ?_⟩⟩
    · rw [decide_eq_true other, checkAccount_of_listed serving inHome listed]
    · rw [checkAccount_of_passed serving inHome (.inr unlisted), requested other]
      rfl
    · obtain ⟨account, rfl, reads⟩ := load isLoad
      subst isLoad
      rw [checkAccount_of_passed serving inHome (.inl (by simp)), accountWork_accountLoad, reads, loadWork_some]
      rw [if_pos ((Home.inUse_iff ..).2 (by rw [account]; exact ⟨inUse, refused⟩))]
    · obtain ⟨account, rfl, reads⟩ := load isLoad
      subst isLoad
      rw [checkAccount_of_passed serving inHome (.inl (by simp)), accountWork_accountLoad, reads, loadWork_some]
      rw [if_neg (mt (Home.inUse_iff ..).1 (by
        rw [account]
        rintro ⟨⟨e, listed, same⟩, refused⟩
        rcases free with none | ⟨valid, room⟩
        · exact none e listed same
        · simp only [valid, Bool.true_eq_false, false_or] at refused
          omega))]
      rfl

end Sys2Proof.Machine
end

section
/-! The accesses of the host-command path (R124 to R128), and the only fault there is (R131). -/

namespace Sys2Proof.Machine

section
variable {s : State} {w : HostWork} {a i : Nat}

theorem exec_hostCommandAccessEnd (running : s.inReset = false) (access : s.store.access = some .host)
    (work : s.store.hostWork = some w) (words : ∀ n ∈ s.accessWords, n < 2048) :
    exec .hostCommandAccessEnd s = .next (hostAccess w s).hostOver := by
  have effect : accessEffect s = { hostAccess w s with store := { (hostAccess w s).store with hostWork := none } } := by
    unfold accessEffect
    rw [access, work] <;> rfl
  change (if s.store.hostWork.isSome then finishAccess .host s else .next s) = _
  rw [work, if_pos (by rfl), finishAccess_of_words running access words, effect]
  rfl

theorem nonMoving_congr {g h : Home} (list : g.list = h.list) : g.nonMoving a = h.nonMoving a := by
  unfold Home.nonMoving
  rw [list]

theorem listAccount_list (kind : FaultKind) (a n : Nat) (s : State) : (listAccount kind a n s).home.list = s.home.list := by
  cases answer : s.home.listingAnswer a with
  | already => rw [listAccount_of_already answer, (logFault_keeps _ _ _).2.2.1]
  | listed => rw [listAccount_of_listed answer, (logFault_keeps _ _ _).2.2.1]
  | full => rw [listAccount_of_full answer, (logFault_keeps _ _ _).2.2.1]

theorem listFaulted_list (a : Nat) (o : RecordOutcome) (s : State) : (listFaulted a o s).home.list = s.home.list := by
  cases o
  · rfl
  · rfl
  · exact listAccount_list _ _ _ _
  · exact listAccount_list _ _ _ _

theorem RecordOutcome.code_eq_two_iff (o : RecordOutcome) : o.code = 2 ↔ o ≠ .clean ∧ o ≠ .corrected := by
  cases o <;> simp [RecordOutcome.code]

theorem loadAccess_eq {l : AccountLoad} {held excess : Nat} (account : l.account = a) (hi : i = a - s.home.first)
    (hh : held = s.home.heldOf a) (he : excess = (-8388608 - (l.balance - held)).toNat) :
    loadAccess l s = offerResult .accountLoad .done (bytesOf 3 held ++ bytesOf 3 excess) (clearMark a (addUnbilled a none excess
      { writeRecord i { balance := max (-8388608) (l.balance - held), acctClass := l.acctClass, limit := l.limit,
                        valid := l.valid, locked := l.locked, digest := l.digest, failures := 0,
                        allowance := l.allowance, tag := a % 65536, termCredits := l.termCredits } s with
        home := { s.home with quarantine := s.home.quarantine.filter (fun q => decide (q.account ≠ a)) } })) := by
  subst account hi hh he
  rfl

/-- The state after a read of an account command: the write-backs, and for a faulted read the listing (R123, R136). -/
theorem listFaulted_eq {rd : RecordRead} {v u : State} (hv : v = match rd.outcome with
      | .uncorrectable n => listAccount .storeUncorrectable a n u
      | .tagMismatch n => listAccount .tagMismatch a n u
      | _ => u) : v = listFaulted a rd.outcome u := by
  rw [hv]
  cases rd.outcome <;> rfl

theorem accountDataBody_eq (rd : RecordRead) (entries : Nat) : accountDataBody a rd entries =
    bytesOf 3 a ++ bytesOf 1 (match rd.outcome with | .clean => 0 | .corrected => 1 | _ => 2) ++
      flagByte rd.record.valid ++ balanceBytes rd.record.balance ++ bytesOf 2 rd.record.allowance ++
      bytesOf 1 rd.record.acctClass ++ bytesOf 1 rd.record.limit ++ flagByte rd.record.locked ++
      bytesOf 1 rd.record.failures ++ bytesOf 3 rd.record.termCredits ++ bytesOf 1 entries := by
  unfold accountDataBody
  cases rd.outcome <;> rfl

section
variable {rd : RecordRead} {v : State} {n : Nat}

theorem readAccess_eq (hi : i = a - s.home.first) (hr : rd = s.store.readRecord i a)
    (hv : v = listFaulted a rd.outcome (correctRecord i s)) :
    readAccess a s = offerReply .accountData (accountDataBody a rd (s.home.nonMoving a)) v := by
  have list : v.home.list = s.home.list := by rw [hv, listFaulted_list, correctRecord_home]
  rw [← nonMoving_congr list, hv, hr, hi]
  rfl

theorem depositAccess_eq (hi : i = a - s.home.first) (hr : rd = s.store.readRecord i a)
    (hv : v = listFaulted a rd.outcome (correctRecord i s)) :
    depositAccess a n s =
      if rd.outcome.code = 2 then offerResult .deposit .recordFault [] v
      else if !rd.record.valid then offerResult .deposit .notFound [] v
      else offerResult .deposit .done (balanceBytes (min 8388607 (rd.record.balance + n)) ++
          bytesOf 3 (min 8388607 (rd.record.balance + n) - rd.record.balance).toNat)
        (clearMark a (writeRecord i { rd.record with balance := min 8388607 (rd.record.balance + n) } v)) := by
  subst hv hr hi
  rfl

theorem unlockAccess_eq (hi : i = a - s.home.first) (hr : rd = s.store.readRecord i a)
    (hv : v = listFaulted a rd.outcome (correctRecord i s)) :
    unlockAccess a s =
      if rd.outcome.code = 2 then offerResult .unlock .recordFault [] v
      else if !rd.record.valid then offerResult .unlock .notFound [] v
      else offerResult .unlock .done [] (writeRecord i { rd.record with locked := false, failures := 0 } v) := by
  subst hv hr hi
  rfl

theorem code_ne_two (reads : rd.outcome = .clean ∨ rd.outcome = .corrected) : rd.outcome.code ≠ 2 := by
  rw [ne_eq, RecordOutcome.code_eq_two_iff]
  rintro ⟨notClean, notCorrected⟩
  exact reads.elim notClean notCorrected

end

end

/-- Settles O34, command by command: its access ended over its own words, and what the record's read brings. -/
theorem accountCommandAccesses : Obligations.AccountCommandAccesses := by
  intro s a i running access hi fits
  have ended {w : HostWork} (work : s.store.hostWork = some w) (touches : s.accessWords = recordWords i) :
      exec .hostCommandAccessEnd s = .next (hostAccess w s).hostOver :=
    exec_hostCommandAccessEnd running access work (by rw [touches]; exact recordWords_lt fits)
  have touched {w : HostWork} (work : s.store.hostWork = some w) (named : w = .accountRead a ∨ (∃ n, w = .deposit a n) ∨ w = .unlock a ∨
      ∃ l : AccountLoad, l.account = a ∧ w = .accountLoad l) : s.accessWords = recordWords i := by
    unfold State.accessWords
    rw [access, work, hi]
    rcases named with rfl | ⟨n, rfl⟩ | rfl | ⟨l, rfl, rfl⟩ <;> rfl
  refine ⟨fun l held excess work account hh he => ?_, fun rd w hr hw => ?_⟩
  · rw [ended work (touched work (.inr (.inr (.inr ⟨l, account, rfl⟩))))]
    exact congrArg (fun u => Host.Outcome.next (State.hostOver u)) (loadAccess_eq account hi hh he)
  · have listed := listFaulted_eq hw
    refine ⟨fun work => ?_, fun n work => ?_, fun work => ?_⟩
    · rw [ended work (touched work (.inl rfl))]
      exact congrArg (fun u => Host.Outcome.next (State.hostOver u)) ((readAccess_eq hi hr listed).trans
        (congrArg (fun body => offerReply .accountData body w) (accountDataBody_eq rd _)))
    · rw [ended work (touched work (.inr (.inl ⟨n, rfl⟩)))]
      have deposited := depositAccess_eq (n := n) hi hr listed
      change (_ → Host.Outcome.next (State.hostOver (depositAccess a n s)) = _) ∧ (_ → (_ → Host.Outcome.next (State.hostOver (depositAccess a n s)) = _) ∧
        ∀ balance : Int, _ → _ → Host.Outcome.next (State.hostOver (depositAccess a n s)) = _)
      rw [deposited]
      refine ⟨fun faulted => ?_, fun reads => ⟨fun invalid => ?_, fun balance valid hb => ?_⟩⟩
      · rw [if_pos ((RecordOutcome.code_eq_two_iff _).2 faulted)]
      · rw [if_neg (code_ne_two reads), if_pos (by rw [invalid]; rfl)]
      · rw [if_neg (code_ne_two reads), if_neg (by rw [valid]; exact nofun), ← hb]
    · rw [ended work (touched work (.inr (.inr (.inl rfl))))]
      have unlocked := unlockAccess_eq hi hr listed
      change (_ → Host.Outcome.next (State.hostOver (unlockAccess a s)) = _) ∧ (_ → (_ → Host.Outcome.next (State.hostOver (unlockAccess a s)) = _) ∧
        (_ → Host.Outcome.next (State.hostOver (unlockAccess a s)) = _))
      rw [unlocked]
      refine ⟨fun faulted => ?_, fun reads => ⟨fun invalid => ?_, fun valid => ?_⟩⟩
      · rw [if_pos ((RecordOutcome.code_eq_two_iff _).2 faulted)]
      · rw [if_neg (code_ne_two reads), if_pos (by rw [invalid]; rfl)]
      · rw [if_neg (code_ne_two reads), if_neg (by rw [valid]; exact nofun)]

/-! ### The only fault (R131) -/

/-- The commands that work inside an access of the store (R138). -/
def endsAccess (c : Instr) : Prop :=
  c = .claimEvaluation ∨ c = .chargeApplication ∨ c = .hostCommandAccessEnd ∨ c = .scrubStep ∨ c = .migrationStep

theorem exec_next_of_not_endsAccess {c : Instr} (outside : ¬ endsAccess c) (s : State) : ∃ t, exec c s = .next t := by
  cases c with
  | claimEvaluation => exact absurd (.inl rfl) outside
  | chargeApplication => exact absurd (.inr (.inl rfl)) outside
  | hostCommandAccessEnd => exact absurd (.inr (.inr (.inl rfl))) outside
  | scrubStep => exact absurd (.inr (.inr (.inr (.inl rfl)))) outside
  | migrationStep => exact absurd (.inr (.inr (.inr (.inr rfl)))) outside
  | _ => exact ⟨_, rfl⟩

/-- A command that works inside an access is idle or ends that access. -/
theorem exec_of_endsAccess {c : Instr} (inside : endsAccess c) (s : State) :
    exec c s = .next s ∨ ∃ r : Requester, exec c s = finishAccess r s := by
  rcases inside with rfl | rfl | rfl | rfl | rfl
  · change execClaimEvaluation s = _ ∨ ∃ r, execClaimEvaluation s = _
    unfold execClaimEvaluation
    split
    · exact .inr ⟨_, rfl⟩
    · exact .inl rfl
  · change execChargeApplication s = _ ∨ ∃ r, execChargeApplication s = _
    unfold execChargeApplication
    split
    · exact .inr ⟨_, rfl⟩
    · exact .inl rfl
  · change execHostCommandAccessEnd s = _ ∨ ∃ r, execHostCommandAccessEnd s = _
    unfold execHostCommandAccessEnd
    split
    · exact .inr ⟨_, rfl⟩
    · exact .inl rfl
  · exact .inr ⟨_, rfl⟩
  · exact .inr ⟨_, rfl⟩

theorem exec_fault {c : Instr} {s : State} {r : Fault} (faults : exec c s = .fault r) :
    ∃ n : Nat, r = .noSuchWord n ∧ 2048 ≤ n ∧ n ∈ s.accessWords ∧ endsAccess c := by
  have inside : endsAccess c := by
    by_contra outside
    obtain ⟨t, next⟩ := exec_next_of_not_endsAccess outside s
    exact absurd (next.symm.trans faults) nofun
  rcases exec_of_endsAccess inside s with idle | ⟨q, ends⟩
  · exact absurd (idle.symm.trans faults) nofun
  · rw [ends] at faults
    rcases finishAccess_cases q s with ⟨-, next⟩ | ⟨-, -, n, bad, faulted⟩ | ⟨-, -, -, next⟩
    · exact absurd (next.symm.trans faults) nofun
    · have word : r = .noSuchWord n := by
        rw [faulted] at faults
        exact (Host.Outcome.fault.inj faults).symm
      have missing : decide (Config.storeWords ≤ n) = true := List.find?_some (p := fun w => decide (Config.storeWords ≤ w)) bad
      exact ⟨n, word, of_decide_eq_true missing, List.mem_of_find?_eq_some bad, inside⟩
    · exact absurd (next.symm.trans faults) nofun

/-- A record of the home range lies within the store (R54, R131). -/
theorem words_of_inRange {g : Home} {a : Nat} (count : g.count ≤ 512) (inRange : g.inRange a = true) :
    ∀ n ∈ recordWords (g.index a), n < 2048 := by
  refine recordWords_lt ?_
  simp only [Home.inRange, Bool.and_eq_true, decide_eq_true_eq] at inRange
  unfold Home.index
  omega

theorem accessWords_lt {s : State} (within : s.withinStore) : ∀ n ∈ s.accessWords, n < 2048 := by
  obtain ⟨count, pointer, migration, -, list, -, claims, charges, host⟩ := within
  unfold State.accessWords
  cases s.store.access with
  | none => exact nofun
  | some r =>
    cases r with
    | home =>
      cases work : s.home.work with
      | none => exact nofun
      | some w =>
        cases w with
        | claim c => exact words_of_inRange count (claims c work)
        | charge h a total final drained =>
          cases found : s.home.find h with
          | none => simpa only [found] using words_of_inRange count (charges h a total final drained work)
          | some e => simpa only [found] using words_of_inRange count (list e (List.mem_of_find?_eq_some found))
    | host =>
      cases work : s.store.hostWork with
      | none => exact nofun
      | some w =>
        have inRange := host w work
        cases w with
        | accountLoad l => exact words_of_inRange count inRange
        | accountRead a => exact words_of_inRange count inRange
        | deposit a n => exact words_of_inRange count inRange
        | unlock a => exact words_of_inRange count inRange
        | probe n => exact List.forall_mem_singleton.2 inRange
        | flip n mask => exact List.forall_mem_singleton.2 inRange
    | migration =>
      cases moving : s.store.migration with
      | none => exact nofun
      | some m =>
        refine List.forall_mem_singleton.2 ?_
        have := migration m moving
        have := m.segment.isLt
        unfold Migration.word
        omega
    | scrub => exact List.forall_mem_singleton.2 pointer

/-- Settles O35: a fault is that of the first word of the access which the store does not have. -/
theorem onlyMissingWordsFault : Obligations.OnlyMissingWordsFault := by
  refine ⟨fun c s r faults => exec_fault faults, fun s within => ?_⟩
  have none {u : State} (hu : u.withinStore) (c : Instr) (r : Fault) : exec c u ≠ .fault r := by
    intro faults
    obtain ⟨n, -, missing, touched, -⟩ := exec_fault faults
    have := accessWords_lt hu n touched
    omega
  refine ⟨none within, fun r => ?_⟩
  unfold step
  split
  · exact nofun
  · exact none (by exact within) _ r

end Sys2Proof.Machine
end

section
/-! The word code (R133, R134). Every step of it is linear over the stored bits, so a fresh code needs a look at the 32 single
data bits, and a wrong position adds its own number to the syndrome. -/

namespace Sys2Proof.Machine

/-! ### A bit placed at a clear position -/

section
variable {n p q : Nat} {v w : BitVec n} {x y : Bool}

/-- The word with bit `p` set where `b` says so. -/
def placeBit (w : BitVec n) (p : Nat) (b : Bool) : BitVec n := if b then w ||| BitVec.twoPow n p else w

theorem getLsbD_placeBit : (placeBit w p x).getLsbD q = (w.getLsbD q || (x && decide (q < n) && decide (p = q))) := by
  unfold placeBit
  by_cases same : p = q
  · subst same
    cases x <;> simp [BitVec.getLsbD_twoPow]
  · cases x <;> simp [BitVec.getLsbD_twoPow, same]

theorem placeBit_xor (hv : v.getLsbD p = false) (hw : w.getLsbD p = false) :
    placeBit (v ^^^ w) p (x ^^ y) = placeBit v p x ^^^ placeBit w p y := by
  refine BitVec.eq_of_getLsbD_eq fun q hq => ?_
  simp only [getLsbD_placeBit, BitVec.getLsbD_xor, hq, decide_true, Bool.and_true]
  by_cases same : p = q
  · subst same
    simp [hv, hw]
  · simp [same]

variable {α : Type} {pos : α → Nat} {f g : α → Bool} {l : List α}

theorem foldl_placeBit_clear (away : q ∉ l.map pos) (clear : w.getLsbD q = false) :
    (l.foldl (fun w a => placeBit w (pos a) (f a)) w).getLsbD q = false := by
  induction l generalizing w with
  | nil => exact clear
  | cons a l ih =>
    rw [List.map_cons, List.mem_cons, not_or] at away
    rw [List.foldl_cons]
    exact ih away.2 (by simp [getLsbD_placeBit, clear, Ne.symm away.1])

theorem foldl_placeBit_xor (distinct : (l.map pos).Nodup) (hv : ∀ a ∈ l, v.getLsbD (pos a) = false)
    (hw : ∀ a ∈ l, w.getLsbD (pos a) = false) :
    l.foldl (fun w a => placeBit w (pos a) (f a ^^ g a)) (v ^^^ w) =
      l.foldl (fun w a => placeBit w (pos a) (f a)) v ^^^ l.foldl (fun w a => placeBit w (pos a) (g a)) w := by
  induction l generalizing v w with
  | nil => rfl
  | cons a l ih =>
    obtain ⟨others, distinct⟩ := List.nodup_cons.1 distinct
    have kept {u : BitVec n} {b : Bool} (hu : ∀ c ∈ a :: l, u.getLsbD (pos c) = false) :
        ∀ c ∈ l, (placeBit u (pos a) b).getLsbD (pos c) = false := by
      intro c hc
      have : pos a ≠ pos c := fun same => others (same ▸ List.mem_map_of_mem hc)
      simp [getLsbD_placeBit, hu c (List.mem_cons_of_mem _ hc), this]
    rw [List.foldl_cons, placeBit_xor (hv a List.mem_cons_self) (hw a List.mem_cons_self), ih distinct (kept hv) (kept hw)]
    rfl

end

/-- What holds of no bit, of each single bit, and of the sum of two words for which it holds, holds of every word. -/
theorem bits_induct {n : Nat} {P : BitVec n → Prop} (zero : P 0#n) (bit : ∀ i < n, P (BitVec.twoPow n i))
    (sum : ∀ v w, P v → P w → P (v ^^^ w)) (w : BitVec n) : P w := by
  have upTo : ∀ k ≤ n, P ((w.setWidth k).setWidth n) := by
    intro k hk
    induction k with
    | zero =>
      have none : (w.setWidth 0).setWidth n = 0#n := BitVec.eq_of_getLsbD_eq fun q _ => by simp
      rw [none]
      exact zero
    | succ k ih =>
      have top : P (if w.getLsbD k then BitVec.twoPow n k else 0#n) := by
        split
        · exact bit k hk
        · exact zero
      have whole : (w.setWidth (k + 1)).setWidth n =
          (w.setWidth k).setWidth n ^^^ (if w.getLsbD k then BitVec.twoPow n k else 0#n) := by
        refine BitVec.eq_of_getLsbD_eq fun q hq => ?_
        have split : (if w.getLsbD k then BitVec.twoPow n k else 0#n).getLsbD q = (decide (k = q) && w.getLsbD k) := by
          cases w.getLsbD k <;> simp [BitVec.getLsbD_twoPow]
          omega
        rw [BitVec.getLsbD_xor, split]
        simp only [BitVec.getLsbD_setWidth, hq, decide_true, Bool.true_and]
        rcases Nat.lt_trichotomy q k with below | same | above
        · simp [below, Nat.lt_succ_of_lt below, Nat.ne_of_gt below]
        · simp [same]
        · simp [Nat.ne_of_lt above, Nat.not_lt.2 above.le, show ¬q < k + 1 by omega]
      rw [whole]
      exact sum _ _ (ih (by omega)) top
  simpa using upTo n le_rfl

/-! ### The code is linear (R133, R134) -/

section
variable {a b : StoredWord} {d e : DataWord}

theorem oddOnes_xor (ps : List Nat) : oddOnes (a ^^^ b) ps = (oddOnes a ps ^^ oddOnes b ps) := by
  have run (x y : Bool) : ps.foldl (fun z p => z != (a ^^^ b).getLsbD p) (x ^^ y) =
      (ps.foldl (fun z p => z != a.getLsbD p) x ^^ ps.foldl (fun z p => z != b.getLsbD p) y) := by
    induction ps generalizing x y with
    | nil => rfl
    | cons p ps ih =>
      have moved : ((x ^^ y) != (a ^^^ b).getLsbD p) = ((x != a.getLsbD p) ^^ (y != b.getLsbD p)) := by
        rw [BitVec.getLsbD_xor]
        cases x <;> cases y <;> cases a.getLsbD p <;> cases b.getLsbD p <;> rfl
      rw [List.foldl_cons, moved, ih]
      rfl
  exact run false false

theorem syndromeOf_xor : syndromeOf (a ^^^ b) = syndromeOf a ^^^ syndromeOf b := by
  have run (ps : List Nat) (x y : Nat) : ps.foldl (fun z p => if (a ^^^ b).getLsbD p then z ^^^ p else z) (x ^^^ y) =
      ps.foldl (fun z p => if a.getLsbD p then z ^^^ p else z) x ^^^
        ps.foldl (fun z p => if b.getLsbD p then z ^^^ p else z) y := by
    induction ps generalizing x y with
    | nil => rfl
    | cons p ps ih =>
      have moved : (if (a ^^^ b).getLsbD p then x ^^^ y ^^^ p else x ^^^ y) =
          (if a.getLsbD p then x ^^^ p else x) ^^^ (if b.getLsbD p then y ^^^ p else y) := by
        rw [BitVec.getLsbD_xor]
        cases a.getLsbD p <;> cases b.getLsbD p <;> simp [Nat.xor_assoc, Nat.xor_comm, Nat.xor_left_comm]
      rw [List.foldl_cons, moved, ih]
      rfl
  have whole := run codePositions 0 0
  rw [Nat.xor_self] at whole
  exact whole

theorem oddParity_xor : oddParity (a ^^^ b) = (oddParity a ^^ oddParity b) := oddOnes_xor _

theorem dataBits_xor : dataBits (a ^^^ b) = dataBits a ^^^ dataBits b := by
  have run := foldl_placeBit_xor (n := 32) (v := 0) (w := 0) (pos := Prod.snd) (f := fun pi : Nat × Nat => a.getLsbD pi.1)
    (g := fun pi => b.getLsbD pi.1) (l := dataPositions.zipIdx) (by decide) (fun _ _ => by simp) (fun _ _ => by simp)
  simp only [← BitVec.getLsbD_xor] at run
  exact run

theorem placeData_xor : placeData (d ^^^ e) = placeData d ^^^ placeData e := by
  have run := foldl_placeBit_xor (n := 40) (v := 0) (w := 0) (pos := Prod.fst) (f := fun pi : Nat × Nat => d.getLsbD pi.2)
    (g := fun pi => e.getLsbD pi.2) (l := dataPositions.zipIdx) (by decide) (fun _ _ => by simp) (fun _ _ => by simp)
  simp only [← BitVec.getLsbD_xor] at run
  exact run

theorem placeData_clear {q : Nat} (away : q ∉ dataPositions) : (placeData d).getLsbD q = false :=
  foldl_placeBit_clear (n := 40) (w := 0) (pos := Prod.fst) (f := fun pi : Nat × Nat => d.getLsbD pi.2)
    (l := dataPositions.zipIdx) (by rwa [show dataPositions.zipIdx.map Prod.fst = dataPositions by decide]) (by simp)

/-- The data bits with their check bits (R133, step 2). -/
def checkedData (d : DataWord) : StoredWord := [0, 1, 2, 3, 4, 5].foldl (withCheckBit (placeData d)) (placeData d)

theorem checkedData_xor : checkedData (d ^^^ e) = checkedData d ^^^ checkedData e := by
  have clear (x : DataWord) : ∀ j ∈ [0, 1, 2, 3, 4, 5], (placeData x).getLsbD (2 ^ j) = false := by
    intro j hj
    refine placeData_clear ?_
    simp only [List.mem_cons, List.not_mem_nil, or_false] at hj
    rcases hj with rfl | rfl | rfl | rfl | rfl | rfl <;> decide
  have run := foldl_placeBit_xor (n := 40) (v := placeData d) (w := placeData e) (pos := fun j : Nat => 2 ^ j)
    (f := fun j => oddOnes (placeData d) (codePositions.filter (fun p => p.testBit j)))
    (g := fun j => oddOnes (placeData e) (codePositions.filter (fun p => p.testBit j)))
    (l := [0, 1, 2, 3, 4, 5]) (by decide) (clear d) (clear e)
  simp only [← oddOnes_xor, ← placeData_xor] at run
  exact run

theorem checkedData_clear {q : Nat} (noData : q ∉ dataPositions) (noCheck : q ∉ [1, 2, 4, 8, 16, 32]) :
    (checkedData d).getLsbD q = false :=
  foldl_placeBit_clear (n := 40) (w := placeData d) (pos := fun j : Nat => 2 ^ j)
    (f := fun j => oddOnes (placeData d) (codePositions.filter (fun p => p.testBit j)))
    (l := [0, 1, 2, 3, 4, 5]) (by simpa using noCheck) (placeData_clear noData)

theorem codeOf_eq (d : DataWord) : codeOf d = placeBit (checkedData d) 0 (oddOnes (checkedData d) codePositions) := rfl

theorem codeOf_xor : codeOf (d ^^^ e) = codeOf d ^^^ codeOf e := by
  have clear (x : DataWord) : (checkedData x).getLsbD 0 = false := checkedData_clear (by decide) (by decide)
  rw [codeOf_eq, checkedData_xor, oddOnes_xor, placeBit_xor (clear d) (clear e)]
  rfl

theorem codeOf_spare_clear (d : DataWord) : (codeOf d).getLsbD 39 = false := by
  rw [codeOf_eq, getLsbD_placeBit, checkedData_clear (by decide) (by decide)]
  simp

end

/-! ### A fresh code, and wrong positions -/

theorem codeOf_sound (d : DataWord) : syndromeOf (codeOf d) = 0 ∧ oddParity (codeOf d) = false ∧ dataBits (codeOf d) = d := by
  induction d using bits_induct with
  | zero => decide +kernel
  | bit i hi =>
    have each : ∀ i : Fin 32, syndromeOf (codeOf (BitVec.twoPow 32 i)) = 0 ∧ oddParity (codeOf (BitVec.twoPow 32 i)) = false ∧
      dataBits (codeOf (BitVec.twoPow 32 i)) = BitVec.twoPow 32 i := by decide +kernel
    exact each ⟨i, hi⟩
  | sum v w hv hw =>
    obtain ⟨vs, vp, vd⟩ := hv
    obtain ⟨ws, wp, wd⟩ := hw
    rw [codeOf_xor, syndromeOf_xor, oddParity_xor, dataBits_xor, vs, ws, vp, wp, vd, wd]
    exact ⟨rfl, rfl, rfl⟩

theorem positionBit_sound {p : Nat} (code : p < 39) : syndromeOf (positionBit p) = p ∧ oddParity (positionBit p) = true := by
  have each : ∀ p : Fin 39, syndromeOf (positionBit p) = p ∧ oddParity (positionBit p) = true := by decide +kernel
  exact each ⟨p, code⟩

end Sys2Proof.Machine
end

section
/-! Words and records read back (R132 to R136, R152). -/

namespace Sys2Proof.Machine

/-! ### The columns that the decode takes (R134, step 1) -/

section
variable {mapping : Option Nat} {a b w : StoredWord} {d : DataWord}

theorem getLsbD_takenCode_none (q : Nat) : (takenCode none w).getLsbD q = (w.getLsbD q && decide (q < 39)) := by
  have taken : takenCode none w = w &&& ~~~(positionBit 39) := rfl
  have columns : (decide (q < 40) && !(decide (39 < 40) && decide (39 = q))) = decide (q < 39) := by
    rcases Nat.lt_trichotomy q 39 with below | same | above
    · simp [below, Nat.ne_of_gt below]
      omega
    · simp [same]
    · simp [Nat.ne_of_lt above, Nat.not_lt.2 above.le]
      omega
  rw [taken, BitVec.getLsbD_and, BitVec.getLsbD_not, positionBit, BitVec.getLsbD_twoPow, columns]

theorem getLsbD_takenCode_some {p : Nat} (code : p ≤ 38) (q : Nat) :
    (takenCode (some p) w).getLsbD q = if q = p then w.getLsbD 39 else w.getLsbD q && decide (q < 39) := by
  have taken : takenCode (some p) w = placeBit (takenCode none w &&& ~~~(positionBit p)) p (w.getLsbD 39) := rfl
  rw [taken, getLsbD_placeBit, BitVec.getLsbD_and, getLsbD_takenCode_none]
  by_cases same : q = p
  · subst same
    simp [positionBit, BitVec.getLsbD_twoPow, show q < 40 by omega]
  · by_cases below : q < 39
    · simp [positionBit, BitVec.getLsbD_twoPow, same, Ne.symm same, below, show q < 40 by omega]
    · simp [same, Ne.symm same, below]

theorem takenCode_xor (codes : ∀ p, mapping = some p → p ≤ 38) :
    takenCode mapping (a ^^^ b) = takenCode mapping a ^^^ takenCode mapping b := by
  refine BitVec.eq_of_getLsbD_eq fun q _ => ?_
  cases mapping with
  | none => simp only [getLsbD_takenCode_none, BitVec.getLsbD_xor, Bool.and_xor_distrib_right]
  | some p =>
    simp only [getLsbD_takenCode_some (codes p rfl), BitVec.getLsbD_xor]
    split
    · rfl
    · simp only [Bool.and_xor_distrib_right]

theorem getLsbD_positionBit (p q : Nat) : (positionBit p).getLsbD q = (decide (p < 40) && decide (p = q)) := by
  simp [positionBit, BitVec.getLsbD_twoPow]

theorem takenCode_positionBit (codes : ∀ p, mapping = some p → p ≤ 38) {column : Nat} (hc : column < 40) :
    takenCode mapping (positionBit column) = match columnTaken mapping column with | none => 0 | some p => positionBit p := by
  refine BitVec.eq_of_getLsbD_eq fun q hq => ?_
  cases mapping with
  | none =>
    rw [getLsbD_takenCode_none, getLsbD_positionBit]
    by_cases spare : column = 39
    · rw [show columnTaken none column = none from if_pos spare]
      simp
      omega
    · rw [show columnTaken none column = some column from if_neg spare]
      simp only [getLsbD_positionBit]
      by_cases same : column = q
      · simp [same, show q < 39 by omega]
      · simp [same]
  | some p =>
    have code := codes p rfl
    rw [getLsbD_takenCode_some code, getLsbD_positionBit, getLsbD_positionBit]
    by_cases spare : column = 39
    · rw [show columnTaken (some p) column = some p from if_pos spare]
      simp only [getLsbD_positionBit, spare, decide_true, Bool.and_true]
      split
      · next same => simp [same, show p < 40 by omega]
      · next other => simp [Ne.symm other]; omega
    · by_cases own : column = p
      · rw [show columnTaken (some p) column = none from (if_neg spare).trans (if_pos own)]
        subst own
        split
        · simp [spare]
        · next other => simp [Ne.symm other]
      · rw [show columnTaken (some p) column = some column from (if_neg spare).trans (if_neg own)]
        simp only [getLsbD_positionBit]
        split
        · next same => simp [same, spare, own]
        · by_cases same : column = q
          · simp [same, show q < 39 by omega]
          · simp [same]

theorem takenCode_freshCode (codes : ∀ p, mapping = some p → p ≤ 38) (d : DataWord) :
    takenCode mapping (freshCode mapping d) = codeOf d := by
  have spare := codeOf_spare_clear d
  refine BitVec.eq_of_getLsbD_eq fun q hq => ?_
  have within (x : Bool) : q ≠ 39 → (x && decide (q < 39)) = x := fun other => by simp [show q < 39 by omega]
  cases mapping with
  | none =>
    rw [getLsbD_takenCode_none]
    change ((codeOf d).getLsbD q && _) = _
    by_cases at39 : q = 39
    · subst at39
      rw [spare, Bool.false_and]
    · exact within _ at39
  | some p =>
    have code := codes p rfl
    have fresh : freshCode (some p) d = placeBit (codeOf d) 39 ((codeOf d).getLsbD p) := rfl
    rw [getLsbD_takenCode_some code, fresh, getLsbD_placeBit, getLsbD_placeBit, spare]
    split
    · next same => simp [same]
    · by_cases at39 : q = 39
      · subst at39
        simpa using spare
      · rw [within _ at39]
        simp [Ne.symm at39]

/-! ### Reading a code with no, one or two wrong positions (R134) -/

theorem readStored_of_clean (taken : takenCode mapping w = codeOf d) :
    readStored mapping w = { code := codeOf d, outcome := .clean, data := d } := by
  obtain ⟨syndrome, parity, data⟩ := codeOf_sound d
  unfold readStored
  simp only [taken, syndrome, parity, data]
  rfl

theorem readStored_of_one {p : Nat} (code : p < 39) (taken : takenCode mapping w = codeOf d ^^^ positionBit p) :
    (readStored mapping w).outcome = .corrected ∧ (readStored mapping w).data = d := by
  obtain ⟨syndrome, parity, data⟩ := codeOf_sound d
  obtain ⟨wrong, odd⟩ := positionBit_sound code
  have named : syndromeOf (takenCode mapping w) = p := by rw [taken, syndromeOf_xor, syndrome, wrong, Nat.zero_xor]
  have flipped : oddParity (takenCode mapping w) = true := by rw [taken, oddParity_xor, parity, odd]; rfl
  have outcome : outcomeOf p true = .corrected := (if_pos rfl).trans (if_pos (by omega))
  unfold readStored
  simp only [named, flipped, outcome, true_and]
  rw [taken, BitVec.xor_assoc, BitVec.xor_self, BitVec.xor_zero, data]

theorem readStored_of_two {p q : Nat} (hp : p < 39) (hq : q < 39) (different : p ≠ q)
    (taken : takenCode mapping w = codeOf d ^^^ positionBit p ^^^ positionBit q) :
    (readStored mapping w).outcome = .uncorrectable := by
  obtain ⟨syndrome, parity, -⟩ := codeOf_sound d
  obtain ⟨first, oddFirst⟩ := positionBit_sound hp
  obtain ⟨second, oddSecond⟩ := positionBit_sound hq
  have named : syndromeOf (takenCode mapping w) = p ^^^ q := by
    rw [taken, syndromeOf_xor, syndromeOf_xor, syndrome, first, second, Nat.zero_xor]
  have even : oddParity (takenCode mapping w) = false := by
    rw [taken, oddParity_xor, oddParity_xor, parity, oddFirst, oddSecond]
    rfl
  have nonzero : p ^^^ q ≠ 0 := fun zero => different (Nat.xor_eq_zero_iff.1 zero)
  have outcome : outcomeOf (p ^^^ q) false = .uncorrectable := (if_neg nofun).trans (if_neg nonzero)
  unfold readStored
  simp only [named, even, outcome]

theorem columnTaken_lt (codes : ∀ p, mapping = some p → p ≤ 38) {column p : Nat} (hc : column < 40)
    (taken : columnTaken mapping column = some p) : p < 39 := by
  unfold columnTaken at taken
  split at taken
  · split at taken
    · cases taken
    · cases taken
      omega
  · next q =>
    have := codes q rfl
    split_ifs at taken <;> cases taken <;> omega

theorem columnTaken_injective {c₁ c₂ p q : Nat} (different : c₁ ≠ c₂) (first : columnTaken mapping c₁ = some p)
    (second : columnTaken mapping c₂ = some q) : p ≠ q := by
  unfold columnTaken at first second
  cases mapping <;> simp only at first second <;> split_ifs at first second <;> simp_all <;> omega

end

/-! ### The mapping in force (R152) -/

theorem perSegment_eq {α : Type} (v : Vector α 8) (x : α) (g : Fin 8) : perSegment v x g.val = v[g] := by
  simp [perSegment]

section
variable {t : Store} {w : Nat} {g : Fin 8}

theorem Store.mapping_of_pending {m : Migration} (segment : w / 256 = g.val) (migrating : t.migration = some m)
    (own : m.segment = g) (passed : w % 256 < m.pointer) : t.mapping w = m.pendingEntry := by
  unfold Store.mapping
  rw [migrating]
  exact if_pos ⟨by rw [own]; exact segment.symm, passed⟩

theorem Store.mapping_of_own (segment : w / 256 = g.val)
    (elsewhere : ∀ m : Migration, t.migration = some m → m.segment ≠ g ∨ m.pointer ≤ w % 256) : t.mapping w = t.spareMap[g] := by
  have own : perSegment t.spareMap none (segmentOf w) = t.spareMap[g] := by
    unfold segmentOf
    rw [segment, perSegment_eq]
  unfold Store.mapping
  split
  · next m migrating =>
    refine (if_neg ?_).trans own
    rintro ⟨same, passed⟩
    rcases elsewhere m migrating with other | ahead
    · exact other (Fin.ext (same.trans segment))
    · omega
  · exact own

end

/-! ### Record reads (R135, R136) -/

section
variable {t : Store} {i account : Nat}

theorem Store.readRecord_record : (t.readRecord i account).record =
    recordOf (t.decode (4 * i)).data (t.decode (4 * i + 1)).data (t.decode (4 * i + 2)).data (t.decode (4 * i + 3)).data := rfl

/-- The words of a record with what a read of each finds. -/
def Store.recordReads (t : Store) (i : Nat) : List (Nat × WordRead) := (recordWords i).map (fun w => (w, t.decode w))

theorem Store.readRecord_of_found {p : Nat × WordRead}
    (found : (t.recordReads i).find? (fun p => decide (p.2.outcome = .uncorrectable)) = some p) :
    (t.readRecord i account).outcome = .uncorrectable p.1 := by
  unfold Store.recordReads at found
  unfold Store.readRecord
  simp only [found]

theorem Store.readRecord_of_none {r : Record} (hr : (t.readRecord i account).record = r)
    (none : (t.recordReads i).find? (fun p => decide (p.2.outcome = .uncorrectable)) = none) :
    (t.readRecord i account).outcome =
      if r.valid ∧ r.tag ≠ account % 65536 then .tagMismatch (4 * i + 2)
      else if (t.recordReads i).any (fun p => decide (p.2.outcome = .corrected)) then .corrected
      else .clean := by
  subst hr
  unfold Store.recordReads at none ⊢
  unfold Store.readRecord
  simp only [none]

theorem Store.recordReads_eq : t.recordReads i = (List.range 4).map (fun j => (4 * i + j, t.decode (4 * i + j))) := rfl

theorem Store.readRecord_uncorrectable {j : Nat} (four : j < 4) (bad : (t.decode (4 * i + j)).outcome = .uncorrectable)
    (lowest : ∀ k < j, (t.decode (4 * i + k)).outcome ≠ .uncorrectable) :
    (t.readRecord i account).outcome = .uncorrectable (4 * i + j) := by
  have found : (t.recordReads i).find? (fun p => decide (p.2.outcome = .uncorrectable)) = some (4 * i + j, t.decode (4 * i + j)) := by
    rw [Store.recordReads_eq, List.find?_map]
    have first : (List.range 4).find? ((fun p : Nat × WordRead => decide (p.2.outcome = .uncorrectable)) ∘
        fun j => (4 * i + j, t.decode (4 * i + j))) = some j := by
      rw [List.find?_range_eq_some]
      exact ⟨by simpa using bad, by simpa using four, fun k hk => by simpa using lowest k hk⟩
    rw [first]
    rfl
  exact Store.readRecord_of_found found

theorem Store.readRecord_readable (readable : ∀ j < 4, (t.decode (4 * i + j)).outcome ≠ .uncorrectable) :
    (t.readRecord i account).outcome =
      if (t.readRecord i account).record.valid ∧ (t.readRecord i account).record.tag ≠ account % 65536 then .tagMismatch (4 * i + 2)
      else if (t.recordReads i).any (fun p => decide (p.2.outcome = .corrected)) then .corrected
      else .clean := by
  have none : (t.recordReads i).find? (fun p => decide (p.2.outcome = .uncorrectable)) = none := by
    rw [List.find?_eq_none, Store.recordReads_eq]
    simpa using readable
  exact Store.readRecord_of_none rfl none

theorem Store.readRecord_agreeing (readable : ∀ j < 4, (t.decode (4 * i + j)).outcome ≠ .uncorrectable)
    (agrees : (t.readRecord i account).record.valid = false ∨ (t.readRecord i account).record.tag = account % 65536) :
    ((∃ j < 4, (t.decode (4 * i + j)).outcome = .corrected) → (t.readRecord i account).outcome = .corrected) ∧
      ((∀ j < 4, (t.decode (4 * i + j)).outcome = .clean) → (t.readRecord i account).outcome = .clean) := by
  have same : ¬ ((t.readRecord i account).record.valid = true ∧ (t.readRecord i account).record.tag ≠ account % 65536) := by
    rintro ⟨valid, differs⟩
    rcases agrees with invalid | tag
    · exact absurd (valid.symm.trans invalid) nofun
    · exact differs tag
  rw [Store.readRecord_readable readable, if_neg same]
  refine ⟨fun one => if_pos ?_, fun all => if_neg ?_⟩
  · rw [Store.recordReads_eq]
    simpa using one
  · rw [Store.recordReads_eq]
    simp only [List.any_map, Bool.not_eq_true, List.any_eq_false, List.mem_range, Function.comp_apply, decide_eq_true_eq]
    intro j hj
    rw [all j hj]
    exact nofun

end

/-! ### Records read back as written (R132, R133, R135) -/

theorem recordOf_words {r : Record} (low : -8388608 ≤ r.balance) (high : r.balance ≤ 8388607) (acctClass : r.acctClass < 8)
    (limit : r.limit < 4) (digest : r.digest < 16777216) (failures : r.failures < 8) (allowance : r.allowance < 65536)
    (tag : r.tag < 65536) (termCredits : r.termCredits < 16777216) :
    recordOf (r.words.getD 0 0) (r.words.getD 1 0) (r.words.getD 2 0) (r.words.getD 3 0) = r := by
  have back := signed24_unsigned24 low high
  have small := unsigned24_lt r.balance
  have valid : (if r.valid then 2 ^ 29 else 0) = r.valid.toNat * 2 ^ 29 := by cases r.valid <;> rfl
  have locked : (if r.locked then 2 ^ 30 else 0) = r.locked.toNat * 2 ^ 30 := by cases r.locked <;> rfl
  have validBit := r.valid.toNat_lt
  have lockedBit := r.locked.toNat_lt
  have flag (b : Bool) : decide (b.toNat = 1) = b := by cases b <;> rfl
  have fields : recordOf (r.words.getD 0 0) (r.words.getD 1 0) (r.words.getD 2 0) (r.words.getD 3 0) =
      { balance := signed24 (unsigned24 r.balance), acctClass := r.acctClass, limit := r.limit,
        valid := r.valid.toNat = 1, locked := r.locked.toNat = 1, digest := r.digest, failures := r.failures,
        allowance := r.allowance, tag := r.tag, termCredits := r.termCredits } := by
    simp only [recordOf, Record.words, List.getD_cons_zero, List.getD_cons_succ, BitVec.toNat_ofNat, valid, locked, Record.mk.injEq]
    refine ⟨congrArg signed24 ?_, ?_, ?_, ?_, ?_, ?_, ?_, ?_, ?_, ?_⟩
    · omega
    · omega
    · omega
    · exact decide_eq_decide.2 (by omega)
    · exact decide_eq_decide.2 (by omega)
    all_goals omega
  rw [fields, back, flag, flag]

section
variable {i account : Nat} {r : Record} {s : State}

theorem writeRecord_words (i : Nat) (r : Record) (s : State) : (writeRecord i r s).store.words =
    (((s.store.words.write (4 * i) (freshCode (s.store.mapping (4 * i)) (r.words.getD 0 0))).write (4 * i + 1)
      (freshCode (s.store.mapping (4 * i + 1)) (r.words.getD 1 0))).write (4 * i + 2)
        (freshCode (s.store.mapping (4 * i + 2)) (r.words.getD 2 0))).write (4 * i + 3)
          (freshCode (s.store.mapping (4 * i + 3)) (r.words.getD 3 0)) := rfl

theorem read_writeRecord_other (canonical : s.wordsCanonical) (fits : i < 512) {w : Nat} (other : w / 4 ≠ i) :
    (writeRecord i r s).store.words.read w = s.store.words.read w := by
  have wf0 : Memory.wfFrom 0 s.store.words = true := canonical
  have wf1 := Memory.wfFrom_write (n := 4 * i) (freshCode (s.store.mapping (4 * i)) (r.words.getD 0 0)) wf0 (Nat.zero_le _)
    (show _ < 2048 by omega)
  have wf2 := Memory.wfFrom_write (n := 4 * i + 1) (freshCode (s.store.mapping (4 * i + 1)) (r.words.getD 1 0)) wf1 (Nat.zero_le _)
    (show _ < 2048 by omega)
  have wf3 := Memory.wfFrom_write (n := 4 * i + 2) (freshCode (s.store.mapping (4 * i + 2)) (r.words.getD 2 0)) wf2 (Nat.zero_le _)
    (show _ < 2048 by omega)
  rw [writeRecord_words, Memory.read_write_other _ wf3 (by omega), Memory.read_write_other _ wf2 (by omega),
    Memory.read_write_other _ wf1 (by omega), Memory.read_write_other _ wf0 (by omega)]

theorem read_writeRecord_same (canonical : s.wordsCanonical) (fits : i < 512) {j : Nat} (four : j < 4) :
    (writeRecord i r s).store.words.read (4 * i + j) = freshCode (s.store.mapping (4 * i + j)) (r.words.getD j 0) := by
  have wf0 : Memory.wfFrom 0 s.store.words = true := canonical
  have wf1 := Memory.wfFrom_write (n := 4 * i) (freshCode (s.store.mapping (4 * i)) (r.words.getD 0 0)) wf0 (Nat.zero_le _)
    (show _ < 2048 by omega)
  have wf2 := Memory.wfFrom_write (n := 4 * i + 1) (freshCode (s.store.mapping (4 * i + 1)) (r.words.getD 1 0)) wf1 (Nat.zero_le _)
    (show _ < 2048 by omega)
  have wf3 := Memory.wfFrom_write (n := 4 * i + 2) (freshCode (s.store.mapping (4 * i + 2)) (r.words.getD 2 0)) wf2 (Nat.zero_le _)
    (show _ < 2048 by omega)
  rw [writeRecord_words]
  match j, four with
  | 0, _ =>
    rw [Memory.read_write_other _ wf3 (by omega), Memory.read_write_other _ wf2 (by omega),
      Memory.read_write_other _ wf1 (by omega)]
    exact Memory.read_write_same _ wf0
  | 1, _ =>
    rw [Memory.read_write_other _ wf3 (by omega), Memory.read_write_other _ wf2 (by omega)]
    exact Memory.read_write_same _ wf1
  | 2, _ =>
    rw [Memory.read_write_other _ wf3 (by omega)]
    exact Memory.read_write_same _ wf2
  | 3, _ => exact Memory.read_write_same _ wf3

theorem decode_writeRecord (canonical : s.wordsCanonical) (fits : i < 512) (codes : ∀ w p, s.store.mapping w = some p → p ≤ 38)
    {j : Nat} (four : j < 4) : (writeRecord i r s).store.decode (4 * i + j) =
      { code := codeOf (r.words.getD j 0), outcome := .clean, data := r.words.getD j 0 } := by
  have mapping : (writeRecord i r s).store.mapping (4 * i + j) = s.store.mapping (4 * i + j) := rfl
  unfold Store.decode
  rw [read_writeRecord_same canonical fits four, mapping]
  exact readStored_of_clean (takenCode_freshCode (codes (4 * i + j)) _)

end

/-- Settles O36: the code's linearity for wrong positions, the definitions for mappings and reads, and the record's words read
back one by one. -/
theorem codeAndRecordsReadBack : Obligations.CodeAndRecordsReadBack := by
  refine ⟨fun d mapping codes => ?_, fun t w g segment => ⟨rfl, fun m migrating own passed => Store.mapping_of_pending segment migrating own passed,
    Store.mapping_of_own segment⟩, ?_, fun i s word each => ?_, ?_⟩
  · have fresh := takenCode_freshCode codes d
    have clean := readStored_of_clean fresh
    refine ⟨by rw [clean], by rw [clean], fun column hc => ?_, fun c₁ c₂ h₁ h₂ different taken₁ taken₂ => ?_⟩
    · have wrong := takenCode_positionBit codes hc
      have taken : takenCode mapping (freshCode mapping d ^^^ positionBit column) =
          codeOf d ^^^ takenCode mapping (positionBit column) := by rw [takenCode_xor codes, fresh]
      intro q
      cases position : columnTaken mapping column with
      | none =>
        rw [position] at wrong
        have same := readStored_of_clean (taken.trans (by rw [wrong]; exact BitVec.xor_zero))
        exact ⟨congrArg WordRead.data same, by rw [if_pos rfl]; exact congrArg WordRead.outcome same⟩
      | some p =>
        rw [position] at wrong
        obtain ⟨outcome, data⟩ := readStored_of_one (columnTaken_lt codes hc position) (taken.trans (by rw [wrong]))
        exact ⟨data, by rw [if_neg (by exact nofun)]; exact outcome⟩
    · obtain ⟨p, hp⟩ := Option.ne_none_iff_exists'.1 taken₁
      obtain ⟨q, hq⟩ := Option.ne_none_iff_exists'.1 taken₂
      have first := takenCode_positionBit codes h₁
      have second := takenCode_positionBit codes h₂
      rw [hp] at first
      rw [hq] at second
      exact readStored_of_two (d := d) (columnTaken_lt codes h₁ hp) (columnTaken_lt codes h₂ hq) (columnTaken_injective different hp hq)
        (by rw [takenCode_xor codes, takenCode_xor codes, fresh, first, second])
  · rintro t i account rd rfl
    exact ⟨Store.readRecord_record, fun j four bad lowest => Store.readRecord_uncorrectable four bad lowest,
      fun readable => ⟨fun valid differs => (Store.readRecord_readable readable).trans (if_pos ⟨valid, differs⟩),
        fun agrees => Store.readRecord_agreeing readable agrees⟩⟩
  · have read : (fun u w => correctOnRead w (u.store.decode w) u) = fun u w => word w u :=
      funext fun u => funext fun w => (each w u).symm
    unfold correctRecord recordWords
    rw [read]
    rfl
  · rintro i account r s t fits canonical codes rfl low high acctClass limit digest failures allowance tag termCredits
    have clean : ∀ j < 4, ((writeRecord i r s).store.decode (4 * i + j)).outcome = .clean := fun j four => by
      rw [decode_writeRecord canonical fits codes four]
    have readable : ∀ j < 4, ((writeRecord i r s).store.decode (4 * i + j)).outcome ≠ .uncorrectable := fun j four => by
      rw [clean j four]
      exact nofun
    have record : ((writeRecord i r s).store.readRecord i account).record = r := by
      have data {j : Nat} (four : j < 4) : ((writeRecord i r s).store.decode (4 * i + j)).data = r.words.getD j 0 := by
        rw [decode_writeRecord canonical fits codes four]
      have first : ((writeRecord i r s).store.decode (4 * i)).data = r.words.getD 0 0 := data (j := 0) (by decide)
      rw [Store.readRecord_record, first, data (j := 1) (by decide), data (j := 2) (by decide), data (j := 3) (by decide)]
      exact recordOf_words low high acctClass limit digest failures allowance tag termCredits
    refine ⟨rfl, fun w other => read_writeRecord_other canonical fits other, clean, ?_⟩
    have outcome : ((writeRecord i r s).store.readRecord i account).outcome =
        if r.valid = true ∧ r.tag ≠ account % 65536 then .tagMismatch (4 * i + 2) else .clean := by
      split
      · next differs => rw [Store.readRecord_readable readable, record, if_pos differs]
      · next agrees =>
        refine (Store.readRecord_agreeing readable ?_).2 clean
        rw [record]
        by_contra not
        rw [not_or, Bool.not_eq_false] at not
        exact agrees not
    rw [← outcome]
    generalize (writeRecord i r s).store.readRecord i account = rd at *
    rw [← record]

end Sys2Proof.Machine
end

section
/-! The store port's arbiter, its hold and the drain of the backlog (section 8.4 and 8.5, R139, R141 to R143, R122). -/

namespace Sys2Proof.Machine

/-! ### The parts of the arbiter (R139) -/

section
variable {s v : State}

theorem drain_of_idle (idle : s.home.draining = false ∨ s.home.work ≠ none) : drain s = s := by
  unfold drain drainLoop
  refine if_neg ?_
  rcases idle with quiet | busy
  · simp [quiet]
  · simp [Option.isNone_iff_eq_none, busy]

theorem drain_of_account (account : s.accountAtWork = true) : drain s = s := by
  unfold drain drainLoop
  exact if_neg (by simp [account])

theorem refuseHome_of_noWork (none : s.home.work = none) : refuseHome s = s := by
  unfold refuseHome
  rw [none]

theorem grantStore_of_access {r : Requester} (access : s.store.access = some r) : grantStore s = s := by
  have requester : s.nextRequester = none := by
    unfold State.nextRequester
    rw [access]
    rfl
  unfold grantStore
  rw [requester]

theorem grantStore_of_none (none : s.nextRequester = none) : grantStore s = s := by
  unfold grantStore
  rw [none]

theorem grantStore_of_some {r : Requester} (next : s.nextRequester = some r) :
    grantStore s = { s with store := { s.store with
      access := some r
      migrationRequest := s.store.migrationRequest && decide (r ≠ .migration)
      scrubRequest := s.store.scrubRequest && decide (r ≠ .scrub) } } := by
  unfold grantStore
  rw [next]
  rfl

/-- Where no hold is entered and no work of the home is refused, the arbiter drains and grants. -/
theorem settleStore_of_calm (noEntry : s.store.hold ≠ .pending ∨ s.store.access ≠ none)
    (noRefusal : s.home.work = none ∨ s.store.hold ≠ .held) : settleStore s = grantStore (drain s) := by
  have stays : (if s.store.access.isNone && decide (s.store.hold = .pending) then enterHold s else s) = s := by
    refine if_neg ?_
    rcases noEntry with h | h
    · simp [h]
    · simp [Option.isNone_iff_eq_none, h]
  have refused : (if decide (s.store.hold = .held) && decide (s.store.access ≠ some .home) then refuseHome s else s) = s := by
    rcases noRefusal with h | h
    · rw [refuseHome_of_noWork h, ite_self]
    · exact if_neg (by simp [h])
  unfold settleStore
  simp only
  rw [stays, refused]

/-- With the store HELD and no access of the home, the home's waiting work is refused first. -/
theorem settleStore_of_held (held : s.store.hold = .held) (access : s.store.access ≠ some .home) :
    settleStore s = grantStore (drain (refuseHome s)) := by
  have stays : (if s.store.access.isNone && decide (s.store.hold = .pending) then enterHold s else s) = s :=
    if_neg (by simp [held])
  unfold settleStore
  simp only
  rw [stays, if_pos (by simp [held, access])]

theorem answerHolds_keeps (code : ResultCode) (n : Nat) (u : State) :
    (answerHolds code n u).home = u.home ∧ (answerHolds code n u).store = u.store := by
  induction n generalizing u with
  | zero => exact ⟨rfl, rfl⟩
  | succ n ih =>
    obtain ⟨home, store⟩ := ih (offerResult .hold code [] u)
    exact ⟨home.trans (by simp), store.trans (by simp)⟩

/-- A PENDING hold that finds no access is entered, and the arbiter goes on with the store HELD (R141). -/
theorem settleStore_of_entry (access : s.store.access = none) (pending : s.store.hold = .pending)
    (hv : v = answerHolds .done s.store.waitingHolds
      { s with store := { s.store with hold := .held, holdTimer := some 10, waitingHolds := 0 } }) :
    settleStore s = settleStore v ∧ v.home = s.home ∧ v.store.hold = .held ∧ v.store.access = none := by
  have kept := answerHolds_keeps .done s.store.waitingHolds
    { s with store := { s.store with hold := .held, holdTimer := some 10, waitingHolds := 0 } }
  rw [← hv] at kept
  obtain ⟨home, store⟩ := kept
  have held : v.store.hold = .held := by rw [store]
  have free : v.store.access = none := by rw [store]; exact access
  refine ⟨?_, home, held, free⟩
  have entered : (if s.store.access.isNone && decide (s.store.hold = .pending) then enterHold s else s) = v :=
    (if_pos (by simp [access, pending])).trans hv.symm
  rw [settleStore_of_held held (by rw [free]; exact nofun)]
  unfold settleStore
  simp only
  rw [entered, if_pos (by simp [held, free])]

/-- Work refused by HELD leaves the home without work, and the arbiter goes on from there. -/
theorem settleStore_of_refused (held : v.store.hold = .held) (free : v.store.access = none) {x : State} (refused : refuseHome v = x)
    (idle : x.home.work = none) (store : x.store = v.store) : settleStore v = settleStore x := by
  rw [settleStore_of_held held (by rw [free]; exact nofun), refused,
    settleStore_of_calm (.inl (by rw [store, held]; exact nofun)) (.inl idle)]

theorem finishClaim_keeps (u : State) : (finishClaim u).home.work = none ∧ (finishClaim u).store = u.store := by
  rw [finishClaim_eq]
  generalize u.home.list.filter (fun e => e.expiryPutOff && decide (e.silence = 0)) = gone
  obtain ⟨store, home⟩ := foldl_orphanGone gone { u with
    home := { u.home with work := none, list := u.home.list.map (fun e => { e with expiryPutOff := false }) } }
  exact ⟨by rw [home], store⟩

theorem Home.backlogged_keeps (g : Home) (h : Handle) (a t : Nat) (f : Bool) : g.backlogged h a t f = { g with backlog := (g.backlogged h a t f).backlog } := by
  unfold Home.backlogged
  split <;> rfl

end

/-! ### The drain (R122) -/

section
variable {s base : State} {b : BacklogEntry} {rest : List BacklogEntry} {e : HomeEntry}

theorem drain_of_empty (draining : s.home.draining = true) (idle : s.home.work = none) (noAccount : s.accountAtWork = false)
    (empty : s.home.backlog = []) : drain s = { s with home := { s.home with draining := false } } := by
  unfold drain drainLoop
  rw [if_pos (by simp [draining, idle, noAccount]), empty] <;> rfl

theorem drain_of_head (draining : s.home.draining = true) (idle : s.home.work = none) (noAccount : s.accountAtWork = false)
    (head : s.home.backlog = b :: rest) :
    drain s = match s.home.find b.handle with
      | none => drainLoop (rest.length + 1) (answerUnknown b.handle b.account b.total { s with home := { s.home with backlog := rest } })
      | some e =>
        if s.store.hold = .held then { s with home := { s.home with draining := false } }
        else if s.needsStore e b.total then
          (noteCharge e b.final s).setHome { (noteCharge e b.final s).home with
            work := some (.charge b.handle e.account b.total b.final true) }
        else drainLoop (rest.length + 1) ((applyAside e b.total b.final (noteCharge e b.final s)).setHome
          { (applyAside e b.total b.final (noteCharge e b.final s)).home with backlog := rest }) := by
  unfold drain
  rw [head, List.length_cons, drainLoop, if_pos (by simp [draining, idle, noAccount]), head] <;> rfl

/-- The drain's next turn, whole: the rest of `settleStore` after an entry that needed no access. -/
theorem settleStore_drained {x : State} (calm : x.store.hold ≠ .pending ∨ x.store.access ≠ none) (idle : x.home.work = none)
    (backlog : x.home.backlog = rest) : grantStore (drainLoop (rest.length + 1) x) = settleStore x := by
  rw [settleStore_of_calm calm (.inl idle)]
  unfold drain
  rw [backlog]

theorem answerUnknown_keeps (h : Handle) (a t : Nat) (u : State) :
    (answerUnknown h a t u).home = u.home ∧ (answerUnknown h a t u).store = u.store := by
  unfold answerUnknown
  split
  · exact ⟨rfl, rfl⟩
  · exact ⟨by simp, by simp⟩

theorem settleEntry_work (h : Handle) (t : Nat) (f : Bool) (u : State) :
    (settleEntry h t f u).home.work = u.home.work ∧ (settleEntry h t f u).store = u.store := by
  cases f
  · exact ⟨rfl, rfl⟩
  · exact ⟨rfl, rfl⟩

theorem addHeld_keeps_work (a : Nat) (h : Option Handle) (c : Nat) (u : State) :
    (addHeld a h c u).home.work = u.home.work ∧ (addHeld a h c u).store = u.store := by
  refine ⟨?_, by simp⟩
  unfold addHeld addUnbilled
  split
  · rfl
  · simp only
    split
    · rfl
    · rw [(logFault_keeps _ _ _).2.2.1]
      rfl

theorem noteCharge_work (e : HomeEntry) (final : Bool) (u : State) : (noteCharge e final u).home.work = u.home.work := by
  unfold noteCharge
  simp only
  split
  · rw [rewriteGrant_home]
    rfl
  · rfl

/-- The home's drain at a head whose entry stands, the store not HELD (R122). -/
theorem settleStore_of_found (draining : s.home.draining = true) (idle : s.home.work = none) (noAccount : s.accountAtWork = false)
    (calm : s.store.hold ≠ .pending ∨ s.store.access ≠ none) (head : s.home.backlog = b :: rest)
    (found : s.home.find b.handle = some e) (free : s.store.hold ≠ .held) {v : State} (hv : v = noteCharge e b.final s) :
    settleStore s = if s.needsStore e b.total then
        settleStore (v.setHome { v.home with work := some (.charge b.handle e.account b.total b.final true) })
      else settleStore ((applyAside e b.total b.final v).setHome { (applyAside e b.total b.final v).home with backlog := rest }) := by
  obtain ⟨store, -, -⟩ := noteCharge_kept e b.final s
  have work := noteCharge_work e b.final s
  rw [← hv] at store work
  rw [settleStore_of_calm calm (.inl idle), drain_of_head draining idle noAccount head, found]
  simp only
  rw [if_neg free, ← hv]
  split
  · rw [settleStore_of_calm (by simp only [State.setHome_store, store]; exact calm) (.inr (by simp only [State.setHome_store, store]; exact free)),
      drain_of_idle (.inr (by exact nofun))]
  · have kept : (applyAside e b.total b.final v).home.work = none ∧ (applyAside e b.total b.final v).store = s.store := by
      unfold applyAside
      obtain ⟨settledWork, settledStore⟩ := settleEntry_work e.handle b.total b.final
        (if e.applied < b.total then addHeld e.account (some e.handle) (b.total - e.applied) v else v)
      rw [settledWork, settledStore]
      split
      · obtain ⟨heldWork, heldStore⟩ := addHeld_keeps_work e.account (some e.handle) (b.total - e.applied) v
        exact ⟨heldWork.trans (work.trans idle), heldStore.trans store⟩
      · exact ⟨work.trans idle, store⟩
    exact settleStore_drained (by simp only [State.setHome_store, kept.2]; exact calm) kept.1 rfl

end

theorem accountAtWork_of_none {s : State} (none : s.store.hostWork = none) : s.accountAtWork = false := by
  unfold State.accountAtWork
  rw [none]

theorem accountAtWork_of_account {s : State} {w : HostWork} (work : s.store.hostWork = some w) (noProbe : ∀ n, w ≠ .probe n)
    (noFlip : ∀ n mask, w ≠ .flip n mask) : s.accountAtWork = true := by
  unfold State.accountAtWork
  rw [work]
  cases w with
  | probe n => exact absurd rfl (noProbe n)
  | flip n mask => exact absurd rfl (noFlip n mask)
  | _ => rfl

/-- Settles O37: the grant by the requests, the hold entered, the drain by the head of the backlog. -/
theorem arbiterGrantsInOrder : Obligations.ArbiterGrantsInOrder := by
  refine ⟨fun s quiet => ⟨fun r access free => ?_, fun access free => ?_, fun held idle => ⟨fun access host => ?_, fun stuck => ?_⟩⟩,
    fun s v access pending hv => ?_, fun s draining idle calm => ⟨fun w work noProbe noFlip access => ?_, fun host b rest base => ?_⟩,
    fun code s => ⟨rfl, fun n => rfl⟩⟩
  · rw [settleStore_of_calm (.inr (by rw [access]; exact nofun)) (.inr free), drain_of_idle quiet, grantStore_of_access access]
  · have notPending : s.store.hold ≠ .pending := by rw [free]; exact nofun
    have notHeld : s.store.hold ≠ .held := by rw [free]; exact nofun
    have granted : settleStore s = grantStore s := by
      rw [settleStore_of_calm (.inl notPending) (.inr notHeld), drain_of_idle quiet]
    rw [granted]
    have next : s.nextRequester =
        if s.home.work.isSome then some .home else if s.store.hostWork.isSome then some .host
        else if s.store.migrationRequest then some .migration else if s.store.scrubRequest then some .scrub else none := by
      unfold State.nextRequester
      rw [access, free] <;> rfl
    refine ⟨fun work => ?_, fun work host => ?_, fun work host migration => ?_, fun work host migration scrub => ?_,
      fun work host migration scrub => ?_⟩
    · rw [grantStore_of_some (next.trans (if_pos (Option.isSome_iff_ne_none.2 work)))]
      simp
    · rw [grantStore_of_some (next.trans (by simp [work, Option.isSome_iff_ne_none.2 host]; rfl))]
      simp
    · rw [grantStore_of_some (next.trans (by simp [work, host, migration]; rfl))]
      simp
    · rw [grantStore_of_some (next.trans (by simp [work, host, migration, scrub]; rfl))]
      simp [migration]
    · exact grantStore_of_none (next.trans (by simp [work, host, migration, scrub]))
  · have next : s.nextRequester = some .host := by
      unfold State.nextRequester
      rw [access, held]
      simp [Option.isSome_iff_ne_none.2 host]
    rw [settleStore_of_calm (.inl (by rw [held]; exact nofun)) (.inl idle), drain_of_idle quiet, grantStore_of_some next]
    simp
  · rw [settleStore_of_calm (.inl (by rw [held]; exact nofun)) (.inl idle), drain_of_idle quiet]
    refine grantStore_of_none ?_
    unfold State.nextRequester
    rcases stuck with access | host
    · rw [if_pos (Option.isSome_iff_ne_none.2 access)]
    · simp [held, host]
  · obtain ⟨entered, home, held, free⟩ := settleStore_of_entry access pending hv
    refine ⟨fun _ => entered, fun c work => ?_, fun h a total final work => ⟨fun absent => ?_, fun present => ?_⟩,
      fun h a total final work => ?_⟩
    · refine entered.trans (settleStore_of_refused held free (x := finishClaim (offerClassOne c.handle.station
        (.deny { handle := c.handle, account := c.account, reason := .homeBusy }) v)) ?_ (finishClaim_keeps _).1 ?_)
      · unfold refuseHome
        rw [home, work] <;> rfl
      · rw [(finishClaim_keeps _).2]
        simp
    · refine entered.trans (settleStore_of_refused held free ?_ rfl rfl)
      unfold refuseHome
      rw [home, work]
      simp only
      rw [Home.backlogged_new absent] <;> rfl
    · refine entered.trans (settleStore_of_refused held free ?_ rfl rfl)
      unfold refuseHome
      rw [home, work]
      simp only
      rw [Home.backlogged_again present] <;> rfl
    · refine entered.trans (settleStore_of_refused held free ?_ rfl rfl)
      unfold refuseHome
      rw [home, work] <;> rfl
  · obtain ⟨r, granted⟩ := Option.ne_none_iff_exists'.1 access
    rw [settleStore_of_calm calm (.inl idle), drain_of_account (accountAtWork_of_account work noProbe noFlip), grantStore_of_access granted]
  · have noAccount := accountAtWork_of_none host
    refine ⟨fun empty => ?_, fun head hb => ⟨fun absent => ?_, fun e heard v found hh hv => ⟨fun held => ?_, fun free stale x hx => ?_,
      fun free fresh listed x hx => ?_, fun free fresh unlisted => ?_⟩⟩⟩
    · rw [settleStore_of_calm calm (.inl idle), drain_of_empty draining idle noAccount empty,
        settleStore_of_calm (by exact calm) (.inl (by exact idle)), drain_of_idle (.inl rfl)]
    · have answered : settleStore s = settleStore (answerUnknown b.handle b.account b.total base) := by
        obtain ⟨homeKept, storeKept⟩ := answerUnknown_keeps b.handle b.account b.total base
        rw [settleStore_of_calm calm (.inl idle), drain_of_head draining idle noAccount head, absent]
        simp only
        rw [← hb]
        refine settleStore_drained ?_ ?_ ?_
        · rw [storeKept, hb]
          exact calm
        · rw [homeKept, hb]
          exact idle
        · rw [homeKept, hb]
      rw [answered]
      unfold answerUnknown
      exact ⟨fun zero => by rw [if_pos zero], fun more => by rw [if_neg (by omega)]⟩
    · rw [settleStore_of_calm calm (.inl idle), drain_of_head draining idle noAccount head, found]
      simp only
      rw [if_pos held, settleStore_of_calm (by exact calm) (.inl (by exact idle)), drain_of_idle (.inl rfl)]
    all_goals
      have noted : v = noteCharge e b.final s := by
        rw [noteCharge_eq e b.final s hh, hv]
        exact if_congr and_comm rfl rfl
      rw [settleStore_of_found draining idle noAccount calm head found free noted]
    · rw [if_neg (by rw [needsStore_iff]; omega), hx]
      unfold applyAside
      rw [if_neg (by omega), Home.find_handle found]
      rfl
    · rw [if_neg (by rw [needsStore_iff, listed]; exact fun h => nomatch h.2), hx]
      unfold applyAside
      rw [if_pos fresh, Home.find_handle found]
      rfl
    · rw [if_pos ((needsStore_iff ..).2 ⟨fresh, unlisted⟩)]
      rfl

end Sys2Proof.Machine
end

section
/-! HOLD and RELEASE, the scrub, STORE PROBE and STORE FLIP, SPARE SET and the migration (R141 to R147, R153 to R156). -/

namespace Sys2Proof.Machine

/-! ### HOLD and RELEASE (R141, R142, R143) -/

section
variable {s : State} {b : List Byte}

theorem State.inService_of_ne (out : s.station.state ≠ .inService) : s.inService = false :=
  Bool.eq_false_iff.2 (mt s.inService_iff.1 out)

theorem exec_hold_of_takesNow (h : s.takesNow (.command .hold b)) :
    exec (.hold b) s = .next (takeHold b (s.taking (.command .hold b))) :=
  congrArg Host.Outcome.next (takeHanded_of_takesNow (takeHold b) h)

theorem exec_release_of_takesNow (h : s.takesNow (.command .release b)) :
    exec (.release b) s = .next (takeRelease b (s.taking (.command .release b))) :=
  congrArg Host.Outcome.next (takeHanded_of_takesNow (takeRelease b) h)

theorem takeHold_of_notInService (out : s.station.state ≠ .inService) : takeHold b s = offerResult .hold .refusedState [] s :=
  if_pos (by rw [State.inService_of_ne out]; rfl)

theorem takeHold_of_badField (serving : s.station.state = .inService) (bad : b ≠ []) :
    takeHold b s = offerResult .hold .badField [] s :=
  (if_neg (by rw [s.inService_iff.2 serving]; exact nofun)).trans (if_pos bad)

theorem takeHold_of_low (serving : s.station.state = .inService) (low : s.supply.state = .low) :
    takeHold [] s = offerResult .hold .refusedState [] s := by
  unfold takeHold
  rw [if_neg (by rw [s.inService_iff.2 serving]; exact nofun), if_neg (by exact fun h => h rfl), if_pos low]

theorem takeHold_of_normal (serving : s.station.state = .inService) (normal : s.supply.state = .normal) :
    takeHold [] s = match s.store.hold with
      | .held => offerResult .hold .done [] s
      | .pending => s.setStore { s.store with waitingHolds := s.store.waitingHolds + 1 }
      | .notHeld =>
        if s.store.access.isSome then s.setStore { s.store with hold := .pending, waitingHolds := s.store.waitingHolds + 1 }
        else offerResult .hold .done [] (s.setStore { s.store with hold := .held, holdTimer := some 10 }) := by
  unfold takeHold
  rw [if_neg (by rw [s.inService_iff.2 serving]; exact nofun), if_neg (by exact fun h => h rfl), if_neg (by rw [normal]; exact nofun)] <;> rfl

theorem takeRelease_of_notInService (out : s.station.state ≠ .inService) :
    takeRelease b s = offerResult .release .refusedState [] s :=
  if_pos (by rw [State.inService_of_ne out]; rfl)

theorem takeRelease_of_badField (serving : s.station.state = .inService) (bad : b ≠ []) :
    takeRelease b s = offerResult .release .badField [] s :=
  (if_neg (by rw [s.inService_iff.2 serving]; exact nofun)).trans (if_pos bad)

theorem takeRelease_of_emptyBody (serving : s.station.state = .inService) :
    takeRelease [] s = if s.store.hold = .held then offerResult .release .done [] (endHold s)
      else offerResult .release .refusedState [] s := by
  unfold takeRelease
  rw [if_neg (by rw [s.inService_iff.2 serving]; exact nofun), if_neg (by exact fun h => h rfl)]

theorem endHold_eq {v : State} (store : v.store = s.store) (home : v.home = s.home) :
    endHold v = settleStore { v with store := { s.store with hold := .notHeld, holdTimer := none },
                                     home := { s.home with draining := !s.home.backlog.isEmpty } } := by
  rw [← store, ← home]
  rfl

end

/-- Settles O38, by the station's state, the body, the supply and the hold. -/
theorem holdAndRelease : Obligations.HoldAndRelease := by
  refine fun s => ⟨fun b u takes hu => ?_, fun b u ended takes hu hended => ?_, fun v running held timer hv => ?_, fun waiting => ?_⟩
  · have station : u.station = s.station := by rw [hu]; rfl
    have supply : u.supply = s.supply := by rw [hu]; rfl
    have store : u.store = s.store := by rw [hu]; rfl
    rw [exec_hold_of_takesNow takes, ← hu, ← station, ← supply, ← store]
    refine ⟨fun out => by rw [takeHold_of_notInService out], fun serving bad => by rw [takeHold_of_badField serving bad], ?_, ?_⟩
    · rintro serving rfl low
      rw [takeHold_of_low serving low]
    · rintro serving rfl normal
      rw [takeHold_of_normal serving normal]
      refine ⟨fun free access => ?_, fun waits => ?_, fun held => by rw [held]⟩
      · rw [free]
        simp only
        rw [access]
        rfl
      · rcases waits with ⟨free, access⟩ | pending
        · rw [free]
          simp only
          rw [if_pos (Option.isSome_iff_ne_none.2 access)]
          rfl
        · rw [pending]
          simp only [← pending]
          rfl
  · have station : u.station = s.station := by rw [hu]; rfl
    have store : u.store = s.store := by rw [hu]; rfl
    have home : u.home = s.home := by rw [hu]; rfl
    rw [exec_release_of_takesNow takes, ← hu, ← station, ← store]
    refine ⟨fun out => by rw [takeRelease_of_notInService out], fun serving bad => by rw [takeRelease_of_badField serving bad], ?_, ?_⟩
    · rintro serving rfl free
      rw [takeRelease_of_emptyBody serving, if_neg free]
    · rintro serving rfl held
      rw [takeRelease_of_emptyBody serving, if_pos held, hended, endHold_eq store home]
  · have kept : v.store = s.store ∧ v.home = s.home := by
      rw [hv]
      exact ⟨by simp, by simp⟩
    change execHoldTimerExpiry s = _
    unfold execHoldTimerExpiry
    rw [awake_of_running running, if_pos ⟨held, by rw [timer]; rfl⟩, ← hv, endHold_eq kept.1 kept.2]
  · refine awake_of_unchanged (if_neg ?_)
    rintro ⟨-, due⟩
    exact waiting ((due_iff _).1 due)

end Sys2Proof.Machine
end

section
/-! The scrub, STORE PROBE and STORE FLIP, SPARE SET and the migration (R144 to R147, R153 to R156). -/

namespace Sys2Proof.Machine

/-! ### Scrub steps (R144, R145) and the counting of corrected words (R136, R137) -/

section
variable {s v : State} {n : Nat} {r : WordRead}

theorem setSegment_eq {α : Type} (t : Vector α 8) (g : Fin 8) (x : α) : setSegment t g.val x = t.set g x :=
  setIfInBounds_eq_set t g x

theorem exec_scrubStep (running : s.inReset = false) (access : s.store.access = some .scrub) (fits : s.store.scrubPointer < 2048) :
    exec .scrubStep s = .next (scrubAccess s).accessOver := by
  have words : s.accessWords = [s.store.scrubPointer] := by
    unfold State.accessWords
    rw [access]
  have effect : accessEffect s = scrubAccess s := by
    unfold accessEffect
    rw [access]
  change finishAccess .scrub s = _
  rw [finishAccess_of_words running access (by rw [words]; exact List.forall_mem_singleton.2 fits), effect]

/-- What the word's outcome brings before the pointer moves on (R145). -/
theorem scrubAccess_eq (hn : n = s.store.scrubPointer) (hr : r = s.store.decode n)
    (hv : v = if r.outcome = .uncorrectable then reportUncorrectable n (correctOnRead n r s) else correctOnRead n r s) :
    scrubAccess s = { v with store := { v.store with scrubPointer := (n + 1) % 2048, scrubTimerRunning := true } } := by
  subst hv hr hn
  rfl

theorem correctOnRead_of_corrected (corrected : r.outcome = .corrected) : correctOnRead n r s =
    countCorrected n { s with store := { s.store with words := s.store.words.write n (freshCode (s.store.mapping n) r.data) } } :=
  if_pos corrected

theorem correctOnRead_of_other (other : r.outcome ≠ .corrected) : correctOnRead n r s = s := if_neg other

theorem reportUncorrectable_of_home (inside : n / 4 < s.home.count) :
    reportUncorrectable n s = listAccount .storeUncorrectable (s.home.first + n / 4) n s := if_pos inside

theorem reportUncorrectable_of_outside (outside : s.home.count ≤ n / 4) : reportUncorrectable n s =
    logFault .storeUncorrectable { Subject.blank with segment := some (n / 256), word := some n } s := if_neg (Nat.not_lt.2 outside)

end

/-! ### The commands on words (R146, R147) -/

section
variable {s u : State} {b : List Byte} {n : Nat} {mask : StoredWord}

theorem exec_storeProbe_of_takesNow (h : s.takesNow (.command .storeProbe b)) :
    exec (.storeProbe b) s = .next (takeProbe b (s.taking (.command .storeProbe b))) :=
  congrArg Host.Outcome.next (takeHanded_of_takesNow (takeProbe b) h)

theorem exec_storeFlip_of_takesNow (h : s.takesNow (.command .storeFlip b)) :
    exec (.storeFlip b) s = .next (takeFlip b (s.taking (.command .storeFlip b))) :=
  congrArg Host.Outcome.next (takeHanded_of_takesNow (takeFlip b) h)

theorem probeOf_eq_none_iff : probeOf b = none ↔ b.length ≠ 2 ∨ 2047 < fieldOf b 0 2 := by
  unfold probeOf Config.storeWords
  split_ifs with fits <;> simp <;> omega

theorem flipOf_eq_none_iff : flipOf b = none ↔ b.length ≠ 7 ∨ 2047 < fieldOf b 0 2 := by
  unfold flipOf Config.storeWords
  split_ifs with fits <;> simp <;> omega

theorem probeOf_bytes (word : n < 2048) : probeOf (bytesOf 2 n) = some n := by
  have field : fieldOf (bytesOf 2 n) 0 2 = n := (fieldOf_bytesOf 2 n).trans (Nat.mod_eq_of_lt (by omega))
  rw [probeOf, length_bytesOf, field, if_pos ⟨rfl, word⟩]

theorem flipOf_bytes (word : n < 2048) : flipOf (bytesOf 2 n ++ bytesOf 5 mask.toNat) = some (n, mask) := by
  have number : fieldOf (bytesOf 2 n ++ bytesOf 5 mask.toNat) 0 2 = n := fieldOf_bytesOf_append.trans (Nat.mod_eq_of_lt (by omega))
  have bits : fieldOf (bytesOf 2 n ++ bytesOf 5 mask.toNat) 2 5 = mask.toNat :=
    (fieldOf_bytesOf_append_of_le le_rfl).trans ((fieldOf_bytesOf 5 _).trans (Nat.mod_eq_of_lt mask.isLt))
  rw [flipOf, number, bits, if_pos ⟨by simp, word⟩, BitVec.ofNat_toNat, BitVec.setWidth_eq]

/-- A command that needs a HELD store refused outside IN_SERVICE and while not HELD (R146, R147). -/
theorem needsHold (refused : u.station.state ≠ .inService ∨ u.store.hold ≠ .held) :
    (!u.inService || decide (u.store.hold ≠ .held)) = true := by
  rcases refused with out | free
  · rw [State.inService_of_ne out]
    rfl
  · rw [decide_eq_true free, Bool.or_true]

theorem hasHold (serving : u.station.state = .inService) (held : u.store.hold = .held) :
    ¬ (!u.inService || decide (u.store.hold ≠ .held)) = true := by
  rw [u.inService_iff.2 serving, held]
  exact nofun

theorem takeProbe_of_served (serving : u.station.state = .inService) (held : u.store.hold = .held) :
    takeProbe b u = match probeOf b with
      | none => offerResult .storeProbe .badField [] u
      | some n => requestHost (.probe n) u := by
  unfold takeProbe
  rw [if_neg (hasHold serving held)] <;> rfl

theorem takeFlip_of_served (serving : u.station.state = .inService) (held : u.store.hold = .held) :
    takeFlip b u = match flipOf b with
      | none => offerResult .storeFlip .badField [] u
      | some (n, mask) => requestHost (.flip n mask) u := by
  unfold takeFlip
  rw [if_neg (hasHold serving held)] <;> rfl

theorem readStored_code (mapping : Option Nat) (w : StoredWord) : (readStored mapping w).code = takenCode mapping w := by
  unfold readStored
  simp only
  split <;> rfl

theorem readStored_outcome (mapping : Option Nat) (w : StoredWord) : (readStored mapping w).outcome =
    outcomeOf (syndromeOf (takenCode mapping w)) (oddParity (takenCode mapping w)) := by
  unfold readStored
  simp only
  split <;> next h => exact h.symm

theorem spareCode_eq (entry : Option Nat) : spareCode entry = entry.getD 255 := by
  cases entry <;> rfl

theorem probeBody_eq (t : Store) (n : Nat) {c : StoredWord} (hc : c = takenCode (t.mapping n) (t.words.read n)) :
    probeBody t n = bytesOf 2 n ++ bytesOf 5 (t.words.read n).toNat ++ bytesOf 1 ((t.mapping n).getD 255) ++
      bytesOf 1 (syndromeOf c + (if oddParity c then 64 else 0)) ++ bytesOf 1 (outcomeOf (syndromeOf c) (oddParity c)).code := by
  unfold probeBody
  simp only
  rw [Store.decode, readStored_code, readStored_outcome, spareCode_eq, ← hc]

end

/-- Settles O39: the scrub's step by the word's outcome, the counting by the counter's rise, and the commands on words by the
checks and by what their accesses do. -/
theorem scrubProbeAndFlip : Obligations.ScrubProbeAndFlip := by
  refine ⟨fun s v n r running hn fits hr => ⟨fun timer => ?_, fun access hv => ?_⟩,
    fun n g s segment count u v hcount hu hv => ?_, fun s b => ⟨fun i kind u command takes hu => ?_, fun n mask c running access word hc => ?_⟩⟩
  · change execScrubTimerExpiry s = _
    unfold execScrubTimerExpiry
    rw [awake_of_running running, if_pos timer]
    rfl
  · rw [exec_scrubStep running access (hn ▸ fits)]
    refine congrArg (fun x => Host.Outcome.next (State.accessOver x)) (scrubAccess_eq hn hr ?_)
    rcases hv with ⟨clean, rfl⟩ | ⟨corrected, rfl⟩ | ⟨bad, inside, rfl⟩ | ⟨bad, outside, rfl⟩
    · rw [if_neg (by rw [clean]; exact nofun), correctOnRead_of_other (by rw [clean]; exact nofun)]
    · rw [if_neg (by rw [corrected]; exact nofun), correctOnRead_of_corrected corrected]
    · rw [if_pos bad, correctOnRead_of_other (by rw [bad]; exact nofun), reportUncorrectable_of_home inside]
    · rw [if_pos bad, correctOnRead_of_other (by rw [bad]; exact nofun), reportUncorrectable_of_outside outside]
  · have counted : holdAt 15 (s.store.corrected[g] + 1) = count := by rw [hcount, holdAt_eq_min]
    unfold countCorrected segmentOf
    rw [segment]
    simp only [perSegment_eq, setSegment_eq, counted]
    refine congrArg (logFault _ _) ?_
    rcases hv with ⟨below, eight, clear, rfl⟩ | ⟨not, rfl⟩
    · rw [if_pos ⟨below, eight, clear⟩, hu]
      rfl
    · rw [if_neg ?_, hu]
      · rfl
      · rintro ⟨below, eight, clear⟩
        rcases not with high | other | advised
        · omega
        · exact other eight
        · exact absurd (clear.symm.trans advised) nofun
  · have station : u.station = s.station := by rw [hu]; rfl
    have store : u.store = s.store := by rw [hu]; rfl
    rw [← station, ← store]
    rcases command with ⟨rfl, rfl⟩ | ⟨rfl, rfl⟩
    · rw [exec_storeProbe_of_takesNow takes, ← hu]
      refine ⟨fun refused => congrArg _ (if_pos (needsHold refused)), fun serving held => ?_⟩
      rw [takeProbe_of_served serving held]
      refine ⟨fun bad => ?_, fun n mask word => ⟨fun _ hb => ?_, nofun⟩⟩
      · rw [probeOf_eq_none_iff.2 bad]
      · rw [hb, probeOf_bytes word]
        rfl
    · rw [exec_storeFlip_of_takesNow takes, ← hu]
      refine ⟨fun refused => congrArg _ (if_pos (needsHold refused)), fun serving held => ?_⟩
      rw [takeFlip_of_served serving held]
      refine ⟨fun bad => ?_, fun n mask word => ⟨nofun, fun _ hb => ?_⟩⟩
      · rw [flipOf_eq_none_iff.2 bad]
      · rw [hb, flipOf_bytes word]
        rfl
  · have touched {w : HostWork} (work : s.store.hostWork = some w) (one : w = .probe n ∨ w = .flip n mask) :
        ∀ x ∈ s.accessWords, x < 2048 := by
      have words : s.accessWords = [n] := by
        unfold State.accessWords
        rw [access, work]
        rcases one with rfl | rfl <;> rfl
      rw [words]
      exact List.forall_mem_singleton.2 word
    refine ⟨fun work => ?_, fun work => ?_⟩
    · rw [exec_hostCommandAccessEnd running access work (touched work (.inl rfl))]
      have body := probeBody_eq s.store n hc
      change Host.Outcome.next (State.hostOver (offerReply .probeData (probeBody s.store n) s)) = _
      rw [body]
      generalize outcomeOf (syndromeOf c) (oddParity c) = o
      cases o <;> rfl
    · rw [exec_hostCommandAccessEnd running access work (touched work (.inr rfl))]
      rfl

/-! ### SPARE SET and the migration (R153 to R156) -/

section
variable {s u v w : State} {b : List Byte} {n : Nat} {r : WordRead} {m : Migration} {stored : StoredWord}

theorem exec_spareSet_of_takesNow (h : s.takesNow (.command .spareSet b)) :
    exec (.spareSet b) s = .next (takeSpareSet b (s.taking (.command .spareSet b))) :=
  congrArg Host.Outcome.next (takeHanded_of_takesNow (takeSpareSet b) h)

theorem spareSetOf_of_bad (bad : b.length ≠ 2 ∨ 7 < fieldOf b 0 1 ∨ 38 < fieldOf b 1 1 ∧ fieldOf b 1 1 ≠ 255) : spareSetOf b = none := by
  unfold spareSetOf
  split_ifs with length segment none position
  · omega
  · omega
  · rfl
  · rfl
  · rfl

theorem spareSetOf_bytes (g : Fin 8) {entry : Option Nat} (codes : ∀ p, entry = some p → p ≤ 38) :
    spareSetOf (bytesOf 1 g.val ++ bytesOf 1 (entry.getD 255)) = some (g, entry) := by
  have segment : fieldOf (bytesOf 1 g.val ++ bytesOf 1 (entry.getD 255)) 0 1 = g.val :=
    fieldOf_bytesOf_append.trans (Nat.mod_eq_of_lt (by omega))
  have small : entry.getD 255 < 256 := by
    cases entry with
    | none => decide
    | some p => have := codes p rfl; simp only [Option.getD_some]; omega
  have position : fieldOf (bytesOf 1 g.val ++ bytesOf 1 (entry.getD 255)) 1 1 = entry.getD 255 :=
    (fieldOf_bytesOf_append_of_le le_rfl).trans ((fieldOf_bytesOf 1 _).trans (Nat.mod_eq_of_lt small))
  unfold spareSetOf
  rw [if_pos (by simp)]
  simp only [segment, position, g.isLt, dif_pos]
  cases entry with
  | none => rfl
  | some p =>
    have code := codes p rfl
    simp only [Option.getD_some]
    rw [if_neg (by omega), if_pos code]

theorem takeSpareSet_of_notInService (out : s.station.state ≠ .inService) : takeSpareSet b s = offerResult .spareSet .refusedState [] s :=
  if_pos (by rw [State.inService_of_ne out]; rfl)

theorem takeSpareSet_of_inService (serving : s.station.state = .inService) :
    takeSpareSet b s = match spareSetOf b with
      | none => offerResult .spareSet .badField [] s
      | some (segment, position) =>
        if s.store.migration.isSome then offerResult .spareSet .busy [] s
        else
          s.setStore { s.store with
            migration := some { segment := segment, pendingEntry := position, pointer := 0, timerRunning := true } } := by
  unfold takeSpareSet
  rw [if_neg (by rw [s.inService_iff.2 serving]; exact nofun)] <;> rfl

theorem exec_migrationStep (running : s.inReset = false) (access : s.store.access = some .migration)
    (migrating : s.store.migration = some m) (fits : m.pointer < 256) :
    exec .migrationStep s = .next (migrationAccess m s).accessOver := by
  have words : s.accessWords = [m.word] := by
    unfold State.accessWords
    rw [access, migrating]
  have effect : accessEffect s = migrationAccess m s := by
    unfold accessEffect
    rw [access, migrating]
  have word : m.word < 2048 := by
    have := m.segment.isLt
    unfold Migration.word
    omega
  change finishAccess .migration s = _
  rw [finishAccess_of_words running access (by rw [words]; exact List.forall_mem_singleton.2 word), effect]

theorem countCorrected_spareMap (n : Nat) (s : State) : (countCorrected n s).store.spareMap = s.store.spareMap := by
  unfold countCorrected
  simp only
  rw [(logFault_keeps _ _ _).2.2.2.1]
  split
  · rw [(logFault_keeps _ _ _).2.2.2.1]
    rfl
  · rfl

/-- A migration step: the word written, then the pointer moved on or the migration completed (R155, R156). -/
theorem migrationAccess_eq (hn : n = m.word) (hr : r = readStored s.store.spareMap[m.segment] (s.store.words.read n))
    (hv : v = if r.outcome = .uncorrectable then reportUncorrectable n (if r.outcome = .corrected then countCorrected n s else s)
      else if r.outcome = .corrected then countCorrected n s else s)
    (hw : w = { v with store := { v.store with words := v.store.words.write n (m.written r) } }) :
    migrationAccess m s = if m.pointer + 1 < 256 then
        { w with store := { w.store with migration := some { m with pointer := m.pointer + 1, timerRunning := true } } }
      else completeMigration m w := by
  have mapping : perSegment s.store.spareMap none m.segment.val = s.store.spareMap[m.segment] := perSegment_eq _ _ _
  rw [← mapping, hn] at hr
  subst hw hv hr hn
  rfl

theorem Migration.written_of_readable (readable : r.outcome ≠ .uncorrectable) : m.written r = freshCode m.pendingEntry r.data := by
  unfold Migration.written
  split
  · next bad => exact absurd bad readable
  · rfl

theorem Migration.written_of_uncorrectable (bad : r.outcome = .uncorrectable) : m.written r = withSpare m.pendingEntry r.code := by
  unfold Migration.written
  rw [bad]

end

/-- Settles O40: SPARE SET by its checks, and a step by the word's outcome, up to the last word of the segment. -/
theorem spareSetAndMigration : Obligations.SpareSetAndMigration := by
  refine ⟨fun s => ⟨fun b u takes hu => ?_, fun m running migrating timer => ?_⟩,
    fun s v w m n r stored running access migrating fits hn hr hv hw => ?_⟩
  · have station : u.station = s.station := by rw [hu]; rfl
    have store : u.store = s.store := by rw [hu]; rfl
    rw [exec_spareSet_of_takesNow takes, ← hu, ← station, ← store]
    refine ⟨fun out => by rw [takeSpareSet_of_notInService out], fun serving => ⟨fun bad => ?_, fun g entry codes hb => ?_⟩⟩
    · rw [takeSpareSet_of_inService serving, spareSetOf_of_bad bad]
    · rw [takeSpareSet_of_inService serving, hb, spareSetOf_bytes g codes]
      refine ⟨fun migrating => ?_, fun free => ?_⟩
      · simp only
        rw [if_pos (Option.isSome_iff_ne_none.2 migrating)]
      · simp only
        rw [if_neg (by rw [free]; exact nofun)]
        rfl
  · change execMigrationStepTimerExpiry s = _
    unfold execMigrationStepTimerExpiry
    rw [awake_of_running running, migrating]
    simp only
    rw [if_pos timer]
    rfl
  · have word : n = m.word := hn
    have kept : v.store.words = s.store.words ∧ v.store.spareMap = s.store.spareMap ∧ m.written r = stored ∧
        v = if r.outcome = .uncorrectable then reportUncorrectable n (if r.outcome = .corrected then countCorrected n s else s)
          else if r.outcome = .corrected then countCorrected n s else s := by
      rcases hv with ⟨clean, rfl, rfl⟩ | ⟨corrected, rfl, rfl⟩ | ⟨bad, rfl, ⟨inside, rfl⟩ | ⟨outside, rfl⟩⟩
      · refine ⟨rfl, rfl, Migration.written_of_readable (by rw [clean]; exact nofun), ?_⟩
        rw [if_neg (by rw [clean]; exact nofun), if_neg (by rw [clean]; exact nofun)]
      · refine ⟨by simp, countCorrected_spareMap n s, Migration.written_of_readable (by rw [corrected]; exact nofun), ?_⟩
        rw [if_neg (by rw [corrected]; exact nofun), if_pos corrected]
      · refine ⟨by simp, by simp, Migration.written_of_uncorrectable bad, ?_⟩
        rw [if_pos bad, if_neg (by rw [bad]; exact nofun), reportUncorrectable_of_home inside]
      · refine ⟨by simp, by simp, Migration.written_of_uncorrectable bad, ?_⟩
        have segment : n / 256 = m.segment.val := by omega
        rw [if_pos bad, if_neg (by rw [bad]; exact nofun), reportUncorrectable_of_outside outside, segment]
    obtain ⟨words, spareMap, written, brought⟩ := kept
    have step := migrationAccess_eq (w := w) word hr brought (by rw [hw, words, written])
    rw [exec_migrationStep running access migrating fits, step]
    refine ⟨fun before => by rw [if_pos (by omega)], fun last => ?_⟩
    rw [if_neg (by omega)]
    unfold completeMigration
    have map : w.store.spareMap = s.store.spareMap := by rw [hw]; exact spareMap
    rw [spareCode_eq, ← map]
    rfl

end Sys2Proof.Machine
end

section
/-! Frames handed to the blocks (R165), turns and the start of a transmission (R166, R169). -/

namespace Sys2Proof.Machine

/-! ### Handing over (R165) -/

section
variable {destination source : Nat} {f : Handed} {s h : State}

theorem handOver_of_starting (starting : s.station.state = .starting) :
    handOver destination source f s = match f with
      | .command .statusRead _ => if destination = s.own ∧ source = 0 then hand f s else s
      | _ => s := by
  unfold handOver
  rw [starting] <;> rfl

theorem handOver_of_running (running : s.station.state = .awaitingConfig ∨ s.station.state = .inService) :
    handOver destination source f s =
      if isCommand f then
        if destination ≠ s.own ∧ destination ≠ 255 then s
        else if source ≠ 0 ∨ (destination = 255 ∧ broadcastable f = false) then
          logFault .commandRejected { Subject.blank with address := some source } s
        else hand f s
      else if s.someBlockTakes f then hand f s else s := by
  unfold handOver
  rcases running with state | state <;> rw [state]

theorem isCommand_iff (f : Handed) : isCommand f = true ↔ (∃ d, f = .data d) ∨ ∃ k b, f = .command k b := by
  cases f <;> simp [isCommand, Handed.toDecoder]

theorem broadcastable_iff (f : Handed) : broadcastable f = true ↔
    ∃ b, f = .command .configure b ∨ f = .command .time b ∨ f = .command .tariffLoad b := by
  cases f with
  | command k b => cases k <;> simp [broadcastable]
  | _ => simp [broadcastable]

/-- A frame between stations is handed over where some block takes it. -/
theorem handOver_of_stationFrame (running : s.station.state = .awaitingConfig ∨ s.station.state = .inService)
    (between : isCommand f = false) : handOver destination source f s = if s.someBlockTakes f then hand f s else s := by
  rw [handOver_of_running running, if_neg (Bool.eq_false_iff.1 between)]

end

/-- Settles O42, by the station's state, the kind, the destination and the source. -/
theorem framesHandedToTheirBlocks : Obligations.FramesHandedToTheirBlocks := by
  rintro destination source f s h rejected rfl rfl
  refine ⟨fun fault => ?_, fun starting => ?_, fun running => ⟨fun command => ?_, ?_, ?_, ?_, ?_, ?_, ?_⟩⟩
  · unfold handOver
    rw [fault]
  · rw [handOver_of_starting starting]
    refine ⟨?_, ?_⟩
    · rintro ⟨b, rfl⟩ mine zero
      exact if_pos ⟨mine, zero⟩
    · intro other
      split
      · next b =>
        refine if_neg ?_
        rintro ⟨mine, zero⟩
        rcases other with kind | away | source
        · exact kind b rfl
        · exact away mine
        · exact source zero
      · rfl
  · rw [handOver_of_running running, if_pos ((isCommand_iff f).2 command)]
    refine ⟨fun away notAll => if_pos ⟨away, notAll⟩, fun reached source => ?_, fun all zero kinds => ?_, fun zero reached => ?_⟩
    · rw [if_neg (by rintro ⟨away, notAll⟩; exact reached.elim away notAll), if_pos (.inl source)]
    · have single : broadcastable f = false := Bool.eq_false_iff.2 fun many => by
        obtain ⟨b, kind⟩ := (broadcastable_iff f).1 many
        obtain ⟨noConfigure, noTime, noTariff⟩ := kinds b
        rcases kind with configure | time | tariff
        · exact noConfigure configure
        · exact noTime time
        · exact noTariff tariff
      rw [if_neg (by rintro ⟨-, notAll⟩; exact notAll all), if_pos (.inr ⟨all, single⟩)]
    · rw [if_neg (by rintro ⟨away, notAll⟩; exact reached.elim (fun r => away r.1) (fun r => notAll r.1)), if_neg ?_]
      · rfl
      · rintro (source | ⟨all, single⟩)
        · exact source zero
        · rcases reached with ⟨-, notAll⟩ | ⟨-, many⟩
          · exact notAll all
          · exact absurd (((broadcastable_iff f).2 many).symm.trans single) nofun
  · rintro c rfl
    exact handOver_of_stationFrame running rfl
  · rintro d rfl
    exact handOver_of_stationFrame running rfl
  · rintro c rfl
    rw [handOver_of_stationFrame running rfl]
    exact if_congr (by simp [State.someBlockTakes]) rfl rfl
  · rintro c rfl
    rw [handOver_of_stationFrame running rfl]
    exact if_congr (by simp [State.someBlockTakes]) rfl rfl
  · rintro r rfl
    rw [handOver_of_stationFrame running rfl]
    exact if_congr (by simp [State.someBlockTakes]) rfl rfl
  · rintro (⟨a, g, rfl⟩ | ⟨a, d, rfl⟩ | ⟨a, t, rfl⟩)
    · exact handOver_of_stationFrame running rfl
    · exact handOver_of_stationFrame running rfl
    · exact handOver_of_stationFrame running rfl

/-! ### The entry that a transmission takes (R169) -/

section
variable {before after queue : List Entry} {e x : Entry}

theorem Payload.class_mem (p : Payload) : p.class ∈ [1, 2, 3, 4] := by
  cases p <;> simp [Payload.class]

theorem find_class {c : Nat} (waiting : ∀ x ∈ queue, x.inFlight = false) :
    queue.find? (fun e => !e.inFlight && decide (e.payload.class = c)) = queue.find? (fun e => decide (e.payload.class = c)) := by
  refine List.find?_congr fun x hx => ?_
  rw [waiting x hx]
  rfl

/-- The entry of the lowest class that joined first is the queue's head. -/
theorem headOf_of_split (waiting : ∀ x ∈ before ++ e :: after, x.inFlight = false)
    (earlier : ∀ x ∈ before, e.payload.class < x.payload.class) (later : ∀ x ∈ after, e.payload.class ≤ x.payload.class) :
    headOf (before ++ e :: after) = some e := by
  have none {c : Nat} (lower : c < e.payload.class) :
      (before ++ e :: after).find? (fun e => !e.inFlight && decide (e.payload.class = c)) = none := by
    rw [find_class waiting, List.find?_eq_none]
    intro x hx
    have : e.payload.class ≤ x.payload.class := by
      rcases List.mem_append.1 hx with hx | hx
      · exact (earlier x hx).le
      · rcases List.mem_cons.1 hx with rfl | hx
        · exact le_rfl
        · exact later x hx
    simp only [decide_eq_true_eq]
    omega
  have own : (before ++ e :: after).find? (fun x => !x.inFlight && decide (x.payload.class = e.payload.class)) = some e := by
    rw [find_class waiting, List.find?_append, List.find?_eq_none.2 fun x hx => ?_]
    · simp
    · have := earlier x hx
      simp only [decide_eq_true_eq]
      omega
  have class_mem := e.payload.class_mem
  unfold headOf
  simp only [List.mem_cons, List.not_mem_nil, or_false] at class_mem
  rcases class_mem with h | h | h | h <;> rw [h] at own none
  · simp [List.findSome?, own]
  · simp [List.findSome?, own, none (show 1 < 2 by decide)]
  · simp [List.findSome?, own, none (show 1 < 3 by decide), none (show 2 < 3 by decide)]
  · simp [List.findSome?, own, none (show 1 < 4 by decide), none (show 2 < 4 by decide), none (show 3 < 4 by decide)]

theorem replaceEntry_of_split (absent : e ∉ before) : replaceEntry e x (before ++ e :: after) = before ++ x :: after := by
  induction before with
  | nil => exact if_pos rfl
  | cons y before ih =>
    rw [List.mem_cons, not_or] at absent
    exact (if_neg (Ne.symm absent.1)).trans (congrArg (y :: ·) (ih absent.2))

end

/-! ### The start of a transmission (R166, R25, R87, R88) -/

section
variable {s : State} {slot : Nat} {before after : List Entry} {e : Entry}

theorem State.mayStart_iff (s : State) (slot : Nat) : s.mayStart slot = true ↔
    s.bus.idle = true ∧ s.bus.deferral = some (slot % 16) ∧ s.bus.handed = [] ∧ s.homeFree = true ∧ s.store.hostWork = none ∧
      s.station.state ≠ .strapFault ∧ ∀ x ∈ s.bus.queue, x.inFlight = false := by
  simp [State.mayStart, State.allTaken, and_assoc]

theorem State.homeFree_iff (s : State) : s.homeFree = true ↔
    s.home.work = none ∨ ∃ h a t f, s.home.work = some (.charge h a t f true) := by
  unfold State.homeFree
  cases s.home.work with
  | none => simp
  | some w => cases w <;> simp

/-- The queue as the start of `e` leaves it, with the bus taken. -/
def State.started (s : State) (before after : List Entry) (x : Entry) : State :=
  { s with bus := { s.bus with queue := before ++ x :: after, idle := false, deferral := none } }

theorem exec_transmissionStart (running : s.inReset = false) (may : s.mayStart slot = true) (queue : s.bus.queue = before ++ e :: after)
    (earlier : ∀ x ∈ before, e.payload.class < x.payload.class) (later : ∀ x ∈ after, e.payload.class ≤ x.payload.class) :
    exec (.transmissionStart slot) s = .next (noteStart e (s.started before after (e.start s))) := by
  obtain ⟨-, -, -, -, -, -, waiting⟩ := (s.mayStart_iff slot).1 may
  have absent : e ∉ before := fun mem => absurd (earlier e mem) (lt_irrefl _)
  change execTransmissionStart slot s = _
  unfold execTransmissionStart
  rw [awake_of_running running, if_pos may, queue, headOf_of_split (queue ▸ waiting) earlier later]
  simp only
  rw [replaceEntry_of_split absent]
  rfl

theorem Line.fill_of_noBreak {l : Line} (none : l.pendingBreak = none) :
    l.fill = { chars := l.rxRing.map RxChar.code, breakFlag := false, ringCleared := false } := by
  unfold Line.fill
  rw [none]

theorem Line.fill_of_break {l : Line} {p : Nat} (pending : l.pendingBreak = some p) :
    l.fill = { chars := (l.rxRing.take p).map RxChar.code, breakFlag := true, ringCleared := false } := by
  unfold Line.fill
  rw [pending]

theorem Entry.start_of_data {l : Fin 8} {h : Handle} {f : Option DataFill} (data : e.payload = .data l h f) (s : State) :
    e.start s = { e with inFlight := true, payload := .data l h (some s.lines[l].fill) } := by
  unfold Entry.start
  rw [data]

theorem Entry.start_of_tally {t : TallyBody} (tally : e.payload = .tally t) (s : State) :
    e.start s = { e with inFlight := true, payload := .tally { t with count := s.tally } } := by
  unfold Entry.start
  rw [tally]

theorem Entry.start_of_other (noData : ∀ l h f, e.payload ≠ .data l h f) (noTally : ∀ t, e.payload ≠ .tally t) (s : State) :
    e.start s = { e with inFlight := true } := by
  unfold Entry.start
  split
  · next l h f data => exact absurd data (noData l h f)
  · next t tally => exact absurd tally (noTally t)
  · rfl

theorem noteStart_of_other (noFinal : ∀ c k, e.payload ≠ .charge c (some k)) (noTally : ∀ t, e.payload ≠ .tally t) (s : State) :
    noteStart e s = s := by
  unfold noteStart
  split
  · next c k final => exact absurd final (noFinal c k)
  · next t tally => exact absurd tally (noTally t)
  · rfl

end

/-- Settles O43: the deferral count's arithmetic, the entry taken with what its kind fills, and each of the conditions that
keep a transmission from starting. -/
theorem turnsAndTransmissionStarts : Obligations.TurnsAndTransmissionStarts := by
  refine ⟨fun s running member => ⟨fun serving => ⟨deferralOf s.own s.bus.lastSender, ?_, ?_, ?_⟩, awake_of_running running⟩,
    fun slot s before after e u running idle turn serving handed host home waiting queue earlier later hu => ?_, fun slot s stopped => ?_⟩
  · unfold deferralOf
    omega
  · unfold deferralOf
    omega
  · change execBusIdle s = _
    unfold execBusIdle
    rw [awake_of_running running, if_neg serving]
  · have may : s.mayStart slot = true :=
      (s.mayStart_iff slot).2 ⟨idle, turn, handed, s.homeFree_iff.2 home, host, serving, waiting⟩
    rw [exec_transmissionStart running may queue earlier later]
    have started (p : Payload) : s.started before after { e with inFlight := true, payload := p } = u p := (hu p).symm
    refine ⟨fun c k final => ?_, fun t tally => ?_, fun l h f data => ?_, fun noFinal noTally noData => ?_⟩
    · have start := Entry.start_of_other (e := e) (by rw [final]; exact nofun) (by rw [final]; exact nofun) s
      rw [start, started e.payload]
      unfold noteStart
      rw [final]
      simp only
      rw [hu]
      rfl
    · rw [Entry.start_of_tally tally, started]
      unfold noteStart
      rw [tally]
      simp only
      rw [hu]
    · have noted (v : State) : noteStart e v = v := noteStart_of_other (by rw [data]; exact nofun) (by rw [data]; exact nofun) v
      rw [noted, Entry.start_of_data data, started]
      exact ⟨fun none => by rw [Line.fill_of_noBreak none], fun p pending => by rw [Line.fill_of_break pending]⟩
    · rw [noteStart_of_other noFinal noTally, Entry.start_of_other noData noTally, started e.payload]
  · refine awake_of_unchanged ?_
    split
    · next may =>
      obtain ⟨idle, turn, handed, home, host, serving, waiting⟩ := (s.mayStart_iff slot).1 may
      have empty : s.bus.queue = [] := by
        rcases stopped with h | h | h | h | h | ⟨c, h⟩ | ⟨x, a, t, f, h⟩ | ⟨x, mem, h⟩ | h
        · exact absurd (idle.symm.trans h) nofun
        · exact absurd turn h
        · exact absurd h serving
        · exact absurd handed h
        · exact absurd host h
        · rw [s.homeFree_iff, h] at home
          simp at home
        · rw [s.homeFree_iff, h] at home
          simp at home
        · exact absurd ((waiting x mem).symm.trans h) nofun
        · exact h
      rw [empty]
      rfl
    · rfl

end Sys2Proof.Machine
end

section
/-! The ends of a transmission (R167, R168, R171): the frame that has been sent, and the one that a mismatch stops or drops. -/

namespace Sys2Proof.Machine

/-! ### The entry in flight -/

section
variable {s u v : State} {before after : List Entry} {e : Entry}

theorem State.flying_of_split (queue : s.bus.queue = before ++ e :: after) (waiting : ∀ x ∈ before, x.inFlight = false)
    (flies : e.inFlight = true) : s.flying = some e := by
  unfold State.flying
  rw [queue, List.find?_append, List.find?_eq_none.2 (by simpa using waiting), Option.none_or, List.find?_cons_of_pos flies]

theorem State.landed_of_split (queue : s.bus.queue = before ++ e :: after) (waiting : ∀ x ∈ before, x.inFlight = false)
    (flies : e.inFlight = true) : s.landed = { s with bus := { s.bus with queue := before ++ after } } := by
  unfold State.landed
  rw [queue, List.eraseP_append_right _ (by simpa using waiting), List.eraseP_cons_of_pos flies]
  rfl

theorem State.flying_of_none (waiting : ∀ x ∈ s.bus.queue, x.inFlight = false) : s.flying = none :=
  List.find?_eq_none.2 (by simpa using waiting)

/-! ### What is sent (R171) -/

theorem exec_frameSent (running : s.inReset = false) (queue : s.bus.queue = before ++ e :: after)
    (waiting : ∀ x ∈ before, x.inFlight = false) (flies : e.inFlight = true)
    (hu : u = { s with bus := { s.bus with queue := before ++ after } }) :
    exec .frameSent s = .next (takePassed e.destination s.own e.payload.kindCode e.payload.body (offerFreed (tellSent e.payload u))) := by
  change execFrameSent s = _
  unfold execFrameSent
  rw [awake_of_running running, State.flying_of_split queue waiting flies]
  simp only
  rw [State.landed_of_split queue waiting flies, ← hu]

theorem tellSent_final {c : ChargeBody} {k : Fin 12} : tellSent (.charge c (some k)) u = releaseSlot k u := rfl

theorem tellSent_claim {c : ClaimBody} {k : Fin 12} {x : Session} (matched : u.matched c.handle = some (k, x)) (claiming : x.state = .claiming) :
    tellSent (.claim c) u = u.setSlot k { u.table.slots[k] with claimTimer := some 2 } := by
  change startClaimTimer c.handle u = _
  unfold startClaimTimer
  rw [matched]
  exact if_pos claiming

theorem tellSent_claim_of_other {c : ClaimBody} (other : ∀ k x, u.matched c.handle = some (k, x) → x.state ≠ .claiming) :
    tellSent (.claim c) u = u := by
  change startClaimTimer c.handle u = _
  unfold startClaimTimer
  split
  · next k x matched => exact if_neg (other k x matched)
  · rfl

theorem tellSent_data {l : Fin 8} {h : Handle} {f : DataFill} :
    tellSent (.data l h (some f)) u = if f.ringCleared then u else u.modLine l (Line.sent f) := rfl

theorem tellSent_of_other {p : Payload} (noFinal : ∀ c k, p ≠ .charge c (some k))
    (noClaim : ∀ c k x, p = .claim c → u.matched c.handle = some (k, x) → x.state ≠ .claiming)
    (noData : ∀ l h f, p = .data l h (some f) → f.ringCleared = true) : tellSent p u = u := by
  cases p with
  | claim c => exact tellSent_claim_of_other fun k x => noClaim c k x rfl
  | charge c o =>
    cases o with
    | none => rfl
    | some k => exact absurd rfl (noFinal c k)
  | data l h f =>
    cases f with
    | none => rfl
    | some f => rw [tellSent_data, if_pos (noData l h f rfl)]
  | _ => rfl

end

/-! ### A slot freed, and reserved at once for the context that awaits it (R87, R43) -/

/-- The places of a list from the lowest on: those below one of them, itself, and those above it. -/
theorem finRange_split {n : Nat} (k : Fin n) : ∃ below above : List (Fin n),
    List.finRange n = below ++ k :: above ∧ (∀ j ∈ below, j < k) ∧ ∀ j ∈ above, k < j := by
  obtain ⟨below, above, split⟩ := List.append_of_mem (List.mem_finRange k)
  have sorted := List.pairwise_lt_finRange n
  rw [split, List.pairwise_append, List.pairwise_cons] at sorted
  obtain ⟨-, ⟨higher, -⟩, lower⟩ := sorted
  exact ⟨below, above, split, fun j hj => lower j hj k List.mem_cons_self, higher⟩

section
variable {s : State} {k : Fin 12} {l : Fin 8} {d : Dialogue}

theorem State.awaiting_of_none
    (unawaited : ∀ (l : Fin 8) (d : Dialogue), s.lines[l].dialogue = some d → d.step = .slotWait → d.awaitedSlot ≠ some k) :
    s.awaiting k = none := by
  unfold State.awaiting
  refine List.findSome?_eq_none_iff.2 fun l _ => ?_
  split
  · next d dialogue => exact if_neg fun h => unawaited l d dialogue h.1 h.2
  · rfl

theorem State.awaiting_of_first (dialogue : s.lines[l].dialogue = some d) (waits : d.step = .slotWait) (slot : d.awaitedSlot = some k)
    (first : ∀ j : Fin 8, j < l → ∀ x : Dialogue, s.lines[j].dialogue = some x → x.step = .slotWait → x.awaitedSlot ≠ some k) :
    s.awaiting k = some (l, d) := by
  obtain ⟨below, above, split, lower, -⟩ := finRange_split l
  unfold State.awaiting allLines
  rw [List.findSome?_eq_some_iff]
  refine ⟨below, l, above, split, ?_, fun j hj => ?_⟩
  · rw [dialogue]
    exact if_pos ⟨waits, slot⟩
  · split
    · next x dialogue => exact if_neg fun h => first j (lower j hj) x dialogue h.1 h.2
    · rfl

end

/-- Settles O44: the entry in flight by what its payload tells the owner, and the release of a slot by who awaits it. -/
theorem sentFramesLeaveTheQueue : Obligations.SentFramesLeaveTheQueue := by
  refine ⟨fun s u v before after e running queue waiting flies hu hv => ?_, fun s waiting => ?_, fun k s u hu => ⟨fun none => ?_, ?_⟩⟩
  · rw [exec_frameSent running queue waiting flies hu]
    have matched (h : Handle) : u.matched h = s.matched h := by rw [hu]; rfl
    have told : tellSent e.payload u = v := by
      rcases hv with ⟨c, k, final, rfl⟩ | ⟨c, k, x, claim, found, claiming, rfl⟩ | ⟨l, h, f, data, kept, rfl⟩ | ⟨noFinal, noClaim, noData, rfl⟩
      · rw [final, tellSent_final]
      · rw [claim, tellSent_claim ((matched _).trans found) claiming, hu]
      · rw [data, tellSent_data, if_neg (by rw [kept]; exact nofun), hu]
        rfl
      · exact tellSent_of_other noFinal (fun c k x claim found => noClaim c k x claim ((matched _).symm.trans found)) noData
    rw [told]
  · change execFrameSent s = _
    refine awake_of_unchanged ?_
    rw [State.flying_of_none waiting]
  · unfold releaseSlot
    rw [State.awaiting_of_none none, hu]
    rfl
  · intro l d dialogue waits slot first
    unfold releaseSlot
    rw [State.awaiting_of_first dialogue waits slot first, hu]
    rfl

/-! ### The entry that a mismatch stops (R168) -/

section
variable {s v : State} {before after : List Entry} {e : Entry} {p : Payload}

theorem exec_readBackMismatch (running : s.inReset = false) (queue : s.bus.queue = before ++ e :: after)
    (waiting : ∀ x ∈ before, x.inFlight = false) (flies : e.inFlight = true) :
    exec .readBackMismatch s = .next (
      if e.mismatches + 1 < 8 then
        tellStopped e.payload { s with bus := { s.bus with queue :=
          before ++ { e with inFlight := false, mismatches := e.mismatches + 1, payload := e.payload.stopped s.home } :: after } }
      else offerFreed (tellDropped e.payload (logFault .busJam { Subject.blank with address := some e.destination }
        { s with bus := { s.bus with queue := before ++ after } }))) := by
  have absent : e ∉ before := fun mem => absurd ((waiting e mem).symm.trans flies) nofun
  change execReadBackMismatch s = _
  unfold execReadBackMismatch
  rw [awake_of_running running, State.flying_of_split queue waiting flies]
  simp only
  rw [State.landed_of_split queue waiting flies, queue, replaceEntry_of_split absent]
  rfl

theorem Payload.stopped_of_gone {g : GrantBody} {old : Handle} {list : Home} (names : g.oldHandle = some old)
    (gone : ∀ y ∈ list.list, y.handle = old → y.state = .moving → y.successor ≠ some g.handle) :
    (Payload.grant g).stopped list = .grant { g with oldHandle := none } := by
  simp only [Payload.stopped, names]
  refine if_neg ?_
  rw [List.any_eq_true]
  rintro ⟨y, mem, same⟩
  simp only [Bool.and_eq_true, decide_eq_true_eq] at same
  obtain ⟨⟨handle, moving⟩, successor⟩ := same
  exact gone y mem handle moving successor

theorem Payload.stopped_of_kept {g : GrantBody} {list : Home}
    (kept : ∀ old, g.oldHandle = some old → ∃ y ∈ list.list, y.handle = old ∧ y.state = .moving ∧ y.successor = some g.handle) :
    (Payload.grant g).stopped list = .grant g := by
  cases names : g.oldHandle with
  | none => simp only [Payload.stopped, names]
  | some old =>
    obtain ⟨y, mem, handle, moving, successor⟩ := kept old names
    simp only [Payload.stopped, names]
    exact if_pos (List.any_eq_true.2 ⟨y, mem, by simp [handle, moving, successor]⟩)

theorem Payload.stopped_of_other {list : Home} (noGrant : ∀ g, p ≠ .grant g) (noData : ∀ l h f, p ≠ .data l h f) : p.stopped list = p := by
  cases p with
  | grant g => exact absurd rfl (noGrant g)
  | data l h f => exact absurd rfl (noData l h f)
  | _ => rfl

theorem tellStopped_of_other (noCharge : ∀ c k, p ≠ .charge c k) (noCleared : ∀ l h f, p = .data l h (some f) → f.ringCleared = false) :
    tellStopped p v = v := by
  cases p with
  | charge c k => exact absurd rfl (noCharge c k)
  | data l h f =>
    cases f with
    | none => rfl
    | some f => exact if_neg (by rw [noCleared l h f rfl]; exact nofun)
  | _ => rfl

theorem tellDropped_of_other (noFinal : ∀ c k, p ≠ .charge c (some k))
    (noClaim : ∀ c k x, p = .claim c → v.matched c.handle = some (k, x) → x.state ≠ .claiming) : tellDropped p v = v := by
  cases p with
  | claim c =>
    change (match v.matched c.handle with | some (k, x) => if x.state = .claiming then homeSilent k v else v | none => v) = v
    split
    · next k x matched => exact if_neg (noClaim c k x rfl matched)
    · rfl
  | charge c o =>
    cases o with
    | none => rfl
    | some k => exact absurd rfl (noFinal c k)
  | _ => rfl

theorem tellDropped_claim {c : ClaimBody} {k : Fin 12} {x : Session} (matched : v.matched c.handle = some (k, x)) (claiming : x.state = .claiming) :
    tellDropped (.claim c) v = homeSilent k v := by
  simp only [tellDropped, matched]
  exact if_pos claiming

theorem homeSilent_of_session {k : Fin 12} {x : Session} (holds : v.table.slots[k].session = some x) :
    homeSilent k v = if x.abandoned then freeSlot k v else hangUpWith x.line .noResponse (freeSlot k v) := by
  unfold homeSilent
  rw [holds]

end

/-- Settles O45: the payload as the mismatch leaves it, and the owner's part below the eighth mismatch and at it. -/
theorem mismatchesStopOrDropTheEntry : Obligations.MismatchesStopOrDropTheEntry := by
  refine ⟨fun s before after e running queue waiting flies => ⟨fun few p v hp hv => ?_, fun many u hu => ?_⟩, fun s waiting => ?_⟩
  · have stopped : e.payload.stopped s.home = p := by
      rcases hp with ⟨g, old, grant, names, gone, rfl⟩ | ⟨g, grant, rfl, kept⟩ | ⟨l, h, f, data, rfl⟩ | ⟨noGrant, noData, rfl⟩
      · rw [grant, Payload.stopped_of_gone names gone]
      · rw [grant, Payload.stopped_of_kept kept]
      · rw [data]
        rfl
      · exact Payload.stopped_of_other noGrant noData
    rw [exec_readBackMismatch running queue waiting flies, if_pos few, stopped, ← hv]
    refine ⟨fun c k final => ?_, fun c charge => ⟨fun absent => ?_, fun k x found => ?_⟩, fun l h f data cleared others => ?_,
      fun noCharge noCleared => by rw [tellStopped_of_other noCharge noCleared]⟩
    · rw [final, hv]
      rfl
    · have matched : v.matched c.handle = none := by rw [hv]; exact absent
      rw [charge]
      change Host.Outcome.next (offerFinalFor c.handle v) = _
      unfold offerFinalFor
      rw [matched]
    · have matched : v.matched c.handle = some (k, x) := by rw [hv]; exact found
      rw [charge]
      change Host.Outcome.next (offerFinalFor c.handle v) = _
      unfold offerFinalFor
      rw [matched]
    · have emptied : p = .data l h none := by
        rw [← stopped, data]
        rfl
      have removed : v.removeFirst (Entry.dataOn l) = { s with bus := { s.bus with queue := before ++ after } } := by
        refine (removeFirst_of_split (s := v) (by rw [hv]) ?_ others).trans ?_
        · rw [emptied]
          simp [Entry.dataOn]
        · rw [hv]
          rfl
      rw [data, ← removed]
      exact congrArg Host.Outcome.next (if_pos cleared)
  · have table : u.table = s.table := by rw [hu]; simp
    have station : u.station = s.station := by rw [hu]; simp
    have matched (h : Handle) : u.matched h = s.matched h := State.matched_congr station (by rw [table])
    rw [exec_readBackMismatch running queue waiting flies, if_neg (by omega), ← hu]
    refine ⟨fun c k final => by rw [final]; rfl, fun c k x claim found claiming w hw => ?_, fun noFinal noClaim => ?_⟩
    · obtain ⟨-, holds⟩ := State.matched_eq_some_iff.1 found
      have freed : freeSlot k u = w := by rw [freeSlot_eq, table, hw]
      rw [claim, tellDropped_claim ((matched _).trans found) claiming, homeSilent_of_session (x := x) (by rw [table]; exact holds), freed]
      refine ⟨fun gone => by rw [if_pos gone], fun l stays line => ?_⟩
      rw [if_neg (by rw [stays]; exact nofun), line]
      rfl
    · rw [tellDropped_of_other noFinal fun c k x claim found => noClaim c k x claim ((matched _).symm.trans found)]
  · change execReadBackMismatch s = _
    refine awake_of_unchanged ?_
    rw [State.flying_of_none waiting]

end Sys2Proof.Machine
end

section
/-! Offers to the transmit queue, and the order in which a freed place is offered (R170, R171, R88). -/

namespace Sys2Proof.Machine

/-! ### Class-1 frames and replies (R170) -/

section
variable {s : State} {destination : Nat} {p : Payload} {before after : List Entry} {e : Entry}

theorem State.room_of_full (full : 24 ≤ s.bus.queue.length) : s.room = false :=
  Bool.eq_false_iff.2 (mt s.room_iff.1 (Nat.not_lt.2 full))

theorem offerClassOne_of_room (room : s.bus.queue.length < 24) : offerClassOne destination p s = s.queued destination p :=
  if_pos (s.room_iff.2 room)

theorem offerReply_of_room {kind : ReplyKind} {body : List Byte} (room : s.bus.queue.length < 24) :
    offerReply kind body s = s.queued 0 (.reply kind body) := if_pos (s.room_iff.2 room)

theorem offerReply_of_full {kind : ReplyKind} {body : List Byte} (full : 24 ≤ s.bus.queue.length) :
    offerReply kind body s = logFault .txQueueFull { Subject.blank with address := some 0 } s :=
  if_neg (by rw [State.room_of_full full]; exact nofun)

theorem offerClassOne_of_noData (full : 24 ≤ s.bus.queue.length)
    (noData : ∀ e ∈ s.bus.queue, Entry.isData e = true → e.inFlight = true) :
    offerClassOne destination p s = logFault .txQueueFull { Subject.blank with address := some destination } s := by
  have absent : s.bus.queue.any (fun e => e.isData && !e.inFlight) = false := by
    simpa using noData
  unfold offerClassOne
  rw [if_neg (by rw [State.room_of_full full]; exact nofun), if_neg (by rw [absent]; exact nofun)]
  rfl

theorem removeYoungest_of_split {q : Entry → Bool} (queue : s.bus.queue = before ++ e :: after) (picked : q e = true)
    (later : ∀ x ∈ after, q x = false) : s.removeYoungest q = s.setQueue (before ++ after) := by
  unfold State.removeYoungest
  rw [queue, List.reverse_append, List.reverse_cons, List.append_assoc, List.singleton_append,
    List.eraseP_append_right _ (by simpa using later), List.eraseP_cons_of_pos picked, List.reverse_append, List.reverse_reverse,
    List.reverse_reverse]

theorem offerClassOne_of_data (full : 24 ≤ s.bus.queue.length) (queue : s.bus.queue = before ++ e :: after)
    (data : Entry.isData e = true) (waits : e.inFlight = false) (later : ∀ x ∈ after, Entry.isData x = true → x.inFlight = true) :
    offerClassOne destination p s = offerFreed (s.setQueue (before ++ after ++
      [{ destination := destination, payload := p, inFlight := false, mismatches := 0 }])) := by
  have present : s.bus.queue.any (fun e => e.isData && !e.inFlight) = true := by
    rw [queue]
    simp [data, waits]
  unfold offerClassOne
  rw [if_neg (by rw [State.room_of_full full]; exact nofun), if_pos present,
    removeYoungest_of_split queue (by simp [data, waits]) (by simpa using later)]
  rfl

end

/-! ### A freed place (R171) -/

theorem foldl_of_unchanged {α β : Type} {f : β → α → β} {s : β} {l : List α} (unchanged : ∀ a ∈ l, f s a = s) : l.foldl f s = s := by
  induction l with
  | nil => rfl
  | cons a l ih =>
    rw [List.foldl_cons, unchanged a List.mem_cons_self]
    exact ih fun b hb => unchanged b (List.mem_cons_of_mem _ hb)

/-- Offers in order, of which those before one change nothing and those after it nothing more. -/
theorem foldl_finRange {β : Type} {n : Nat} {f : β → Fin n → β} {s t : β} (k : Fin n) (below : ∀ j, j < k → f s j = s)
    (own : f s k = t) (above : ∀ j, k < j → f t j = t) : (List.finRange n).foldl f s = t := by
  obtain ⟨first, last, split, lower, higher⟩ := finRange_split k
  rw [split, List.foldl_append, foldl_of_unchanged fun j hj => below j (lower j hj), List.foldl_cons, own,
    foldl_of_unchanged fun j hj => above j (higher j hj)]

section
variable {s t : State}

theorem offerFinal_of_noSession {k : Fin 12} (none : s.table.slots[k].session = none) : offerFinal k s = s := by
  unfold offerFinal
  rw [none]

/-- A slot without a waiting final CHARGE offers nothing. -/
theorem offerFinal_of_notWaiting {k : Fin 12}
    (quiet : ∀ y : Session, s.table.slots[k].session = some y → y.state = .ending → y.finalStatus ≠ some .waiting) : offerFinal k s = s := by
  cases holds : s.table.slots[k].session with
  | none => exact offerFinal_of_noSession holds
  | some y =>
    refine offerFinal_of_other holds ?_
    by_cases ending : y.state = .ending
    · exact .inr (quiet y holds ending)
    · exact .inl ending

theorem offerFinal_of_full {k : Fin 12} (full : 24 ≤ s.bus.queue.length)
    (absent : ∀ e ∈ s.bus.queue, Entry.chargesFor (s.handleAt k) e = false) : offerFinal k s = s := by
  cases holds : s.table.slots[k].session with
  | none => exact offerFinal_of_noSession holds
  | some y =>
    by_cases waits : y.state = .ending ∧ y.finalStatus = some .waiting
    · rw [offerFinal_of_waiting holds waits.1 waits.2, holdingCharge_of_none absent]
      exact if_neg (by rw [State.room_of_full full]; exact nofun)
    · refine offerFinal_of_other holds ?_
      by_contra both
      rw [not_or, not_not, not_not] at both
      exact waits both

theorem logWith_queue_of_full (n : Nat) (e : FaultEvent) (u : State) (full : 24 ≤ u.bus.queue.length) :
    (logWith n e u).bus.queue = u.bus.queue := by
  induction n generalizing e u with
  | zero => rfl
  | succ n ih =>
    have settled : (settlePermission { u with faults := u.faults.take e }).bus.queue = u.bus.queue := settlePermission_queue _
    unfold logWith
    simp only
    split
    · rw [if_neg (by rw [State.room_of_full (by rw [settled]; exact full)]; exact nofun)]
      exact (ih _ _ (by rw [settled]; exact full)).trans settled
    · exact settled

theorem offerOwedTally_queue_of_full (full : 24 ≤ s.bus.queue.length) : (offerOwedTally s).bus.queue = s.bus.queue := by
  unfold offerOwedTally offerTally
  split
  · split
    · split
      · rfl
      · rfl
      · rw [if_neg (by rw [State.room_of_full (by exact full)]; exact nofun)]
        exact logWith_queue_of_full _ _ _ full
    · rfl
  · rfl

theorem offerFreed_eq (s : State) :
    offerFreed s = (List.finRange 8).foldl (fun u l => offerData l u) (offerOwedTally ((List.finRange 12).foldl (fun u k => offerFinal k u) s)) := rfl

theorem foldl_offerData_of_full (full : 24 ≤ s.bus.queue.length) : (List.finRange 8).foldl (fun u l => offerData l u) s = s :=
  foldl_of_unchanged fun _ _ => offerData_of_noCondition (.inr (.inr full))

theorem foldl_offerFinal_of_notWaiting
    (quiet : ∀ (j : Fin 12) (y : Session), s.table.slots[j].session = some y → y.state = .ending → y.finalStatus ≠ some .waiting) :
    (List.finRange 12).foldl (fun u k => offerFinal k u) s = s :=
  foldl_of_unchanged fun k _ => offerFinal_of_notWaiting (quiet k)

theorem offerOwedTally_of_notOwed (notOwed : s.table.tallyOwed = false) : offerOwedTally s = s :=
  if_neg (by rw [notOwed]; exact nofun)

theorem offerOwedTally_of_owed (owed : s.table.tallyOwed = true) (serving : s.inService = true)
    (none : ∀ e ∈ s.bus.queue, Entry.isTally e = false) :
    offerOwedTally s = if s.room then joinTally { s with table := { s.table with tallyOwed := false } }
      else logQueueFull 255 { s with table := { s.table with tallyOwed := false } } := by
  unfold offerOwedTally
  rw [if_pos (by rw [owed, serving]; rfl), offerTally_of_none (by exact serving) (by exact none)]
  rfl

/-- The lowest waiting final CHARGE takes the one place, and the full queue refuses every later offer (R171). -/
theorem offerFreed_of_final {k : Fin 12} {x : Session} {cause : EndCause} (one : s.bus.queue.length = 23)
    (holds : s.table.slots[k].session = some x) (ending : x.state = .ending) (waits : x.finalStatus = some .waiting)
    (ends : x.endCause = some cause)
    (first : ∀ (j : Fin 12) (y : Session), j < k → s.table.slots[j].session = some y → y.state = .ending → y.finalStatus ≠ some .waiting)
    (none : ∀ e ∈ s.bus.queue, ∀ c o, e.payload ≠ .charge c o) :
    (offerFreed s).bus.queue = s.bus.queue ++ [Entry.fresh (x.home.getD 0)
      (.charge { handle := s.handleAt k, account := x.account, home := x.home.getD 0, total := x.total, endCause := some cause } (some k))] := by
  have noCharge (h : Handle) : ∀ e ∈ s.bus.queue, Entry.chargesFor h e = false := fun e he => by
    cases payload : e.payload with
    | charge c o => exact absurd payload (none e he c o)
    | _ => simp [Entry.chargesFor, payload]
  have own := offerFinal_of_room holds ending waits (by omega) (noCharge (s.handleAt k))
  have body : finalBody (s.handleAt k) x =
      { handle := s.handleAt k, account := x.account, home := x.home.getD 0, total := x.total, endCause := some cause } := by
    unfold finalBody
    rw [ends]
    rfl
  rw [body] at own
  have queue : (offerFinal k s).bus.queue = s.bus.queue ++ [Entry.fresh (x.home.getD 0)
      (.charge { handle := s.handleAt k, account := x.account, home := x.home.getD 0, total := x.total, endCause := some cause } (some k))] := by
    rw [own]
    rfl
  generalize ht : offerFinal k s = t at own queue
  have full : 24 ≤ t.bus.queue.length := by
    rw [queue]
    simp [one]
  have folded : (List.finRange 12).foldl (fun u k => offerFinal k u) s = t := by
    refine foldl_finRange k (fun j lower => offerFinal_of_notWaiting fun y => first j y lower) ht fun j higher => offerFinal_of_full full ?_
    intro e he
    rw [queue] at he
    rcases List.mem_append.1 he with he | he
    · exact noCharge _ e he
    · rw [List.mem_singleton.1 he]
      have other : s.handleAt k ≠ t.handleAt j := fun same => by
        have slots : k.val = j.val := congrArg Handle.slot same
        omega
      simpa [Entry.chargesFor, Entry.fresh] using other
  rw [offerFreed_eq, folded, foldl_offerData_of_full (by rw [offerOwedTally_queue_of_full full]; exact full),
    offerOwedTally_queue_of_full full, queue]

end

/-- Settles O46: the offers by the queue's room and what it holds, and a freed place by the three blocks in their order. -/
theorem offersAndFreedPlaces : Obligations.OffersAndFreedPlaces := by
  refine ⟨fun destination p kind body s => ⟨fun room => ⟨offerClassOne_of_room room, offerReply_of_room room⟩,
    fun full => ⟨offerReply_of_full full, offerClassOne_of_noData full, fun before after e queue data waits later =>
      offerClassOne_of_data full queue data waits later⟩⟩,
    fun s one => ⟨fun k x cause holds ending waits ends first none => offerFreed_of_final one holds ending waits ends first none,
      fun quiet => ⟨fun owed serving none => ?_, fun notOwed l k trigger slot absent first => ?_⟩⟩,
    fun s full owed serving none quiet => ?_⟩
  · have joined : offerOwedTally s = joinTally { s with table := { s.table with tallyOwed := false } } := by
      rw [offerOwedTally_of_owed owed serving none, if_pos (s.room_iff.2 (by omega))]
    have queue : (offerOwedTally s).bus.queue = s.bus.queue ++ [Entry.fresh 255 (.tally { count := s.tally, restart := s.table.restartDue })] := by
      rw [joined]
      rfl
    have full : 24 ≤ (offerOwedTally s).bus.queue.length := by
      rw [queue]
      simp [one]
    rw [offerFreed_eq, foldl_offerFinal_of_notWaiting quiet, foldl_offerData_of_full full, queue]
    rfl
  · rw [offerFreed_eq, foldl_offerFinal_of_notWaiting quiet, offerOwedTally_of_notOwed notOwed]
    refine foldl_finRange l (fun j lower => ?_) (offerData_of_condition slot trigger absent (by omega)) fun j _ => ?_
    · rcases first j lower with still | queued
      · exact offerData_of_noCondition (.inl still)
      · exact offerData_of_noCondition (.inr (.inl queued))
    · refine offerData_of_noCondition (.inr (.inr ?_))
      change 24 ≤ (s.bus.queue ++ [_]).length
      rw [List.length_append, one]
      exact le_rfl
  · have dropped : offerOwedTally s = logQueueFull 255 { s with table := { s.table with tallyOwed := false } } := by
      rw [offerOwedTally_of_owed owed serving none, if_neg (by rw [State.room_of_full full]; exact nofun)]
    rw [offerFreed_eq, foldl_offerFinal_of_notWaiting quiet,
      foldl_offerData_of_full (by rw [offerOwedTally_queue_of_full full]; exact full), dropped]
    rfl

end Sys2Proof.Machine
end

section
/-! Frames read back as sent (section 10.5, R163, R164): each body's fields lie one after the other, as `bytesOf` lays them out. -/

namespace Sys2Proof

/-! ### The frame (Formats, R163) -/

section
variable {destination source kind : Nat} {body : List Byte}

/-- The bytes of a frame before its check. -/
def frameHead (destination source kind : Nat) (body : List Byte) : List Byte :=
  bytesOf 1 destination ++ bytesOf 1 source ++ bytesOf 1 kind ++ bytesOf 1 body.length ++ body

theorem frameBytes_eq (destination source kind : Nat) (body : List Byte) : frameBytes destination source kind body =
    frameHead destination source kind body ++ bytesOf 2 (frameCheck (frameHead destination source kind body)).toNat := by
  simp [frameBytes, frameHead, bytesOf]

theorem length_frameHead : (frameHead destination source kind body).length = 4 + body.length := by
  simp [frameHead]
  omega

theorem length_frameBytes : (frameBytes destination source kind body).length = 6 + body.length := by
  rw [frameBytes_eq, List.length_append, length_frameHead, length_bytesOf]
  omega

theorem frameBytes_fields (hd : destination < 256) (hs : source < 256) (hk : kind < 256) (fits : body.length ≤ 40) :
    fieldOf (frameBytes destination source kind body) 0 1 = destination ∧ fieldOf (frameBytes destination source kind body) 1 1 = source ∧
      fieldOf (frameBytes destination source kind body) 2 1 = kind ∧ fieldOf (frameBytes destination source kind body) 3 1 = body.length := by
  rw [frameBytes_eq, frameHead]
  simp [fieldOf_bytesOf_append, fieldOf_bytesOf_append_of_le, Nat.mod_eq_of_lt hd, Nat.mod_eq_of_lt hs, Nat.mod_eq_of_lt hk,
    Nat.mod_eq_of_lt (show body.length < 256 by omega)]

theorem take_frameBytes : (frameBytes destination source kind body).take (4 + body.length) = frameHead destination source kind body := by
  rw [frameBytes_eq, List.take_left' length_frameHead]

theorem frameBytes_check : fieldOf (frameBytes destination source kind body) (4 + body.length) 2 =
    (frameCheck (frameHead destination source kind body)).toNat := by
  have small := (frameCheck (frameHead destination source kind body)).isLt
  rw [frameBytes_eq, fieldOf_append_of_le length_frameHead.le, length_frameHead, Nat.sub_self, fieldOf_bytesOf]
  exact Nat.mod_eq_of_lt small

theorem frameBytes_body : ((frameBytes destination source kind body).drop 4).take body.length = body := by
  have dropped : (frameBytes destination source kind body).drop 4 =
      body ++ bytesOf 2 (frameCheck (frameHead destination source kind body)).toNat := by
    rw [frameBytes_eq, frameHead, List.append_assoc, List.drop_left' (by simp)]
  rw [dropped, List.take_left' rfl]

theorem length_trainBits (bs : List Byte) : (trainBits bs).length = 10 * bs.length := by
  induction bs with
  | nil => rfl
  | cons b bs ih =>
    have unit : (false :: byteBits b ++ [true]).length = 10 := rfl
    change ((false :: byteBits b ++ [true]) ++ trainBits bs).length = _
    rw [List.length_append, ih, unit, List.length_cons]
    omega

end

/-! ### Bodies between stations -/

theorem Handle.bytes_eq (h : Handle) : h.bytes = bytesOf 1 h.station ++ (bytesOf 1 h.slot ++ bytesOf 1 h.generation) := by
  simp [Handle.bytes, bytesOf]

/-- The handle that stands at a place of a body. -/
theorem handleOf_append {h : Handle} (fits : h.wf = true) {front rest : List Byte} {n : Nat} (len : front.length = n) :
    handleOf (front ++ (h.bytes ++ rest)) n = h := by
  obtain ⟨station, slot, generation⟩ := (Handle.wf_iff h).1 fits
  subst len
  have moved (i : Nat) : fieldOf (front ++ (h.bytes ++ rest)) (front.length + i) 1 = fieldOf (h.bytes ++ rest) i 1 := by
    rw [fieldOf_append_of_le (Nat.le_add_right _ _), Nat.add_sub_cancel_left]
  have first : fieldOf (front ++ (h.bytes ++ rest)) front.length 1 = fieldOf (h.bytes ++ rest) 0 1 := moved 0
  rw [handleOf, first, moved, moved, Handle.bytes_eq]
  simp [fieldOf_bytesOf_append, fieldOf_bytesOf_append_of_le, Nat.mod_eq_of_lt station, Nat.mod_eq_of_lt slot, Nat.mod_eq_of_lt generation]

theorem handleOf_front {h : Handle} (fits : h.wf = true) (rest : List Byte) : handleOf (h.bytes ++ rest) 0 = h :=
  handleOf_append fits (front := []) rfl

theorem length_handleBytes (h : Handle) : h.bytes.length = 3 := rfl

/-- A field behind the handle with which a body begins. -/
theorem fieldOf_handle_append {h : Handle} {rest : List Byte} {start len : Nat} (past : 3 ≤ start) :
    fieldOf (h.bytes ++ rest) start len = fieldOf rest (start - 3) len := fieldOf_append_of_le past

theorem wf24_iff (n : Nat) : wf24 n = true ↔ n < 16777216 := decide_eq_true_iff

theorem fieldOf_three {n : Nat} (fits : wf24 n = true) (rest : List Byte) : fieldOf (bytesOf 3 n ++ rest) 0 3 = n :=
  fieldOf_bytesOf_append.trans (Nat.mod_eq_of_lt ((wf24_iff n).1 fits))

theorem fieldOf_one {n : Nat} (fits : n < 256) (rest : List Byte) : fieldOf (bytesOf 1 n ++ rest) 0 1 = n :=
  fieldOf_bytesOf_append.trans (Nat.mod_eq_of_lt fits)

theorem fieldOf_three_last {n : Nat} (fits : wf24 n = true) : fieldOf (bytesOf 3 n) 0 3 = n :=
  (fieldOf_bytesOf 3 n).trans (Nat.mod_eq_of_lt ((wf24_iff n).1 fits))

theorem fieldOf_one_last {n : Nat} (fits : n < 256) : fieldOf (bytesOf 1 n) 0 1 = n :=
  (fieldOf_bytesOf 1 n).trans (Nat.mod_eq_of_lt fits)

theorem claimOf_bytes {c : ClaimBody} (fits : c.wf = true) : claimOf c.bytes = some c := by
  simp only [ClaimBody.wf, Bool.and_eq_true, decide_eq_true_eq] at fits
  obtain ⟨⟨⟨⟨handle, account⟩, digest⟩, speedClass⟩, line⟩ := fits
  simp [claimOf, ClaimBody.bytes, length_handleBytes, handleOf_front handle, fieldOf_handle_append, fieldOf_bytesOf_append_of_le,
    fieldOf_three account, fieldOf_three digest, fieldOf_one speedClass, fieldOf_one_last line]

theorem grantOf_bytes {g : GrantBody} (fits : g.wf = true) : grantOf g.bytes = some g := by
  obtain ⟨handle, account, acctClass, oldHandle⟩ := g
  simp only [GrantBody.wf, Bool.and_eq_true, decide_eq_true_eq] at fits
  obtain ⟨⟨⟨handleFits, accountFits⟩, low⟩, oldFits⟩ := fits
  have classFits : acctClass < 256 := by omega
  cases oldHandle with
  | none =>
    simp [grantOf, GrantBody.bytes, length_handleBytes, handleOf_front handleFits, fieldOf_handle_append, fieldOf_bytesOf_append_of_le,
      fieldOf_three accountFits, fieldOf_one (show 0 < 256 by decide), fieldOf_one_last classFits, low]
  | some old =>
    have third := handleOf_append oldFits (rest := []) (n := 8)
      (front := handle.bytes ++ (bytesOf 3 account ++ (bytesOf 1 1 ++ bytesOf 1 acctClass))) (by simp [length_handleBytes])
    simp only [List.append_assoc, List.append_nil] at third
    simp [grantOf, GrantBody.bytes, length_handleBytes, handleOf_front handleFits, fieldOf_handle_append, fieldOf_bytesOf_append_of_le,
      fieldOf_three accountFits, fieldOf_one (show 1 < 256 by decide), fieldOf_one classFits, low, third]

theorem DenyReason.code_le (r : DenyReason) : r.code < 8 := by cases r <;> decide

theorem denyReasonOf_code (r : DenyReason) : denyReasonOf r.code = some r := by cases r <;> rfl

theorem EndCause.code_le (e : EndCause) : e.code < 11 := by cases e <;> decide

theorem endCauseOf_code (e : EndCause) : endCauseOf e.code = some e := by cases e <;> rfl

theorem commandKindOf_code (k : CommandKind) : commandKindOf k.code = some k := by cases k <;> rfl

theorem denyOf_bytes {d : DenyBody} (fits : d.wf = true) : denyOf d.bytes = some d := by
  simp only [DenyBody.wf, Bool.and_eq_true] at fits
  obtain ⟨handle, account⟩ := fits
  have code := d.reason.code_le
  simp [denyOf, DenyBody.bytes, length_handleBytes, handleOf_front handle, fieldOf_handle_append, fieldOf_bytesOf_append_of_le,
    fieldOf_three account, fieldOf_one_last (show d.reason.code < 256 by omega), denyReasonOf_code]

theorem chargeOf_bytes {c : ChargeBody} (fits : c.wf = true) : chargeOf c.bytes = some c := by
  obtain ⟨handle, account, home, total, endCause⟩ := c
  simp only [ChargeBody.wf, Bool.and_eq_true, decide_eq_true_eq] at fits
  obtain ⟨⟨⟨handleFits, accountFits⟩, homeFits⟩, totalFits⟩ := fits
  cases endCause with
  | none =>
    simp [chargeOf, ChargeBody.bytes, length_handleBytes, handleOf_front handleFits, fieldOf_handle_append, fieldOf_bytesOf_append_of_le,
      fieldOf_three accountFits, fieldOf_one homeFits, fieldOf_three totalFits, fieldOf_one_last (show 0 < 256 by decide)]
  | some e =>
    have code := e.code_le
    simp [chargeOf, ChargeBody.bytes, length_handleBytes, handleOf_front handleFits, fieldOf_handle_append, fieldOf_bytesOf_append_of_le,
      fieldOf_three accountFits, fieldOf_one homeFits, fieldOf_three totalFits, fieldOf_one (show 1 < 256 by decide),
      fieldOf_one_last (show e.code < 256 by omega), endCauseOf_code]

theorem cutoffOf_bytes {c : CutoffBody} (fits : c.wf = true) : cutoffOf c.bytes = some c := by
  simp only [CutoffBody.wf, wfBalance, Bool.and_eq_true, decide_eq_true_eq] at fits
  obtain ⟨⟨handle, account⟩, low, high⟩ := fits
  simp [cutoffOf, CutoffBody.bytes, balanceBytes, length_handleBytes, handleOf_front handle, fieldOf_handle_append, fieldOf_bytesOf_append_of_le,
    fieldOf_three account, fieldOf_three_last ((wf24_iff _).2 (unsigned24_lt c.balance)), signed24_unsigned24 low high]

theorem refuseOf_bytes {r : RefuseBody} (fits : r.wf = true) : refuseOf r.bytes = some r := by
  simp only [RefuseBody.wf, Bool.and_eq_true] at fits
  obtain ⟨⟨handle, account⟩, total⟩ := fits
  simp [refuseOf, RefuseBody.bytes, length_handleBytes, handleOf_front handle, fieldOf_handle_append, fieldOf_bytesOf_append_of_le,
    fieldOf_three account, fieldOf_three_last total]

theorem detachOf_bytes {d : DetachBody} (fits : d.wf = true) : detachOf d.bytes = some d := by
  simp only [DetachBody.wf, Bool.and_eq_true] at fits
  obtain ⟨handle, account⟩ := fits
  simp [detachOf, DetachBody.bytes, length_handleBytes, handleOf_front handle, fieldOf_handle_append, fieldOf_three_last account]

theorem tallyOf_bytes {t : TallyBody} (fits : t.wf = true) : tallyOf t.bytes = some t := by
  obtain ⟨count, restart⟩ := t
  have countFits : count < 256 := of_decide_eq_true fits
  have flag : restart.toNat < 256 := by have := restart.toNat_lt; omega
  have parity : decide (restart.toNat % 2 = 1) = restart := by cases restart <;> rfl
  simp [tallyOf, TallyBody.bytes, flagByte_eq_bytesOf, fieldOf_one countFits, fieldOf_bytesOf_append_of_le, fieldOf_one_last flag, parity]

theorem dataOf_bytes {d : DataBody} (fits : d.wf = true) : dataOf d.bytes = some d := by
  obtain ⟨handle, breakFlag, hangUpFlag, chars⟩ := d
  simp only [DataBody.wf, wfChar, Bool.and_eq_true, decide_eq_true_eq, List.all_eq_true] at fits
  obtain ⟨⟨handleFits, few⟩, seven⟩ := fits
  let flags := (if breakFlag then 1 else 0) + (if hangUpFlag then 2 else 0)
  have layout : (DataBody.mk handle breakFlag hangUpFlag chars).bytes =
      (handle.bytes ++ bytesOf 1 flags) ++ chars.map (BitVec.ofNat 8) := rfl
  have dropped : ((DataBody.mk handle breakFlag hangUpFlag chars).bytes).drop 4 = chars.map (BitVec.ofNat 8) := by
    rw [layout]
    exact List.drop_left' (by simp [length_handleBytes])
  have back : (chars.map (BitVec.ofNat 8)).map BitVec.toNat = chars := by
    rw [List.map_map]
    refine (List.map_congr_left fun c hc => ?_).trans (List.map_id chars)
    have := seven c hc
    simp only [Function.comp_apply, BitVec.toNat_ofNat, id]
    omega
  have flag : fieldOf ((DataBody.mk handle breakFlag hangUpFlag chars).bytes) 3 1 = flags := by
    rw [layout, List.append_assoc, fieldOf_handle_append le_rfl]
    refine fieldOf_one ?_ _
    cases breakFlag <;> cases hangUpFlag <;> decide
  have read : handleOf ((DataBody.mk handle breakFlag hangUpFlag chars).bytes) 0 = handle := by
    rw [layout, List.append_assoc]
    exact handleOf_front handleFits _
  have size : ((DataBody.mk handle breakFlag hangUpFlag chars).bytes).length = 4 + chars.length := by
    rw [layout]
    simp [length_handleBytes]
    omega
  have codes : (chars.map (BitVec.ofNat 8)).all (fun c => decide (c.toNat ≤ 127)) = true := by
    rw [List.all_eq_true]
    intro b hb
    obtain ⟨c, hc, rfl⟩ := List.mem_map.1 hb
    have := seven c hc
    simp only [BitVec.toNat_ofNat, decide_eq_true_eq]
    omega
  have breakRead : decide (flags % 2 = 1) = breakFlag := by cases breakFlag <;> cases hangUpFlag <;> decide
  have hangUpRead : decide (flags / 2 % 2 = 1) = hangUpFlag := by cases breakFlag <;> cases hangUpFlag <;> decide
  rw [dataOf, dropped, size, flag, read, back, if_pos ⟨by omega, by omega, codes⟩, breakRead, hangUpRead]

end Sys2Proof

namespace Sys2Proof.Machine

/-- Settles O47: the frame field by field, and each kind's body read back. -/
theorem framesReadBackAsSent : Obligations.FramesReadBackAsSent := by
  refine ⟨?_, fun source => ⟨fun c fits => ?_, fun g fits => ?_, fun d fits => ?_, fun c fits => ?_, fun c fits => ?_, fun r fits => ?_,
    fun d fits => ?_, fun t fits => ?_, fun d fits => ?_, fun k body => ?_⟩⟩
  · rintro destination source kind body bytes hd hs hk fits rfl
    obtain ⟨first, second, third, fourth⟩ := frameBytes_fields hd hs hk fits
    refine ⟨findingOf_of_passed fourth.symm fits length_frameBytes ?_, first, second, third, ?_, ?_⟩
    · rw [frameBytes_check, take_frameBytes]
    · rw [fourth, frameBytes_body]
    · rw [length_trainBits, length_frameBytes]
      omega
  · change readingOf Handed.claim (claimOf c.bytes) = _
    rw [claimOf_bytes fits]
    rfl
  · change readingOf (Handed.grant source) (grantOf g.bytes) = _
    rw [grantOf_bytes fits]
    rfl
  · change readingOf (Handed.deny source) (denyOf d.bytes) = _
    rw [denyOf_bytes fits]
    rfl
  · change readingOf Handed.charge (chargeOf c.bytes) = _
    rw [chargeOf_bytes fits]
    rfl
  · change readingOf Handed.cutoff (cutoffOf c.bytes) = _
    rw [cutoffOf_bytes fits]
    rfl
  · change readingOf Handed.refuse (refuseOf r.bytes) = _
    rw [refuseOf_bytes fits]
    rfl
  · change readingOf Handed.detach (detachOf d.bytes) = _
    rw [detachOf_bytes fits]
    rfl
  · change readingOf (Handed.tally source) (tallyOf t.bytes) = _
    rw [tallyOf_bytes fits]
    rfl
  · change readingOf Handed.data (dataOf d.bytes) = _
    rw [dataOf_bytes fits]
    rfl
  · cases k <;> rfl

end Sys2Proof.Machine
end

section
/-! No command's effect changes the queue of the commands that wait (R55, log entry 1): one lemma for each operation, in the
order of the model. Those of `Laws/Ops` say it for the offers, the fault log and the hang-ups. -/

namespace Sys2Proof.Machine

section
variable (s : State)

theorem foldl_pending {α : Type} {f : State → α → State} (each : ∀ u a, (f u a).pending = u.pending) (l : List α) (u : State) :
    (l.foldl f u).pending = u.pending := by
  induction l generalizing u with
  | nil => rfl
  | cons a l ih => rw [List.foldl_cons, ih, each]

/-! ### The record store and the home -/

@[simp] theorem writeData_pending (w : Nat) (d : DataWord) : (writeData w d s).pending = s.pending := rfl

@[simp] theorem correctOnRead_pending (w : Nat) (r : WordRead) : (correctOnRead w r s).pending = s.pending := by
  unfold correctOnRead
  split <;> simp

@[simp] theorem correctRecord_pending (i : Nat) : (correctRecord i s).pending = s.pending := foldl_pending (by simp) _ s

@[simp] theorem writeRecord_pending (i : Nat) (r : Record) : (writeRecord i r s).pending = s.pending := rfl

@[simp] theorem resetFailures_pending (i : Nat) (r : Record) : (resetFailures i r s).pending = s.pending := by
  unfold resetFailures
  split <;> simp

@[simp] theorem reportUncorrectable_pending (w : Nat) : (reportUncorrectable w s).pending = s.pending := by
  unfold reportUncorrectable
  split <;> simp

@[simp] theorem clearMark_pending (a : Nat) : (clearMark a s).pending = s.pending := rfl

@[simp] theorem rewriteGrant_pending (h : Option Handle) : (rewriteGrant h s).pending = s.pending := by
  unfold rewriteGrant
  split <;> simp

@[simp] theorem removeOrphan_pending (e : HomeEntry) : (removeOrphan e s).pending = s.pending := by
  unfold removeOrphan
  simp only
  split <;> simp

@[simp] theorem denyClaim_pending (c : ClaimBody) (r : DenyReason) : (denyClaim c r s).pending = s.pending := by simp [denyClaim]

@[simp] theorem answerUnknown_pending (h : Handle) (a t : Nat) : (answerUnknown h a t s).pending = s.pending := by
  unfold answerUnknown
  split <;> simp

@[simp] theorem finishClaim_pending : (finishClaim s).pending = s.pending := foldl_pending (by simp) _ _

@[simp] theorem noteCharge_pending (e : HomeEntry) (f : Bool) : (noteCharge e f s).pending = s.pending := by
  unfold noteCharge
  simp only
  split <;> simp

@[simp] theorem settleEntry_pending (h : Handle) (t : Nat) (f : Bool) : (settleEntry h t f s).pending = s.pending := by
  cases f <;> rfl

@[simp] theorem applyAside_pending (e : HomeEntry) (t : Nat) (f : Bool) : (applyAside e t f s).pending = s.pending := by
  unfold applyAside
  split <;> simp

@[simp] theorem answerHolds_pending (c : ResultCode) (n : Nat) : (answerHolds c n s).pending = s.pending := by
  induction n generalizing s with
  | zero => rfl
  | succ n ih => exact (ih _).trans (by simp)

@[simp] theorem enterHold_pending : (enterHold s).pending = s.pending := by simp [enterHold]

@[simp] theorem refuseHome_pending : (refuseHome s).pending = s.pending := by
  unfold refuseHome
  split
  · rfl
  · simp
  · split <;> simp

@[simp] theorem drainLoop_pending (n : Nat) : (drainLoop n s).pending = s.pending := by
  induction n generalizing s with
  | zero => rfl
  | succ n ih =>
    unfold drainLoop
    split
    · split
      · rfl
      · split
        · simp [ih]
        · split
          · rfl
          · split <;> simp [ih]
    · rfl

@[simp] theorem grantStore_pending : (grantStore s).pending = s.pending := by
  unfold grantStore
  split <;> simp

@[simp] theorem settleStore_pending : (settleStore s).pending = s.pending := by
  unfold settleStore drain
  simp only [grantStore_pending, drainLoop_pending]
  split <;> split <;> simp

@[simp] theorem endHold_pending : (endHold s).pending = s.pending := by simp [endHold]

@[simp] theorem cutoffCheck_pending (a : Nat) (b : Int) (n : Nat) : (cutoffCheck a b n s).pending = s.pending := by
  unfold cutoffCheck
  split
  · refine foldl_pending (fun u e => ?_) _ s
    unfold cutOne
    split
    · simp only
      split <;> simp
    · rfl
  · rfl

@[simp] theorem placeFaulted_pending (k : FaultKind) (a w : Nat) (h : Handle) (c : Nat) : (placeFaulted k a w h c s).pending = s.pending := by
  unfold placeFaulted
  split <;> simp

@[simp] theorem carryOut_pending (c : ClaimBody) (r : Record) (v : Verdict) : (carryOut c r v s).pending = s.pending := by
  cases v with
  | deny reason => cases reason <;> simp [carryOut]
  | reattach old => simp [carryOut]
  | new => simp [carryOut]

@[simp] theorem claimAccess_pending (c : ClaimBody) : (claimAccess c s).pending = s.pending := by
  rw [claimAccess_eq, finishClaim_pending]
  unfold claimEvaluated claimDecided
  split
  · simp
  · simp
  · split <;> simp

@[simp] theorem applyToRecord_pending (e : HomeEntry) (t : Nat) (f : Bool) : (applyToRecord e t f s).pending = s.pending := by
  rw [applyToRecord_eq]
  unfold chargeApplied
  split
  · simp
  · simp
  · split
    · simp
    · split
      · simp
      · simp only
        split <;> simp

@[simp] theorem chargeAccess_pending (h : Handle) (a t : Nat) (f b : Bool) : (chargeAccess h a t f b s).pending = s.pending := by
  unfold chargeAccess
  simp only
  split
  · simp
  · split <;> simp

@[simp] theorem listFaulted_pending (a : Nat) (o : RecordOutcome) : (listFaulted a o s).pending = s.pending := by
  cases o <;> simp [listFaulted]

@[simp] theorem hostAccess_pending (w : HostWork) : (hostAccess w s).pending = s.pending := by
  cases w with
  | accountLoad l => simp [hostAccess, loadAccess]
  | accountRead a => simp [hostAccess, readAccess]
  | deposit a n =>
    simp only [hostAccess, depositAccess]
    split
    · simp
    · split <;> simp
  | unlock a =>
    simp only [hostAccess, unlockAccess]
    split
    · simp
    · split <;> simp
  | probe n => simp [hostAccess, probeAccess]
  | flip n m => simp [hostAccess, flipAccess]

@[simp] theorem scrubAccess_pending : (scrubAccess s).pending = s.pending := by
  unfold scrubAccess
  simp only
  split <;> simp

@[simp] theorem migrationAccess_pending (m : Migration) : (migrationAccess m s).pending = s.pending := by
  rw [migrationAccess_eq (m := m) rfl rfl rfl rfl]
  split
  · simp only
    split <;> split <;> simp
  · simp only [completeMigration, offerResult_keeps, State.setStore_pending]
    split <;> split <;> simp

@[simp] theorem accessEffect_pending : (accessEffect s).pending = s.pending := by
  unfold accessEffect
  split
  · rfl
  · split <;> simp
  · split <;> simp
  · split <;> simp
  · simp

theorem finishAccess_pending (r : Requester) {t : State} (h : finishAccess r s = .next t) : t.pending = s.pending := by
  rcases finishAccess_cases r s with ⟨-, next⟩ | ⟨-, -, n, -, fault⟩ | ⟨-, -, -, next⟩
  · cases next.symm.trans h
    rfl
  · exact absurd (fault.symm.trans h) nofun
  · cases next.symm.trans h
    simp [endAccess]

@[simp] theorem requestHost_pending (w : HostWork) : (requestHost w s).pending = s.pending := by simp [requestHost]

theorem checkAccount_pending (k : CommandKind) (b : Bool) (a : Option Nat) {go : State → State} (h : ∀ u, (go u).pending = u.pending) :
    (checkAccount k b a go s).pending = s.pending := by
  unfold checkAccount
  split
  · simp
  · split
    · simp
    · split
      · simp
      · split
        · simp
        · exact h s

end

end Sys2Proof.Machine
end

section
/-! No command's effect changes the queue of the commands that wait, continued: the lines, the sessions, the bus, the station. -/

namespace Sys2Proof.Machine

section
variable (s : State)

/-! ### Slots, sessions and the meter -/

@[simp] theorem placeFixed_pending (l : Fin 8) (t : FixedText) : (placeFixed l t s).pending = s.pending := by simp [placeFixed]

@[simp] theorem hangUpWith_pending (l : Option (Fin 8)) (t : FixedText) : (hangUpWith l t s).pending = s.pending := by
  cases l <;> simp [hangUpWith]

@[simp] theorem freeSlot_pending (k : Fin 12) : (freeSlot k s).pending = s.pending := rfl

@[simp] theorem homeSilent_pending (k : Fin 12) : (homeSilent k s).pending = s.pending := by
  unfold homeSilent
  split
  · rfl
  · split <;> simp

@[simp] theorem reserveSlot_pending (k : Fin 12) (l : Fin 8) (d : Dialogue) : (reserveSlot k l d s).pending = s.pending := by
  unfold reserveSlot
  simp only
  split <;> simp

@[simp] theorem releaseSlot_pending (k : Fin 12) : (releaseSlot k s).pending = s.pending := by
  unfold releaseSlot
  split <;> simp

@[simp] theorem addOverflow_pending (n : Nat) : (addOverflow n s).pending = s.pending := rfl

@[simp] theorem noteSaturation_pending (k : Fin 12) : (noteSaturation k s).pending = s.pending := by
  unfold noteSaturation
  split
  · rfl
  · split <;> simp

@[simp] theorem chargeSecond_pending (k : Fin 12) : (chargeSecond k s).pending = s.pending := by
  unfold chargeSecond
  split
  · rfl
  · split
    · simp only
      split <;> simp
    · rfl

@[simp] theorem roundSession_pending (k : Fin 12) : (roundSession k s).pending = s.pending := by
  unfold roundSession
  split
  · rfl
  · split
    · simp
    · split <;> simp

@[simp] theorem endSession_pending (k : Fin 12) (c : EndCause) : (endSession k c s).pending = s.pending := by
  unfold endSession
  simp only
  split <;> simp

@[simp] theorem detachSession_pending (k : Fin 12) (x : Session) (n : Nat) : (detachSession k x n s).pending = s.pending := by
  simp [detachSession]

@[simp] theorem postSecond_pending (k : Fin 12) : (postSecond k s).pending = s.pending := by
  unfold postSecond
  split
  · rfl
  · split
    · split <;> simp
    · rfl

@[simp] theorem meterTick_pending : (meterTick s).pending = s.pending := by
  have charged := foldl_pending (f := fun u k => chargeSecond k u) (by simp) allSlots s
  unfold meterTick
  split
  · simp only
    generalize allSlots.foldl (fun u k => chargeSecond k u) s = mid at charged ⊢
    have posted := foldl_pending (f := fun u k => postSecond k u) (by simp) allSlots mid
    generalize allSlots.foldl (fun u k => postSecond k u) mid = done at posted ⊢
    exact posted.trans charged
  · rfl

/-! ### Characters and lines -/

@[simp] theorem systemFull_pending (l : Fin 8) : (systemFull l s).pending = s.pending := by simp [systemFull]

@[simp] theorem modDialogue_pending (l : Fin 8) (f : Dialogue → Dialogue) : (modDialogue l f s).pending = s.pending := rfl

@[simp] theorem claimFor_pending (l : Fin 8) (d : Dialogue) : (claimFor l d s).pending = s.pending := by
  unfold claimFor
  split
  · simp
  · unfold reserveFor
    split
    · simp
    · split <;> simp

@[simp] theorem userChar_pending (l : Fin 8) (d : Dialogue) (c : Nat) : (userChar l d c s).pending = s.pending := by
  unfold userChar
  split
  · simp only
    split <;> simp
  · split
    · split <;> simp
    · split
      · split <;> simp
      · rfl

@[simp] theorem passwordChar_pending (l : Fin 8) (d : Dialogue) (c : Nat) : (passwordChar l d c s).pending = s.pending := by
  unfold passwordChar
  split
  · simp only
    split <;> simp
  · split
    · split <;> simp
    · split
      · split <;> simp
      · rfl

@[simp] theorem characterOn_pending (l : Fin 8) (c : Nat) : (characterOn l c s).pending = s.pending := by
  unfold characterOn
  split
  · unfold dialogueChar
    split
    · rfl
    · split <;> simp
  · simp
  · rfl

@[simp] theorem failedAttempt_pending (l : Fin 8) : (failedAttempt l s).pending = s.pending := by
  unfold failedAttempt
  dsimp only
  split_ifs <;> simp

@[simp] theorem decodeEnd_pending (l : Fin 8) (c n : Nat) (b : Bool) : (decodeEnd l c n b s).pending = s.pending := by
  unfold decodeEnd
  split <;> simp

@[simp] theorem sessionLosesLine_pending (k : Fin 12) : (sessionLosesLine k s).pending = s.pending := by
  unfold sessionLosesLine
  split
  · rfl
  · split
    · simp
    · split <;> simp
    · simp
    · rfl

@[simp] theorem carrierLost_pending (l : Fin 8) : (carrierLost l s).pending = s.pending := by
  unfold carrierLost
  split
  · simp
  · simp
  · simp
  · split <;> simp
  · split <;> simp
  · simp
  · rfl

/-! ### Replies and commands of sessions -/

@[simp] theorem lateGrant_pending (n : Nat) (g : GrantBody) : (lateGrant n g s).pending = s.pending := by
  unfold lateGrant offerZeroCharge
  split
  · rfl
  · split <;> simp

@[simp] theorem offerZeroCharge_pending (n : Nat) (g : GrantBody) (c : EndCause) : (offerZeroCharge n g c s).pending = s.pending := by
  unfold offerZeroCharge
  split <;> simp

@[simp] theorem bindSession_pending (k : Fin 12) (x : Session) (n : Nat) (g : GrantBody) : (bindSession k x n g s).pending = s.pending := by
  unfold bindSession resumedText
  simp only [offerTally_keeps]
  split
  · simp
  · split <;> simp

@[simp] theorem settleGrant_pending (n : Nat) (g : GrantBody) : (settleGrant n g s).pending = s.pending := by
  unfold settleGrant
  split
  · rfl
  · split
    · simp
    · split
      · split <;> simp [logDuplicate]
      · simp only
        split
        · simp
        · split
          · split <;> simp [settleAbandoned]
          · simp

@[simp] theorem settleOld_pending (g : GrantBody) : (settleOld g s).pending = s.pending := by
  unfold settleOld
  split
  · rfl
  · split
    · rfl
    · split
      · simp
      · split <;> simp
      · rfl

@[simp] theorem denyLine_pending (l : Fin 8) (r : DenyReason) : (denyLine l r s).pending = s.pending := by
  have failed : (failedSignOn l s).pending = s.pending := by
    unfold failedSignOn
    simp only
    split_ifs <;> simp [resumeDialogue]
  cases r <;> simp [denyLine, resumeDialogue, failed]

@[simp] theorem settleDeny_pending (n : Nat) (d : DenyBody) : (settleDeny n d s).pending = s.pending := by
  unfold settleDeny
  split
  · rfl
  · split
    · rfl
    · split
      · split <;> simp [logDuplicate]
      · simp only
        split
        · simp
        · split
          · split
            · simp
            · split <;> simp
          · simp

@[simp] theorem settleCutoff_pending (c : CutoffBody) : (settleCutoff c s).pending = s.pending := by
  unfold settleCutoff
  split
  · rfl
  · split
    · simp only [State.modSession_pending]
      split <;> simp
    · simp
    · rfl

@[simp] theorem settleRefuse_pending (r : RefuseBody) : (settleRefuse r s).pending = s.pending := by
  unfold settleRefuse logRefused
  split
  · rfl
  · split <;> simp

@[simp] theorem forceOff_pending (b : List Byte) : (forceOff b s).pending = s.pending := by
  unfold forceOff
  split
  · simp
  · split
    · simp
    · split
      · simp
      · unfold forceOffSession
        simp only [offerResult_keeps]
        split
        · simp
        · simp
        · simp
        · split <;> simp
        · rfl

@[simp] theorem settleData_pending (d : DataBody) : (settleData d s).pending = s.pending := by
  unfold settleData discardFrame
  split
  · rfl
  · split
    · split
      · rfl
      · simp only
        split <;> simp
    · rfl

/-! ### The bus -/

@[simp] theorem handOver_pending (a n : Nat) (f : Handed) : (handOver a n f s).pending = s.pending := by
  unfold handOver hand
  split
  · rfl
  · split
    · split <;> rfl
    · rfl
  · split
    · split
      · rfl
      · split <;> simp
    · split <;> rfl

@[simp] theorem takePassed_pending (a n k : Nat) (b : List Byte) : (takePassed a n k b s).pending = s.pending := by
  unfold takePassed
  have sender : (if n ≤ 15 then { s with bus := { s.bus with lastSender := n } } else s).pending = s.pending := by split <;> rfl
  simp only
  split
  · simp [sender]
  · split
    · simp [sender]
    · split <;> simp [sender]

@[simp] theorem receiveTrain_pending (bs : List Byte) (b : Bool) : (receiveTrain bs b s).pending = s.pending := by
  unfold receiveTrain takeTrain
  split
  · rfl
  · split <;> simp

@[simp] theorem noteStart_pending (e : Entry) : (noteStart e s).pending = s.pending := by
  unfold noteStart
  split <;> rfl

@[simp] theorem tellSent_pending (p : Payload) : (tellSent p s).pending = s.pending := by
  unfold tellSent startClaimTimer
  split
  · split
    · split <;> rfl
    · rfl
  · simp
  · split <;> simp
  · rfl

@[simp] theorem tellDropped_pending (p : Payload) : (tellDropped p s).pending = s.pending := by
  unfold tellDropped
  split
  · split
    · split <;> simp
    · rfl
  · simp
  · rfl

@[simp] theorem tellStopped_pending (p : Payload) : (tellStopped p s).pending = s.pending := by
  unfold tellStopped offerFinalFor
  split
  · simp
  · split <;> simp
  · split <;> simp
  · rfl

/-! ### The station, the supply and the resets -/

@[simp] theorem checkpoint_pending : (checkpoint s).pending = s.pending := by
  refine foldl_pending (fun u k => ?_) _ s
  unfold checkpointSlot
  split <;> simp

@[simp] theorem dropHold_pending : (dropHold s).pending = s.pending := by
  unfold dropHold
  split <;> simp

@[simp] theorem supplyFalls_pending : (supplyFalls s).pending = s.pending := by simp [supplyFalls]

@[simp] theorem cutAccess_pending : (cutAccess s).pending = s.pending := by
  unfold cutAccess
  split <;> rfl

@[simp] theorem resetKept_pending : (resetKept s).pending = s.pending := cutAccess_pending s

@[simp] theorem leaveReset_pending (f : ResetForce) (p : Straps) : (leaveReset f p s).pending = s.pending := by
  unfold leaveReset
  simp only
  split <;> rfl

theorem takeHanded_pending (f : Handed) {act : State → State} (h : ∀ u, (act u).pending = u.pending) :
    (takeHanded f act s).pending = s.pending := by
  unfold takeHanded
  split
  · rfl
  · split
    · split <;> rfl
    · exact h _

end

end Sys2Proof.Machine
end

section
/-! O48: frames that are not served, that wait, and that no block takes; and the queue of commands, which no command changes. -/

namespace Sys2Proof.Machine

section
variable (s : State)

@[simp] theorem takeClaim_pending (c : ClaimBody) : (takeClaim c s).pending = s.pending := by
  unfold takeClaim
  split
  · simp only
    split
    · split_ifs <;> simp
    · split_ifs <;> simp
  · rfl

@[simp] theorem takeDetach_pending (d : DetachBody) : (takeDetach d s).pending = s.pending := by
  unfold takeDetach
  split
  · split <;> simp
  · rfl

@[simp] theorem takeTally_pending (n : Nat) (t : TallyBody) : (takeTally n t s).pending = s.pending := by
  have counted : (countTally n t s).pending = s.pending := by
    unfold countTally
    split <;> rfl
  have cleared (u : State) : (clearStation n u).pending = u.pending := foldl_pending (by simp) _ u
  unfold takeTally
  simp only
  split
  · rw [cleared, counted]
  · exact counted

@[simp] theorem takeCharge_pending (c : ChargeBody) : (takeCharge c s).pending = s.pending := by
  unfold takeCharge
  split
  · split
    · simp
    · simp only
      split_ifs <;> simp
  · rfl

@[simp] theorem takeAccountLoad_pending (b : List Byte) : (takeAccountLoad b s).pending = s.pending := by
  unfold takeAccountLoad
  split
  · exact checkAccount_pending _ _ _ _ fun _ => rfl
  · exact checkAccount_pending _ _ _ _ fun u => by split <;> simp

@[simp] theorem takeAccountRead_pending (b : List Byte) : (takeAccountRead b s).pending = s.pending :=
  checkAccount_pending _ _ _ _ fun u => by simp

@[simp] theorem takeDeposit_pending (b : List Byte) : (takeDeposit b s).pending = s.pending :=
  checkAccount_pending _ _ _ _ fun u => by simp

@[simp] theorem takeUnlock_pending (b : List Byte) : (takeUnlock b s).pending = s.pending :=
  checkAccount_pending _ _ _ _ fun u => by simp

@[simp] theorem takeHold_pending (b : List Byte) : (takeHold b s).pending = s.pending := by
  unfold takeHold
  split
  · simp
  · split
    · simp
    · split
      · simp
      · split
        · simp
        · simp
        · split <;> simp

@[simp] theorem takeRelease_pending (b : List Byte) : (takeRelease b s).pending = s.pending := by
  unfold takeRelease
  split_ifs <;> simp

@[simp] theorem takeProbe_pending (b : List Byte) : (takeProbe b s).pending = s.pending := by
  unfold takeProbe
  split
  · simp
  · split <;> simp

@[simp] theorem takeFlip_pending (b : List Byte) : (takeFlip b s).pending = s.pending := by
  unfold takeFlip
  split
  · simp
  · split <;> simp

@[simp] theorem takeSpareSet_pending (b : List Byte) : (takeSpareSet b s).pending = s.pending := by
  unfold takeSpareSet
  split
  · simp
  · split
    · simp
    · split <;> simp

@[simp] theorem setTime_pending (b : List Byte) : (setTime b s).pending = s.pending := by
  unfold setTime
  split
  · simp
  · split <;> simp

@[simp] theorem loadTariffs_pending (b : List Byte) : (loadTariffs b s).pending = s.pending := by
  unfold loadTariffs
  split <;> simp

@[simp] theorem takeConfigure_pending (b : List Byte) : (takeConfigure b s).pending = s.pending := by
  unfold takeConfigure
  split
  · simp
  · split
    · simp
    · split <;> simp [enterService, storeSettings]

@[simp] theorem takeStatusRead_pending (b : List Byte) : (takeStatusRead b s).pending = s.pending := by
  unfold takeStatusRead
  split <;> simp

@[simp] theorem takeFaultRead_pending (b : List Byte) : (takeFaultRead b s).pending = s.pending := by
  unfold takeFaultRead
  split <;> simp

@[simp] theorem takeFaultClear_pending (b : List Byte) : (takeFaultClear b s).pending = s.pending := by
  unfold takeFaultClear
  split <;> simp

@[simp] theorem takeFaultSetup_pending (b : List Byte) : (takeFaultSetup b s).pending = s.pending := by
  unfold takeFaultSetup
  split <;> simp

@[simp] theorem takeStationReset_pending (p : Straps) : (takeStationReset p s).pending = s.pending := resetKept_pending s

end

/-! ### The block that takes a frame -/

/-- What the block does that takes the frame of the command (R165). -/
def taker : Instr → State → State
  | .grant a g => fun s => settleOld g (settleGrant a g s)
  | .deny a d => settleDeny a d
  | .claim c => takeClaim c
  | .detach d => takeDetach d
  | .tally a t => takeTally a t
  | .cutoff c => settleCutoff c
  | .refuse r => settleRefuse r
  | .charge c => takeCharge c
  | .data d => settleData d
  | .forceOff b => forceOff b
  | .time b => setTime b
  | .tariffLoad b => loadTariffs b
  | .accountLoad b => takeAccountLoad b
  | .accountRead b => takeAccountRead b
  | .deposit b => takeDeposit b
  | .unlock b => takeUnlock b
  | .hold b => takeHold b
  | .release b => takeRelease b
  | .storeProbe b => takeProbe b
  | .storeFlip b => takeFlip b
  | .spareSet b => takeSpareSet b
  | .configure b => takeConfigure b
  | .statusRead b => takeStatusRead b
  | .stationReset _ p => takeStationReset p
  | .faultRead b => takeFaultRead b
  | .faultClear b => takeFaultClear b
  | .faultSetup b => takeFaultSetup b
  | _ => id

theorem exec_of_carried {c : Instr} {f : Handed} (frame : carried c = some f) (s : State) :
    exec c s = .next (takeHanded f (taker c) s) := by
  cases c <;> cases frame <;> rfl

theorem taker_pending (c : Instr) (s : State) : (taker c s).pending = s.pending := by
  cases c <;> simp [taker]

/-! ### Frames that no block takes -/

theorem State.matched_of_otherStation {s : State} {h : Handle} (other : h.station ≠ s.own) : s.matched h = none :=
  State.matched_eq_none_iff.mpr fun _ own => absurd (by rw [own]; rfl) other

theorem exec_of_noTaker {c : Instr} {f : Handed} {s : State} (frame : carried c = some f) (served : s.serves f = true)
    (noTaker : s.someBlockTakes f = false) (unchanged : taker c (s.taking f) = s.taking f) : exec c s = .next (s.taking f) := by
  have noWait : s.mustWait f = false := by
    unfold State.mustWait
    rw [noTaker, Bool.false_and]
  rw [exec_of_carried frame, takeHanded, served, noWait]
  exact congrArg Host.Outcome.next unchanged

/-! ### The queue of commands -/

theorem awake_keepsPending {f : State → State} {s t : State} (next : awake f s = .next t) (h : (f s).pending = s.pending) :
    t.pending = s.pending := by
  cases next
  split
  · rfl
  · exact h

theorem exec_pending (c : Instr) (s t : State) (next : exec c s = .next t) : t.pending = s.pending := by
  cases frame : carried c with
  | some f =>
    rw [exec_of_carried frame] at next
    cases next
    exact takeHanded_pending s f (taker_pending c)
  | none =>
    cases c with
    | ringBurst l => exact awake_keepsPending (show execRingBurst l s = _ from next) (by split <;> simp)
    | burstEnd l => exact awake_keepsPending (show execBurstEnd l s = _ from next) (by split <;> simp)
    | ringSeriesTimerExpiry l => exact awake_keepsPending (show execRingSeriesTimerExpiry l s = _ from next) (by split <;> simp)
    | carrierPresence l => exact awake_keepsPending (show execCarrierPresence l s = _ from next) (by split_ifs <;> simp)
    | answerTimerExpiry l => exact awake_keepsPending (show execAnswerTimerExpiry l s = _ from next) (by split <;> simp)
    | carrierLoss l => exact awake_keepsPending (show execCarrierLoss l s = _ from next) (by split <;> simp)
    | hangUpHoldTimerExpiry l => exact awake_keepsPending (show execHangUpHoldTimerExpiry l s = _ from next) (by split <;> simp)
    | receiverArmed l => exact awake_keepsPending (show execReceiverArmed l s = _ from next) (by split <;> simp)
    | speedIntervalEnd l n => exact awake_keepsPending (show execSpeedIntervalEnd l n s = _ from next) (by split; (split <;> simp); rfl)
    | speedDecodeEnd l n b => exact awake_keepsPending (show execSpeedDecodeEnd l n b s = _ from next) (by split; (split <;> simp); rfl)
    | speedDetectTimerExpiry l => exact awake_keepsPending (show execSpeedDetectTimerExpiry l s = _ from next) (by split <;> simp)
    | character l n => exact awake_keepsPending (show execCharacter l n s = _ from next) (by split <;> simp)
    | framingError l => exact awake_keepsPending (show execFramingError l s = _ from next) (by split <;> simp)
    | lineBreak l => exact awake_keepsPending (show execLineBreak l s = _ from next) (by split; (split <;> simp); rfl)
    | dataTriggerAge l => exact awake_keepsPending (show execDataTriggerAge l s = _ from next) (by split <;> simp)
    | signOnTimerExpiry l => exact awake_keepsPending (show execSignOnTimerExpiry l s = _ from next) (by split; rfl; (split <;> simp))
    | transmitCharacter l => exact awake_keepsPending (show execTransmitCharacter l s = _ from next) (by split <;> simp)
    | claimTimerExpiry k => exact awake_keepsPending (show execClaimTimerExpiry k s = _ from next) (by split; rfl; (split <;> simp))
    | claimEvaluation =>
      change execClaimEvaluation s = _ at next
      unfold execClaimEvaluation at next
      split at next
      · exact finishAccess_pending s _ next
      · cases next; rfl
    | silenceTimerExpiry h => exact awake_keepsPending (show execSilenceTimerExpiry h s = _ from next) (by split; rfl; (split; (split <;> simp); rfl))
    | detachGraceExpiry k => exact awake_keepsPending (show execDetachGraceExpiry k s = _ from next) (by split; rfl; (split <;> simp))
    | cutoffGraceExpiry k => exact awake_keepsPending (show execCutoffGraceExpiry k s = _ from next) (by split; rfl; (split; (split <;> simp); rfl))
    | tallyHeartbeatExpiry => exact awake_keepsPending (show execTallyHeartbeatExpiry s = _ from next) (by split <;> simp)
    | censusAgeExpiry a => exact awake_keepsPending (show execCensusAgeExpiry a s = _ from next) (by split; rfl; (split <;> rfl))
    | tick => exact awake_keepsPending (show execTick s = _ from next) (meterTick_pending s)
    | posting k => exact awake_keepsPending (show execPosting k s = _ from next) (by split; rfl; (split <;> simp))
    | bandFlip => exact awake_keepsPending (show execBandFlip s = _ from next) (by split <;> rfl)
    | chargeApplication =>
      change execChargeApplication s = _ at next
      unfold execChargeApplication at next
      split at next
      · exact finishAccess_pending s _ next
      · cases next; rfl
    | hostCommandAccessEnd =>
      change execHostCommandAccessEnd s = _ at next
      unfold execHostCommandAccessEnd at next
      split at next
      · exact finishAccess_pending s _ next
      · cases next; rfl
    | holdTimerExpiry => exact awake_keepsPending (show execHoldTimerExpiry s = _ from next) (by split <;> simp)
    | scrubTimerExpiry => exact awake_keepsPending (show execScrubTimerExpiry s = _ from next) (by split <;> simp)
    | scrubStep => exact finishAccess_pending s _ next
    | storeClearComplete => exact awake_keepsPending (show execStoreClearComplete s = _ from next) (by split <;> rfl)
    | migrationStepTimerExpiry => exact awake_keepsPending (show execMigrationStepTimerExpiry s = _ from next) (by split; rfl; (split <;> simp))
    | migrationStep => exact finishAccess_pending s _ next
    | frameReceived bs b => exact awake_keepsPending (show execFrameReceived bs b s = _ from next) (by split; rfl; exact (receiveTrain_pending _ bs b))
    | busIdle => exact awake_keepsPending (show execBusIdle s = _ from next) (by split <;> rfl)
    | transmissionStart n => exact awake_keepsPending (show execTransmissionStart n s = _ from next) (by split; (split; rfl; exact noteStart_pending _ _); rfl)
    | frameSent => exact awake_keepsPending (show execFrameSent s = _ from next) (by split <;> simp [State.landed])
    | readBackMismatch => exact awake_keepsPending (show execReadBackMismatch s = _ from next) (by split; rfl; (split <;> simp [State.landed]))
    | supplyBelowWarn =>
      cases next
      split <;> simp
    | supplyAboveWarn => cases next; rfl
    | recoveryTimerExpiry => exact awake_keepsPending (show execRecoveryTimerExpiry s = _ from next) (by split <;> simp)
    | supplyBelowReset => cases next; rfl
    | powerApplied => cases next; rfl
    | supplyAboveReset p =>
      cases next
      split <;> simp
    | resetPinAsserted => cases next; exact resetKept_pending s
    | resetPinReleased p =>
      cases next
      split <;> simp
    | trainStart => exact awake_keepsPending (show execTrainStart s = _ from next) (rfl)
    | _ => cases frame

/-- Settles O48: a frame is taken through `takeHanded`, which leaves an unserved one and lets one wait that some block takes. -/
theorem framesWaitTheirTurn : Obligations.FramesWaitTheirTurn := by
  unfold Obligations.FramesWaitTheirTurn
  refine ⟨fun c f s frame => ⟨fun unserved => ?_, fun served wait => ⟨fun known => ?_, fun new => ?_⟩, fun served noBlock => ?_⟩,
    exec_pending⟩
  · rw [exec_of_carried frame]
    simp [takeHanded, unserved]
  · rw [exec_of_carried frame]
    simp [takeHanded, served, wait, known]
  · rw [exec_of_carried frame]
    simp [takeHanded, served, wait, new]
  · rcases noBlock with ⟨x, rfl, out⟩ | ⟨x, rfl, out⟩ | ⟨x, rfl, out⟩ | ⟨x, rfl, other⟩ | ⟨x, rfl, other⟩
    · refine exec_of_noTaker frame served out ?_
      obtain rfl : c = .claim x := by cases c <;> cases frame; rfl
      exact if_neg (by rw [State.taking_home, out]; exact Bool.false_ne_true)
    · refine exec_of_noTaker frame served out ?_
      obtain rfl : c = .detach x := by cases c <;> cases frame; rfl
      exact takeDetach_of_outOfRange out
    · refine exec_of_noTaker frame served ?_ ?_
      · change (decide (x.home = s.own) && s.home.inRange x.account) = false
        rcases out with other | out
        · rw [decide_eq_false other, Bool.false_and]
        · rw [out, Bool.and_false]
      · obtain rfl : c = .charge x := by cases c <;> cases frame; rfl
        refine if_neg fun ⟨own, inside⟩ => ?_
        rcases out with other | out
        · exact other own
        · exact Bool.false_ne_true (out.symm.trans inside)
    · refine exec_of_noTaker frame served (decide_eq_false other) ?_
      obtain rfl : c = .cutoff x := by cases c <;> cases frame; rfl
      change settleCutoff x _ = _
      unfold settleCutoff
      rw [State.taking_matched, State.matched_of_otherStation other]
    · refine exec_of_noTaker frame served (decide_eq_false other) ?_
      obtain rfl : c = .refuse x := by cases c <;> cases frame; rfl
      change settleRefuse x _ = _
      unfold settleRefuse
      rw [State.taking_matched, State.matched_of_otherStation other]

end Sys2Proof.Machine
end

section
/-! O49: CONFIGURE (R172). -/

namespace Sys2Proof.Machine

section
variable {b : List Byte} {s : State}

theorem exec_configure_of_takesNow (h : s.takesNow (.command .configure b)) :
    exec (.configure b) s = .next (takeConfigure b (s.taking (.command .configure b))) :=
  congrArg Host.Outcome.next (takeHanded_of_takesNow (takeConfigure b) h)

theorem configureOf_eq_none (bad : b.length ≠ 40) : configureOf b = none := if_neg bad

theorem takeConfigure_of_otherState (other : s.station.state ≠ .awaitingConfig) :
    takeConfigure b s = offerResult .configure .refusedState [] s := if_pos other

theorem takeConfigure_of_badLength (waits : s.station.state = .awaitingConfig) (bad : b.length ≠ 40) :
    takeConfigure b s = offerResult .configure .badField [] s := by
  rw [takeConfigure, if_neg (not_not_intro waits), configureOf_eq_none bad]

theorem takeConfigure_of_length (waits : s.station.state = .awaitingConfig) (len : b.length = 40) {f : ConfigureFields}
    (read : configureOf b = some f) :
    takeConfigure b s = if s.bus.queue ≠ [] then offerResult .configure .busy [] s
      else offerResult .configure .done [] (enterService (storeSettings f s)) := by
  rw [takeConfigure, if_neg (not_not_intro waits), read]

/-- R89 at CONFIGURE: the queue is empty, so the restart TALLY has its place and the heartbeat starts. -/
theorem enterService_of_empty (empty : s.bus.queue = []) :
    enterService s = State.queued { s with station := { s.station with state := .inService },
                                           table := { s.table with heartbeat := some 10, restartDue := false } } 255
      (.tally { count := s.tally, restart := s.table.restartDue }) := by
  have room : ({ s with station := { s.station with state := .inService } } : State).room = true := by
    unfold State.room
    rw [show ({ s with station := { s.station with state := .inService } } : State).bus.queue = [] from empty]
    rfl
  rw [enterService, offerTally_of_none (by rfl) (by rw [show _ = ([] : List Entry) from empty]; exact fun _ h => absurd h List.not_mem_nil),
    if_pos room]
  rfl

theorem promptOf_eq {prompt : Nat → List Byte → List Nat} (h : ∀ n bs, prompt n bs =
      ((bs.take (min n 12)).map BitVec.toNat).takeWhile (fun c => decide (32 ≤ c ∧ c ≤ 126))) : promptOf = prompt := by
  funext n bs
  rw [h, promptOf]
  congr 1
  funext c
  exact (Bool.decide_and _ _).symm

end

/-- Settles O49: the checks in their order; with the queue empty the restart TALLY finds its place. -/
theorem configureFindings : Obligations.ConfigureFindings := by
  rintro b s u takes rfl
  rw [exec_configure_of_takesNow takes]
  refine ⟨fun other => ?_, fun waits => ⟨fun bad => ?_, fun len busy => ?_, fun len empty => ?_⟩⟩
  · rw [takeConfigure_of_otherState (s := s.taking _) other]
  · rw [takeConfigure_of_badLength (s := s.taking _) waits bad]
  · rw [takeConfigure_of_length (s := s.taking _) waits len (if_pos len), if_pos (by exact busy)]
  · rintro first count peak offPeak scrub prompt rfl rfl rfl rfl rfl layout
    rw [takeConfigure_of_length (s := s.taking _) waits len (if_pos len), if_neg (not_not_intro (by exact empty)),
      enterService_of_empty (by exact empty), promptOf_eq layout, clampSeconds_eq, clampSeconds_eq]
    simp only [storeSettings, homeCountOf, min_comm (fieldOf b 6 1), min_comm (fieldOf b 3 2)]
    rfl

end Sys2Proof.Machine
end

section
/-! O51: fault events (R177 to R180) and answering permission (R3). -/

namespace Sys2Proof.Machine

/-! ### Answering permission (R3) -/

theorem settlePermission_of_permission {s : State} (permission : s.permission = true) : settlePermission s = s :=
  if_pos permission

theorem settlePermission_of_noPermission {s : State} (lost : s.permission = false) :
    settlePermission s = { s with lines := s.lines.map Line.quiet } := if_neg (by rw [lost]; exact Bool.false_ne_true)

theorem settlePermission_ringingLine {s : State} {l : Fin 8} (lost : s.permission = false) (ringing : s.lines[l].state = .ringing) :
    (settlePermission s).lines[l] = { s.lines[l] with state := .idle, ringCount := 0, timer := none, ringFilter := .absent } := by
  rw [settlePermission_of_noPermission lost]
  exact (Vector.getElem_map _ l.isLt).trans (if_pos ringing)

theorem settlePermission_of_ringingPermitted {s : State} (permitted : s.ringingPermitted) : settlePermission s = s := by
  rcases settlePermission_cases s with ⟨_, unchanged⟩ | ⟨lost, _⟩
  · exact unchanged
  · have silent (l : Fin 8) : s.lines[l].state ≠ .ringing := fun ringing =>
      Bool.false_ne_true (lost.symm.trans (permitted l ringing))
    have lines : s.lines.map Line.quiet = s.lines :=
      Vector.ext fun i hi => (Vector.getElem_map _ hi).trans (if_neg (silent ⟨i, hi⟩))
    rw [settlePermission_of_noPermission lost, lines]

theorem SeverityLog.busies_eq_false_iff (g : SeverityLog) :
    g.busies = false ↔ (g.action = .noticeAndBusyOut → g.first = none) := by
  cases first : g.first <;> simp [SeverityLog.busies, first]

theorem State.permission_iff (s : State) : s.permission = true ↔ s.station.state = .inService ∧ s.supply.state = .normal ∧
    ∀ g : SeverityLog, (g = s.faults.corrected ∨ g = s.faults.degraded ∨ g = s.faults.failing) →
      g.action = .noticeAndBusyOut → g.first = none := by
  have quiet : s.faults.busyOut = false ↔
      s.faults.corrected.busies = false ∧ s.faults.degraded.busies = false ∧ s.faults.failing.busies = false := by
    simp only [FaultLog.busyOut, Bool.or_eq_false_iff, and_assoc]
  simp only [State.permission, Bool.and_eq_true, Bool.not_eq_true', decide_eq_true_eq, quiet, s.inService_iff, and_assoc,
    SeverityLog.busies_eq_false_iff, forall_eq_or_imp, forall_eq]

/-! ### The fault log (R177, R178) -/

section
variable {f : FaultLog} {e : FaultEvent}

@[simp] theorem FaultLog.severityLog_setSeverity (v : Severity) (g : SeverityLog) :
    (f.setSeverity v g).severityLog v = g := by cases v <;> rfl

@[simp] theorem FaultLog.severityLog_countEvent (k : FaultKind) (v : Severity) :
    (f.countEvent k).severityLog v = f.severityLog v := by
  unfold FaultLog.countEvent
  split
  · split <;> cases v <;> rfl
  · rfl

theorem FaultLog.setSeverity_rest (v : Severity) (g : SeverityLog) :
    (f.setSeverity v g).selected = f.selected ∧ (f.setSeverity v g).count = f.count ∧
      (f.setSeverity v g).overflow = f.overflow := by cases v <;> exact ⟨rfl, rfl, rfl⟩

theorem FaultLog.take_of_masked (masked : f.masks.getLsbD e.kind.code = true) : f.take e = f := if_pos masked

/-- The selected-fault counter's three cases (R178): not selected, below 127, at 127. -/
theorem FaultLog.countEvent_eq {k : FaultKind} {n : Nat} {o : Bool}
    (counted : f.selected.getLsbD k.code = false ∧ n = f.count ∧ o = f.overflow ∨
      f.selected.getLsbD k.code = true ∧ f.count < 127 ∧ n = f.count + 1 ∧ o = f.overflow ∨
      f.selected.getLsbD k.code = true ∧ 127 ≤ f.count ∧ n = 127 ∧ o = true) :
    f.countEvent k = { f with count := n, overflow := o } := by
  unfold FaultLog.countEvent FaultKind.isIn
  rcases counted with ⟨out, rfl, rfl⟩ | ⟨selected, below, rfl, rfl⟩ | ⟨selected, top, rfl, rfl⟩
  · rw [if_neg (by rw [out]; exact Bool.false_ne_true)]
  · rw [if_pos selected, if_pos below]
  · rw [if_pos selected, if_neg (Nat.not_lt.2 top)]

theorem FaultLog.take_of_unmasked {n : Nat} {o : Bool} (unmasked : f.masks.getLsbD e.kind.code = false)
    (counted : f.selected.getLsbD e.kind.code = false ∧ n = f.count ∧ o = f.overflow ∨
      f.selected.getLsbD e.kind.code = true ∧ f.count < 127 ∧ n = f.count + 1 ∧ o = f.overflow ∨
      f.selected.getLsbD e.kind.code = true ∧ 127 ≤ f.count ∧ n = 127 ∧ o = true) :
    f.take e = { f.setSeverity e.kind.severity ((f.severityLog e.kind.severity).note f.stationTime e) with
      count := n, overflow := o } := by
  have start : f.take e =
      (f.setSeverity e.kind.severity ((f.severityLog e.kind.severity).note f.stationTime e)).countEvent e.kind :=
    if_neg (by rw [FaultKind.isIn, unmasked]; exact Bool.false_ne_true)
  obtain ⟨selected, count, overflow⟩ :=
    f.setSeverity_rest e.kind.severity ((f.severityLog e.kind.severity).note f.stationTime e)
  rw [start]
  exact FaultLog.countEvent_eq (by rw [selected, count, overflow]; exact counted)

theorem FaultLog.take_masks : (f.take e).masks = f.masks := by
  unfold FaultLog.take FaultLog.countEvent
  split
  · rfl
  · split_ifs <;> cases e.kind.severity <;> rfl

theorem SeverityLog.note_first (g : SeverityLog) (time : Nat) : (g.note time e).first.isSome = true := by
  unfold SeverityLog.note
  split
  · rfl
  · next filled => exact Option.isSome_of_mem filled

/-- An event that has been taken fills no FIRST record again: it is masked, or its record is filled. -/
theorem FaultLog.fills_take : (f.take e).fills e = false := by
  cases masked : f.masks.getLsbD e.kind.code with
  | true => rw [FaultLog.take_of_masked masked, FaultLog.fills, FaultKind.isIn, masked]; rfl
  | false =>
    have start : f.take e =
        (f.setSeverity e.kind.severity ((f.severityLog e.kind.severity).note f.stationTime e)).countEvent e.kind :=
      if_neg (by rw [FaultKind.isIn, masked]; exact Bool.false_ne_true)
    have filled : ((f.take e).severityLog e.kind.severity).first.isSome = true := by
      rw [start, FaultLog.severityLog_countEvent, FaultLog.severityLog_setSeverity]
      exact SeverityLog.note_first _ _
    rw [FaultLog.fills, ← Option.not_isSome, filled, Bool.not_true, Bool.and_false]

end

/-! ### A fault event in the station (R177 to R179) -/

theorem logWith_of_notFilled (n : Nat) {e : FaultEvent} {s : State} (filled : s.faults.fills e = false) :
    logWith (n + 1) e s = settlePermission { s with faults := s.faults.take e } := by
  unfold logWith
  simp only [filled, Bool.false_and, Bool.false_eq_true, if_false]

/-- R179: after an event whose notice met a full queue, one further event at most follows. -/
theorem logWith_queueFull (n m : Nat) (s : State) :
    logWith (n + 2) (queueFullEvent 0) s = logWith (m + 2) (queueFullEvent 0) s := by
  have ended (n : Nat) := logWith_of_notFilled n (e := queueFullEvent 0)
    (s := settlePermission { s with faults := s.faults.take (queueFullEvent 0) })
    (by rw [settlePermission_faults]; exact FaultLog.fills_take)
  unfold logWith
  simp only [ended]

section
variable {k : FaultKind} {x : Subject} {s : State}

theorem logFault_of_masked (masked : s.faults.masks.getLsbD k.code = true) : logFault k x s = settlePermission s := by
  rw [logFault, logWith_of_notFilled 2 (by rw [FaultLog.fills, FaultKind.isIn, masked]; rfl), FaultLog.take_of_masked masked]

theorem logFault_of_filled (filled : (s.faults.severityLog k.severity).first.isSome = true) :
    logFault k x s = settlePermission { s with faults := s.faults.take { kind := k, subject := x } } :=
  logWith_of_notFilled 2 (by rw [FaultLog.fills, ← Option.not_isSome, filled, Bool.not_true, Bool.and_false])

theorem logFault_of_noNotice
    (silent : (s.faults.severityLog k.severity).action = .none ∨ s.station.state = .strapFault) :
    logFault k x s = settlePermission { s with faults := s.faults.take { kind := k, subject := x } } := by
  unfold logFault logWith
  have off : (decide ((s.faults.severityLog k.severity).action ≠ .none) && decide (s.station.state ≠ .strapFault)) = false := by
    rcases silent with none | strap
    · rw [decide_eq_false (not_not_intro none), Bool.false_and]
    · rw [decide_eq_false (not_not_intro strap), Bool.and_false]
  simp only [Bool.and_assoc, off, Bool.and_false, Bool.false_eq_true, if_false]

theorem logFault_of_notice (unmasked : s.faults.masks.getLsbD k.code = false)
    (empty : (s.faults.severityLog k.severity).first = none) (asked : (s.faults.severityLog k.severity).action ≠ .none)
    (sends : s.station.state ≠ .strapFault) {v : State}
    (hv : v = settlePermission { s with faults := s.faults.take { kind := k, subject := x } }) :
    logFault k x s = if v.room then
        v.queued 0 (.reply .faultNotice (noticeBody k.severity { kind := k, time := s.faults.stationTime, subject := x }))
      else logWith 2 (queueFullEvent 0) v := by
  have on : (s.faults.fills { kind := k, subject := x } && decide ((s.faults.severityLog k.severity).action ≠ .none) &&
      decide (s.station.state ≠ .strapFault)) = true := by
    rw [FaultLog.fills, FaultKind.isIn, unmasked, empty, decide_eq_true asked, decide_eq_true sends]
    rfl
  unfold logFault logWith
  simp only [on, if_true, ← hv]
  rfl

end

/-- Settles O51: the log by its mask, its FIRST record and its counter; permission by the three parts of its definition. -/
theorem faultEventsLogged : Obligations.FaultEventsLogged := by
  refine ⟨fun k x s g hg => ⟨fun masked permitted => ?_, fun unmasked n o u counted hu => ?_⟩, fun s => ⟨?_, fun lost => ⟨?_, ?_⟩⟩,
    State.permission_iff⟩
  · rw [logFault_of_masked masked, settlePermission_of_ringingPermitted permitted]
  · have taken := FaultLog.take_of_unmasked (e := { kind := k, subject := x }) unmasked counted
    refine ⟨fun r first => ?_, ?_⟩
    · rw [logFault_of_filled (by rw [← hg, first]; rfl), taken, hu]
      simp only [← hg, SeverityLog.note, first]
      rfl
    · rintro empty r v rfl hv
      have settled : v = settlePermission { s with faults := s.faults.take { kind := k, subject := x } } := by
        rw [hv, hu, taken]
        simp only [← hg, SeverityLog.note, empty]
      have sameQueue : v.bus.queue = s.bus.queue := by rw [settled, settlePermission_queue]
      refine ⟨fun silent => ?_, fun asked sends => ?_⟩
      · rw [logFault_of_noNotice (by rw [← hg]; exact silent), settled]
      · rw [logFault_of_notice unmasked (by rw [← hg, empty]) (by rw [← hg]; exact asked) sends settled]
        refine ⟨fun below => ?_, fun full => ?_⟩
        · rw [if_pos ((State.room_iff _).2 (by rw [sameQueue]; exact below))]
        · rw [State.room_of_full (by rw [sameQueue]; exact full), logWith_queueFull 0 1]
          rfl
  · exact settlePermission_of_permission
  · rw [settlePermission_of_noPermission lost]
  · exact fun l => ⟨settlePermission_line, settlePermission_ringingLine lost⟩

end Sys2Proof.Machine
end

section
/-! O53: the supply's events (R186), with the checkpoint (R109) and the hold it drops (R141, R143). -/

namespace Sys2Proof.Machine

/-! ### The checkpoint, slot by slot (R109) -/

/-- The state `s` with the slots and the queue of `u`. -/
def State.withSlotsAndQueue (s u : State) : State :=
  { s with table := { s.table with slots := u.table.slots }, bus := { s.bus with queue := u.bus.queue } }

/-- The session as the checkpoint leaves it. -/
def Session.checkpointed (x : Session) : Session :=
  if x.state = .active ∨ x.state = .cutoffGrace ∨ x.state = .detached then { x with postCounter := 0 } else x

/-- The CHARGE that the checkpoint offers of a slot. -/
def State.checkpointEntry (s : State) (k : Fin 12) : Option Entry :=
  s.table.slots[k].session.bind (fun x =>
    if x.state = .active ∨ x.state = .cutoffGrace ∨ x.state = .detached then
      some { destination := x.home.getD 0,
             payload := .charge { handle := s.handleAt k, account := x.account, home := x.home.getD 0,
                                  total := x.total, endCause := none } none,
             inFlight := false, mismatches := 0 }
    else none)

theorem State.withSlotsAndQueue_store (s u : State) : (s.withSlotsAndQueue u).store = s.store := rfl

theorem State.eq_withSlotsAndQueue_trans {s u v : State} (first : u = s.withSlotsAndQueue u) (second : v = u.withSlotsAndQueue v) :
    v = s.withSlotsAndQueue v := by
  generalize hw : v.table.slots = w at *
  generalize hq : v.bus.queue = q at *
  unfold State.withSlotsAndQueue at *
  rw [second, first]

section
variable {s : State} {k j : Fin 12} {x : Session}

theorem checkpointSlot_of_free (free : s.table.slots[k].session = none) : checkpointSlot s k = s :=
  if_neg (by rw [Slot.live, free]; exact Bool.false_ne_true)

theorem checkpointSlot_of_notLive (holds : s.table.slots[k].session = some x) (off : x.state.live = false) :
    checkpointSlot s k = s := if_neg (by rw [Slot.live, holds]; simp only; rw [off]; exact Bool.false_ne_true)

theorem checkpointSlot_of_live (holds : s.table.slots[k].session = some x) (live : x.state.live = true) :
    checkpointSlot s k = offerCharge k (s.setSlot k { s.table.slots[k] with session := some { x with postCounter := 0 } }) := by
  rw [checkpointSlot, if_pos (by rw [Slot.live, holds]; exact live), State.modSession_of_session _ holds]

theorem checkpointSlot_leaves : checkpointSlot s k = s.withSlotsAndQueue (checkpointSlot s k) := by
  have offered (u : State) : offerCharge k u = u.withSlotsAndQueue (offerCharge k u) := by
    unfold offerCharge
    split
    · rfl
    · split
      · rfl
      · rfl
      · split <;> rfl
  unfold checkpointSlot
  split
  · exact State.eq_withSlotsAndQueue_trans (by rfl) (offered _)
  · rfl

theorem checkpointSlot_other (ne : j ≠ k) : (checkpointSlot s k).table.slots[j] = s.table.slots[j] := by
  cases live : s.table.slots[k].live with
  | false => rw [checkpointSlot, if_neg (by rw [live]; exact Bool.false_ne_true)]
  | true => rw [checkpointSlot, if_pos live, offerCharge_table, State.modSession_slot_ne _ ne]

theorem checkpointSlot_own : (checkpointSlot s k).table.slots[k] =
    { s.table.slots[k] with session := s.table.slots[k].session.map Session.checkpointed } := by
  cases holds : s.table.slots[k].session with
  | none => rw [checkpointSlot_of_free holds, Option.map_none, ← holds]
  | some x =>
    rw [Option.map_some, Session.checkpointed]
    cases live : x.state.live with
    | true =>
      rw [if_pos ((SessionState.live_iff _).1 live), checkpointSlot_of_live holds live, offerCharge_table, State.setSlot_slot]
    | false =>
      rw [if_neg (fun h => Bool.false_ne_true (live.symm.trans ((SessionState.live_iff _).2 h))),
        checkpointSlot_of_notLive holds live, ← holds]

theorem checkpointSlot_handleAt : (checkpointSlot s k).handleAt j = s.handleAt j := by
  have generation : (checkpointSlot s k).table.slots[j].generation = s.table.slots[j].generation := by
    by_cases same : j = k
    · rw [same, checkpointSlot_own]
    · rw [checkpointSlot_other same]
  rw [checkpointSlot_leaves] at generation ⊢
  exact congrArg (Handle.mk _ _) generation

theorem checkpointEntry_other (ne : j ≠ k) : (checkpointSlot s k).checkpointEntry j = s.checkpointEntry j := by
  unfold State.checkpointEntry
  rw [checkpointSlot_other ne, checkpointSlot_handleAt]

/-- With no CHARGE of the handle queued, the CHARGE of a live session joins the queue while it has room. -/
theorem checkpointSlot_queue (absent : ∀ e ∈ s.bus.queue, Entry.chargesFor (s.handleAt k) e = false) :
    (checkpointSlot s k).bus.queue = s.bus.queue ++ (s.checkpointEntry k).toList.take (24 - s.bus.queue.length) := by
  unfold State.checkpointEntry
  cases holds : s.table.slots[k].session with
  | none => rw [checkpointSlot_of_free holds]; rw [Option.bind_none, Option.toList_none, List.take_nil, List.append_nil]
  | some x =>
    rw [Option.bind_some]
    cases live : x.state.live with
    | false =>
      rw [if_neg (fun h => Bool.false_ne_true (live.symm.trans ((SessionState.live_iff _).2 h))),
        checkpointSlot_of_notLive holds live, Option.toList_none, List.take_nil, List.append_nil]
    | true =>
      rw [if_pos ((SessionState.live_iff _).1 live), checkpointSlot_of_live holds live, Option.toList_some]
      generalize hu : s.setSlot k { s.table.slots[k] with session := some { x with postCounter := 0 } } = u
      have queue : u.bus.queue = s.bus.queue := by rw [← hu]; rfl
      have slot : u.table.slots[k] = { s.table.slots[k] with session := some { x with postCounter := 0 } } := by
        rw [← hu, State.setSlot_slot]
      have handle : u.handleAt k = s.handleAt k := by
        unfold State.handleAt
        rw [slot, ← hu]
        rfl
      obtain ⟨joins, refused, _⟩ := offerCharge_findings (s := u) (k := k) (x := { x with postCounter := 0 }) (by rw [slot])
      rw [handle, queue] at joins
      rw [handle, queue] at refused
      by_cases room : s.bus.queue.length < 24
      · rw [joins absent room, List.take_of_length_le (by rw [List.length_singleton]; omega)]
        exact congrArg (· ++ _) queue
      · rw [refused absent (by omega), Nat.sub_eq_zero_of_le (by omega), List.take_zero, List.append_nil, queue]

theorem checkpointEntry_handle {e : Entry} (offers : s.checkpointEntry k = some e) (ne : j ≠ k) :
    Entry.chargesFor (s.handleAt j) e = false := by
  obtain ⟨x, _, chosen⟩ := Option.bind_eq_some_iff.1 offers
  split at chosen
  · cases chosen
    exact decide_eq_false fun same => ne (Fin.ext (congrArg Handle.slot same).symm)
  · cases chosen

/-! ### The checkpoint, whole -/

theorem foldl_checkpointSlot_leaves (ks : List (Fin 12)) (s : State) :
    ks.foldl checkpointSlot s = s.withSlotsAndQueue (ks.foldl checkpointSlot s) := by
  induction ks generalizing s with
  | nil => rfl
  | cons k ks ih => exact State.eq_withSlotsAndQueue_trans checkpointSlot_leaves (ih _)

theorem foldl_checkpointSlot_slot (ks : List (Fin 12)) (distinct : ks.Nodup) (s : State) :
    (ks.foldl checkpointSlot s).table.slots[j] = if j ∈ ks then
      { s.table.slots[j] with session := s.table.slots[j].session.map Session.checkpointed } else s.table.slots[j] := by
  induction ks generalizing s with
  | nil => rfl
  | cons k ks ih =>
    obtain ⟨fresh, distinct⟩ := List.nodup_cons.1 distinct
    rw [List.foldl_cons, ih distinct]
    by_cases same : j = k
    · rw [same, if_neg fresh, if_pos List.mem_cons_self, checkpointSlot_own]
    · rw [checkpointSlot_other same]
      simp only [List.mem_cons, same, false_or]

theorem foldl_checkpointSlot_queue (ks : List (Fin 12)) (distinct : ks.Nodup) (s : State)
    (absent : ∀ k ∈ ks, ∀ e ∈ s.bus.queue, Entry.chargesFor (s.handleAt k) e = false) :
    (ks.foldl checkpointSlot s).bus.queue =
      s.bus.queue ++ (ks.filterMap s.checkpointEntry).take (24 - s.bus.queue.length) := by
  induction ks generalizing s with
  | nil => rw [List.filterMap_nil, List.take_nil, List.append_nil]; rfl
  | cons k ks ih =>
    obtain ⟨fresh, distinct⟩ := List.nodup_cons.1 distinct
    have others (j : Fin 12) (hj : j ∈ ks) : j ≠ k := fun same => fresh (same ▸ hj)
    have queue := checkpointSlot_queue (absent k List.mem_cons_self)
    have entries : ks.filterMap (checkpointSlot s k).checkpointEntry = ks.filterMap s.checkpointEntry :=
      List.filterMap_congr fun j hj => checkpointEntry_other (others j hj)
    rw [List.foldl_cons, ih distinct, entries, queue, List.filterMap_cons]
    · cases s.checkpointEntry k with
      | none => simp only [Option.toList_none, List.take_nil, List.append_nil]
      | some e =>
        simp only [Option.toList_some]
        by_cases room : s.bus.queue.length < 24
        · rw [List.take_of_length_le (by rw [List.length_singleton]; omega), List.length_append, List.length_singleton,
            show 24 - s.bus.queue.length = (24 - (s.bus.queue.length + 1)) + 1 by omega, List.take_succ_cons, List.append_assoc]
          rfl
        · rw [Nat.sub_eq_zero_of_le (show 24 ≤ s.bus.queue.length by omega), List.take_zero, List.append_nil,
            Nat.sub_eq_zero_of_le (show 24 ≤ s.bus.queue.length by omega)]
          rfl
    · intro j hj e he
      rw [checkpointSlot_handleAt]
      rw [queue] at he
      rcases List.mem_append.1 he with old | new
      · exact absent j (List.mem_cons_of_mem _ hj) e old
      · exact checkpointEntry_handle (Option.mem_toList.1 (List.mem_of_mem_take new)) (others j hj)

/-! ### The supply's events -/

theorem dropHold_of_notHeld {u : State} (off : u.store.hold = .notHeld) : dropHold u = u := by
  unfold dropHold
  rw [off]

theorem dropHold_of_held {u : State} (on : u.store.hold = .held) : dropHold u = endHold u := by
  unfold dropHold
  rw [on]

theorem dropHold_of_pending {u : State} (waits : u.store.hold = .pending) :
    dropHold u = answerHolds .refusedState u.store.waitingHolds { u with store := { u.store with hold := .notHeld, waitingHolds := 0 } } := by
  unfold dropHold
  rw [waits]
  rfl

theorem checkpoint_leaves (u : State) : checkpoint u = u.withSlotsAndQueue (checkpoint u) := foldl_checkpointSlot_leaves allSlots u

theorem checkpoint_slot (u : State) (k : Fin 12) : (checkpoint u).table.slots[k] =
    { u.table.slots[k] with session := u.table.slots[k].session.map Session.checkpointed } := by
  rw [checkpoint, foldl_checkpointSlot_slot allSlots (List.nodup_finRange 12), allSlots, if_pos (List.mem_finRange k)]

theorem checkpoint_queue {u : State} (absent : ∀ k : Fin 12, ∀ e ∈ u.bus.queue, Entry.chargesFor (u.handleAt k) e = false) :
    (checkpoint u).bus.queue =
      u.bus.queue ++ ((List.finRange 12).filterMap u.checkpointEntry).take (24 - u.bus.queue.length) := by
  rw [checkpoint, foldl_checkpointSlot_queue allSlots (List.nodup_finRange 12) u fun k _ => absent k]
  rfl

theorem checkpoint_store (u : State) : (checkpoint u).store = u.store := by
  rw [checkpoint_leaves, State.withSlotsAndQueue_store]

theorem settledFault_store (kind : FaultKind) (y : Subject) (u : State) :
    (settlePermission (logFault kind y u)).store = u.store := by simp

theorem exec_supplyBelowWarn_of_normal (running : s.inReset = false) (normal : s.supply.state = .normal) :
    exec .supplyBelowWarn s = .next (dropHold (checkpoint (settlePermission (logFault .powerLow Subject.blank
      { s with supply := { state := .low, recoveryRunning := false, aboveWarn := false } })))) := by
  change execSupplyBelowWarn s = _
  unfold execSupplyBelowWarn supplyFalls
  simp only [running, normal, Bool.false_or]
  rw [if_neg (by decide)]

theorem exec_recoveryTimerExpiry (running : s.inReset = false) :
    exec .recoveryTimerExpiry s = .next (if s.supply.state = .low ∧ s.supply.recoveryRunning then
      settlePermission { s with supply := { s.supply with state := .normal, recoveryRunning := false } } else s) :=
  awake_of_running running

end

/-- Settles O53: the fall in the order of its effects; the checkpoint by the slots in turn. -/
theorem supplyEvents : Obligations.SupplyEvents := by
  refine ⟨fun s => ⟨fun running normal w hw => ?_, fun unmoved => ?_, fun running low => ⟨?_, fun runs => ?_, fun stopped => ?_⟩,
    fun unmoved => ⟨?_, ?_⟩⟩, fun s => ⟨?_, fun k => ?_, fun absent => ?_⟩⟩
  · have store : w.store = s.store := (congrArg State.store hw).trans ((checkpoint_store _).trans (settledFault_store _ _ _))
    rw [exec_supplyBelowWarn_of_normal running normal, ← hw]
    refine ⟨fun off => ?_, fun on => ?_, fun waits => ?_⟩
    · rw [dropHold_of_notHeld (by rw [store]; exact off)]
    · rw [dropHold_of_held (by rw [store]; exact on)]
    · rw [dropHold_of_pending (by rw [store]; exact waits), store]
  · refine congrArg Host.Outcome.next (if_pos ?_)
    rcases unmoved with reset | low
    · rw [reset, Bool.true_or]
    · rw [decide_eq_true low, Bool.or_true]
  · change execSupplyAboveWarn s = _
    unfold execSupplyAboveWarn
    rw [running, low]
    rfl
  · rw [exec_recoveryTimerExpiry running, if_pos ⟨low, runs⟩]
  · rw [exec_recoveryTimerExpiry running, if_neg (fun h => Bool.false_ne_true (stopped.symm.trans h.2))]
  · change execSupplyAboveWarn s = _
    unfold execSupplyAboveWarn
    rw [if_pos]
    rcases unmoved with reset | normal
    · rw [reset, Bool.true_or]
    · rw [decide_eq_true normal, Bool.or_true]
  · rcases unmoved with reset | normal
    · exact congrArg Host.Outcome.next (if_pos reset)
    · cases running : s.inReset with
      | true => exact congrArg Host.Outcome.next (if_pos running)
      | false => rw [exec_recoveryTimerExpiry running, if_neg (fun h => SupplyState.noConfusion (normal.symm.trans h.1))]
  · have leaves := checkpoint_leaves s
    generalize checkpoint s = t at leaves ⊢
    exact leaves
  · rw [checkpoint_slot]
    rfl
  · refine checkpoint_queue fun k e he => ?_
    unfold Entry.chargesFor
    cases payload : e.payload with
    | charge c o => exact absurd payload (absent e he c o)
    | _ => rfl

end Sys2Proof.Machine
end

section
/-! O54: how a reset of each kind begins (R187), with the access that a PIN reset cuts off (R139, R157). -/

namespace Sys2Proof.Machine

/-! ### Words written one after another -/

/-- Words given to a list of numbers, in canonical form: read, they are as written at the numbers and as before elsewhere. -/
theorem Memory.read_foldl_write (f : Nat → StoredWord) (ws : List Nat) (m : Memory) (canonical : m.wf = true)
    (fit : ∀ w ∈ ws, w < 2048) (n : Nat) :
    (ws.foldl (fun m w => m.write w (f w)) m).read n = if n ∈ ws then f n else m.read n := by
  induction ws generalizing m with
  | nil => rfl
  | cons w ws ih =>
    have first := fit w List.mem_cons_self
    rw [List.foldl_cons, ih _ (Memory.wf_write _ canonical first) fun v hv => fit v (List.mem_cons_of_mem _ hv)]
    by_cases later : n ∈ ws
    · rw [if_pos later, if_pos (List.mem_cons_of_mem _ later)]
    · rw [if_neg later]
      by_cases same : n = w
      · rw [same, if_pos List.mem_cons_self, Memory.read_write_same _ canonical]
      · rw [if_neg (by simp only [List.mem_cons, same, later, or_self, not_false_eq_true]), Memory.read_write_other _ canonical same]

/-! ### The access cut off (R139) -/

/-- The numbers of the words that the access in progress writes and the store has. -/
def State.wordsToCut (s : State) : List Nat := s.accessWords.filter (fun w => decide (w < 2048))

/-- How many of them are written when a reset cuts the access off: the free value's say (log entry 7). -/
def State.cutAt (s : State) : Nat := Config.cutWords s.freeDraws % (s.wordsToCut.length + 1)

section
variable {s : State} {m : Migration}

theorem cutAccess_of_none (idle : s.store.access = none) : cutAccess s = s := if_pos (by rw [idle]; rfl)

theorem cutAccess_words (busy : s.store.access ≠ none) : (cutAccess s).store.words =
    (s.wordsToCut.take s.cutAt).foldl (fun m w => m.write w ((accessEffect s).store.words.read w)) s.store.words := by
  rw [cutAccess, if_neg (fun h => busy (Option.isNone_iff_eq_none.1 h))]
  rfl

theorem cutAccess_ofOther (other : s.store.access ≠ some .migration) :
    (cutAccess s).store.migration = s.store.migration ∧ (cutAccess s).store.spareMap = s.store.spareMap ∧
      (cutAccess s).store.corrected = s.store.corrected ∧ (cutAccess s).store.advised = s.store.advised := by
  unfold cutAccess
  split
  · exact ⟨rfl, rfl, rfl, rfl⟩
  · simp only [decide_eq_false other, Bool.false_and, Bool.false_eq_true, if_false, and_self]

theorem cutAccess_kept (s : State) :
    (cutAccess s).store.clearComplete = s.store.clearComplete ∧ (cutAccess s).store.scrubPointer = s.store.scrubPointer := by
  unfold cutAccess
  split <;> exact ⟨rfl, rfl⟩

theorem State.wordsToCut_lt : ∀ w ∈ s.wordsToCut.take s.cutAt, w < 2048 := fun w hw =>
  have here : w ∈ s.wordsToCut := List.mem_of_mem_take hw
  of_decide_eq_true (List.mem_filter.1 here).2

/-- R139: each word is as before or, if it is one of those first words, as the access writes it. -/
theorem cutAccess_read (canonical : s.wordsCanonical) (n : Nat) : (cutAccess s).store.words.read n =
    if s.store.access ≠ none ∧ n ∈ s.wordsToCut.take s.cutAt then (accessEffect s).store.words.read n
    else s.store.words.read n := by
  by_cases idle : s.store.access = none
  · rw [cutAccess_of_none idle, if_neg fun h => h.1 idle]
  · rw [cutAccess_words idle, Memory.read_foldl_write _ _ _ canonical State.wordsToCut_lt]
    simp only [idle, ne_eq, not_false_eq_true, true_and]

theorem State.wordsToCut_of_fit (fit : ∀ n ∈ s.accessWords, n < 2048) : s.wordsToCut = s.accessWords :=
  List.filter_eq_self.2 fun n hn => decide_eq_true (fit n hn)

theorem State.accessWords_of_none (idle : s.store.access = none) : s.accessWords = [] := by
  unfold State.accessWords
  rw [idle]

/-! ### A migration step cut off (R157) -/

theorem countCorrected_store (w : Nat) (g : Fin 8) (segment : w / 256 = g.val) (s : State) :
    (countCorrected w s).store.spareMap = s.store.spareMap ∧
      (countCorrected w s).store.corrected.set g 0 = s.store.corrected.set g 0 ∧
      (countCorrected w s).store.advised.set g false = s.store.advised.set g false := by
  refine ⟨countCorrected_spareMap w s, ?_⟩
  unfold countCorrected segmentOf
  rw [segment]
  simp only [(logFault_keeps _ _ _).2.2.2.1]
  split <;> simp only [(logFault_keeps _ _ _).2.2.2.1, setSegment_eq, State.setStore, Vector.set_set, and_self]

theorem reportUncorrectable_store (w : Nat) (s : State) : (reportUncorrectable w s).store = s.store := by
  unfold reportUncorrectable
  split <;> simp

/-- What a migration step leaves of the store beside its words: the pointer moved on, or the migration completed. -/
theorem migrationAccess_store (m : Migration) (s : State) :
    (m.pointer < 255 → (migrationAccess m s).store.migration = some { m with pointer := m.pointer + 1, timerRunning := true } ∧
      (migrationAccess m s).store.spareMap = s.store.spareMap) ∧
    (m.pointer = 255 → (migrationAccess m s).store.migration = none ∧
      (migrationAccess m s).store.spareMap = s.store.spareMap.set m.segment m.pendingEntry ∧
      (migrationAccess m s).store.corrected = s.store.corrected.set m.segment 0 ∧
      (migrationAccess m s).store.advised = s.store.advised.set m.segment false) := by
  generalize hr : readStored s.store.spareMap[m.segment] (s.store.words.read m.word) = r
  have segment (below : m.pointer < 256) : m.word / 256 = m.segment.val := by
    unfold Migration.word
    omega
  generalize hu : (if r.outcome = .corrected then countCorrected m.word s else s) = u
  generalize hv : (if r.outcome = .uncorrectable then reportUncorrectable m.word u else u) = v
  have counted (below : m.pointer < 256) : v.store.spareMap = s.store.spareMap ∧
      v.store.corrected.set m.segment 0 = s.store.corrected.set m.segment 0 ∧
      v.store.advised.set m.segment false = s.store.advised.set m.segment false := by
    have store : v.store = u.store := by
      rw [← hv]
      split
      · exact reportUncorrectable_store _ u
      · rfl
    rw [store, ← hu]
    split
    · exact countCorrected_store _ _ (segment below) s
    · exact ⟨rfl, rfl, rfl⟩
  have step := migrationAccess_eq (m := m) (s := s) rfl hr.symm (v := v) (by rw [hu, hv]) rfl
  refine ⟨fun below => ?_, fun last => ?_⟩
  · obtain ⟨spareMap, -, -⟩ := counted (by omega)
    rw [step, if_pos (by omega)]
    exact ⟨rfl, spareMap⟩
  · obtain ⟨spareMap, corrected, advised⟩ := counted (by omega)
    rw [step, if_neg (by omega), completeMigration, (offerResult_keeps _ _ _ _).2.2.2.1]
    exact ⟨rfl, congrArg (fun map => map.set m.segment m.pendingEntry) spareMap, corrected, advised⟩

/-- R157: a migration step is made whole or not at all, but for its counting (log entry 7). -/
theorem cutAccess_ofMigration (access : s.store.access = some .migration) (migrating : s.store.migration = some m)
    (below : m.pointer < 256) :
    ((cutAccess s).store.words = s.store.words ∧ (cutAccess s).store.migration = some m ∧
      (cutAccess s).store.spareMap = s.store.spareMap ∧ (cutAccess s).store.corrected = s.store.corrected ∧
      (cutAccess s).store.advised = s.store.advised) ∨
    ((cutAccess s).store.words = s.store.words.write m.word ((accessEffect s).store.words.read m.word) ∧
      (m.pointer < 255 → (cutAccess s).store.migration = some { m with pointer := m.pointer + 1, timerRunning := true } ∧
        (cutAccess s).store.spareMap = s.store.spareMap ∧ (cutAccess s).store.corrected = s.store.corrected ∧
        (cutAccess s).store.advised = s.store.advised) ∧
      (m.pointer = 255 → (cutAccess s).store.migration = none ∧
        (cutAccess s).store.spareMap = s.store.spareMap.set m.segment m.pendingEntry ∧
        (cutAccess s).store.corrected = s.store.corrected.set m.segment 0 ∧
        (cutAccess s).store.advised = s.store.advised.set m.segment false)) := by
  have effect : accessEffect s = migrationAccess m s := by
    unfold accessEffect
    rw [access, migrating]
  have words : s.wordsToCut = [m.word] := by
    have listed : s.accessWords = [m.word] := by
      unfold State.accessWords
      rw [access, migrating]
    have word : m.word < 2048 := by
      have := m.segment.isLt
      unfold Migration.word
      omega
    rw [State.wordsToCut_of_fit (by rw [listed]; exact List.forall_mem_singleton.2 word), listed]
  obtain ⟨before, last⟩ := migrationAccess_store m s
  have cut : s.cutAt = 0 ∨ s.cutAt = 1 := by
    have : s.cutAt < s.wordsToCut.length + 1 := Nat.mod_lt _ (Nat.succ_pos _)
    rw [words, List.length_singleton] at this
    omega
  have store : (cutAccess s).store = { s.store with
      words := (s.wordsToCut.take s.cutAt).foldl (fun m w => m.write w ((accessEffect s).store.words.read w)) s.store.words,
      migration := if 0 < s.cutAt then (accessEffect s).store.migration else s.store.migration,
      spareMap := if 0 < s.cutAt then (accessEffect s).store.spareMap else s.store.spareMap,
      corrected := if 0 < s.cutAt ∧ (accessEffect s).store.migration = none then (accessEffect s).store.corrected
        else s.store.corrected,
      advised := if 0 < s.cutAt ∧ (accessEffect s).store.migration = none then (accessEffect s).store.advised
        else s.store.advised } := by
    rw [cutAccess, if_neg (by rw [access]; exact nofun)]
    simp only [access, decide_true, Bool.true_and, decide_eq_true_eq, Bool.and_eq_true, Option.isNone_iff_eq_none]
    rfl
  rw [store, words, effect]
  generalize migrationAccess m s = w at before last
  rcases cut with zero | one
  · rw [zero]
    exact .inl ⟨rfl, migrating, rfl, rfl, rfl⟩
  · rw [one]
    refine .inr ⟨rfl, fun early => ?_, fun final => ?_⟩
    · obtain ⟨migration, spareMap⟩ := before early
      have goesOn : ¬ (0 < 1 ∧ w.store.migration = none) := fun h => nomatch migration.symm.trans h.2
      exact ⟨migration, spareMap, if_neg goesOn, if_neg goesOn⟩
    · obtain ⟨migration, spareMap, corrected, advised⟩ := last final
      exact ⟨migration, spareMap, (if_pos ⟨Nat.one_pos, migration⟩).trans corrected, (if_pos ⟨Nat.one_pos, migration⟩).trans advised⟩

/-! ### What a PIN or COMMAND reset leaves -/

theorem resetKept_keptAcross (s : State) : s.keptAcross (resetKept s) := by
  have store : (resetKept s).store = (cutAccess s).store.kept := rfl
  obtain ⟨clearComplete, scrubPointer⟩ := cutAccess_kept s
  refine ⟨rfl, rfl, rfl, rfl, rfl, resetKept_pending s, ?_, fun other => ?_, fun idle => ?_, fun canonical n => ?_,
    fun canonical fit => ?_, fun m n access migrating below hn => ?_⟩
  · rw [store, Store.kept, clearComplete, scrubPointer]
  · obtain ⟨migration, spareMap, corrected, advised⟩ := cutAccess_ofOther other
    rw [store, Store.kept, migration]
    exact ⟨rfl, spareMap, corrected, advised⟩
  · have same := cutAccess_of_none idle
    have words : (cutAccess s).store.words = s.store.words := by rw [same]
    have free : (cutAccess s).freeDraws = s.freeDraws := by rw [same]
    exact ⟨words, free⟩
  · have read := cutAccess_read canonical n
    split at read
    · next cut => exact .inr ⟨List.mem_of_mem_filter (List.mem_of_mem_take cut.2), read⟩
    · exact .inl read
  · refine ⟨s.cutAt, fun n => (cutAccess_read canonical n).trans ?_⟩
    rw [State.wordsToCut_of_fit fit]
    by_cases idle : s.store.access = none
    · rw [State.accessWords_of_none idle, if_neg fun h => h.1 idle, List.take_nil, if_neg List.not_mem_nil]
    · simp only [idle, ne_eq, not_false_eq_true, true_and]
  · have word : n = m.word := hn
    rw [store, word]
    rcases cutAccess_ofMigration access migrating below with ⟨words, migration, rest⟩ | ⟨words, early, final⟩
    · exact .inl ⟨words, by rw [Store.kept, migration]; rfl, rest⟩
    · refine .inr ⟨words, fun h => ?_, fun h => ?_⟩
      · obtain ⟨migration, rest⟩ := early h
        exact ⟨by rw [Store.kept, migration]; rfl, rest⟩
      · obtain ⟨migration, rest⟩ := final h
        exact ⟨by rw [Store.kept, migration]; rfl, rest⟩

end

/-- Settles O54: a PIN reset by what the access cut off has written; the others by the values of a reset. -/
theorem resetsBegin : Obligations.ResetsBegin := by
  refine ⟨fun s => ⟨_, rfl, resetKept_keptAcross s, rfl, rfl, rfl, rfl⟩, fun s => ⟨_, _, rfl, rfl, rfl, rfl⟩, fun eight l => ?_⟩
  exact Vector.getElem_ofFn l.isLt

end Sys2Proof.Machine
end

section
/-! O55: how a reset ends (R187 to R189, R174), and that it holds every block meanwhile. -/

namespace Sys2Proof.Machine

section
variable {s : State} {p : Straps} {f : ResetForce}

/-! ### The end of a reset -/

theorem leaveReset_of_held (held : f.powerOn = true ∨ f.brownout = true ∨ f.pin = true) :
    leaveReset f p s = { s with station := { s.station with force := f } } := by
  refine if_pos ?_
  change (f.powerOn || f.brownout || f.pin) = true
  rcases held with on | on | on <;> simp only [on, Bool.or_true, Bool.true_or]

theorem leaveReset_of_free (powerOn : f.powerOn = false) (brownout : f.brownout = false) (pin : f.pin = false) :
    leaveReset f p s = finishReset f.cause p { s with station := { s.station with force := f } } := by
  refine if_neg ?_
  change ¬ (f.powerOn || f.brownout || f.pin) = true
  simp only [powerOn, brownout, pin, Bool.or_self, Bool.false_eq_true, not_false_eq_true]

theorem finishReset_eq (cause : ResetKind) (fits : p.address < 16) : finishReset cause p s = { s with
      lines := linesAfterReset p.eightLines, supply := { s.supply with recoveryRunning := s.supply.aboveWarn },
      station := { s.station with
        state := if p.address = 0 then .strapFault else if s.store.clearComplete then .awaitingConfig else .starting,
        address := p.address, eightLines := p.eightLines, resetCause := cause, force := ResetForce.clear } } := by
  unfold finishReset stateAfterReset
  rw [Nat.mod_eq_of_lt fits]

theorem exec_resetPinReleased (pin : s.station.force.pin = true) :
    exec (.resetPinReleased p) s = .next (leaveReset { s.station.force with pin := false } p s) :=
  congrArg Host.Outcome.next (if_pos pin)

theorem exec_supplyAboveReset (held : s.station.force.powerOn = true ∨ s.station.force.brownout = true) :
    exec (.supplyAboveReset p) s = .next (leaveReset { s.station.force with powerOn := false, brownout := false } p s) :=
  congrArg Host.Outcome.next (if_pos (Bool.or_eq_true_iff.2 held))

/-! ### A reset in progress (R187) -/

theorem finishAccess_of_reset {r : Requester} (reset : s.inReset = true) : finishAccess r s = .next s :=
  if_pos (by rw [reset, Bool.true_or])

theorem exec_of_carried_of_reset {c : Instr} {g : Handed} (frame : carried c = some g) (reset : s.inReset = true) :
    exec c s = .next s := by
  have unserved : s.serves g = false := by
    unfold State.serves
    rw [reset]
    rfl
  rw [exec_of_carried frame, takeHanded, unserved]
  rfl

theorem exec_of_reset {c : Instr} (reset : s.inReset = true) (notBelowWarn : c ≠ .supplyBelowWarn) (notAboveWarn : c ≠ .supplyAboveWarn)
    (notBelowReset : c ≠ .supplyBelowReset) (notPower : c ≠ .powerApplied) (notPin : c ≠ .resetPinAsserted)
    (notEnd : ∀ p, c ≠ .supplyAboveReset p ∧ c ≠ .resetPinReleased p) : exec c s = .next s := by
  cases frame : carried c with
  | some g => exact exec_of_carried_of_reset frame reset
  | none =>
    cases c with
    | claimEvaluation =>
      change execClaimEvaluation s = _
      unfold execClaimEvaluation
      split
      · exact finishAccess_of_reset reset
      · rfl
    | chargeApplication =>
      change execChargeApplication s = _
      unfold execChargeApplication
      split
      · exact finishAccess_of_reset reset
      · rfl
    | hostCommandAccessEnd =>
      change execHostCommandAccessEnd s = _
      unfold execHostCommandAccessEnd
      split
      · exact finishAccess_of_reset reset
      · rfl
    | scrubStep => exact finishAccess_of_reset reset
    | migrationStep => exact finishAccess_of_reset reset
    | supplyBelowWarn => exact absurd rfl notBelowWarn
    | supplyAboveWarn => exact absurd rfl notAboveWarn
    | supplyBelowReset => exact absurd rfl notBelowReset
    | powerApplied => exact absurd rfl notPower
    | resetPinAsserted => exact absurd rfl notPin
    | supplyAboveReset p => exact absurd rfl (notEnd p).1
    | resetPinReleased p => exact absurd rfl (notEnd p).2
    | ringBurst | burstEnd | ringSeriesTimerExpiry | carrierPresence | answerTimerExpiry | carrierLoss | hangUpHoldTimerExpiry
    | receiverArmed | speedIntervalEnd | speedDecodeEnd | speedDetectTimerExpiry | character | framingError | lineBreak
    | dataTriggerAge | signOnTimerExpiry | transmitCharacter | claimTimerExpiry | silenceTimerExpiry | detachGraceExpiry
    | cutoffGraceExpiry | tallyHeartbeatExpiry | censusAgeExpiry | tick | posting | bandFlip | holdTimerExpiry | scrubTimerExpiry
    | storeClearComplete | migrationStepTimerExpiry | frameReceived | busIdle | transmissionStart | frameSent | readBackMismatch
    | recoveryTimerExpiry | trainStart => exact congrArg Host.Outcome.next (if_pos reset)
    | _ => cases frame

end

/-- Settles O55: the reset ends where no kind is in force any more; during it every event and every frame finds the station held. -/
theorem resetsEnd : Obligations.ResetsEnd := by
  refine ⟨fun p s t fits ht => ⟨fun pin powerOn brownout => ?_, fun pin held => ?_, fun noPin => ?_, fun held => ⟨fun noPin => ?_, fun pin => ?_⟩,
    fun powerOn brownout => ?_⟩, fun b p s takes fits => ?_, fun _ _ => exec_of_reset, fun s running starting notClear => ⟨?_, fun _ => rfl⟩⟩
  · rw [exec_resetPinReleased pin, leaveReset_of_free (by exact powerOn) (by exact brownout) (by rfl), finishReset_eq _ fits, ht]
    rfl
  · rw [exec_resetPinReleased pin, leaveReset_of_held (by exact held.imp_right .inl)]
  · exact congrArg Host.Outcome.next (if_neg (by rw [noPin]; exact Bool.false_ne_true))
  · rw [exec_supplyAboveReset held, leaveReset_of_free (by rfl) (by rfl) (by exact noPin), finishReset_eq _ fits, ht]
    rfl
  · rw [exec_supplyAboveReset held, leaveReset_of_held (by exact .inr (.inr pin))]
  · exact congrArg Host.Outcome.next (if_neg (by rw [powerOn, brownout]; exact Bool.false_ne_true))
  · have taken : exec (.stationReset b p) s = .next (finishReset .command p (resetKept (s.taking (.command .stationReset b)))) :=
      congrArg Host.Outcome.next (takeHanded_of_takesNow (takeStationReset p) takes)
    rw [finishReset_eq _ fits] at taken
    have clear : (resetKept (s.taking (.command .stationReset b))).store.clearComplete = s.store.clearComplete := (cutAccess_kept _).1
    exact ⟨_, taken, resetKept_keptAcross _, rfl, rfl, by rw [← clear]; rfl⟩
  · exact (awake_of_running running).trans (congrArg Host.Outcome.next (if_pos ⟨starting, notClear⟩))

end Sys2Proof.Machine
end

section
/-! O59: lines, sessions, detach order and final CHARGEs. An abstract view of a state holds what the statement speaks of; most
operations leave the view as it is, and the few that change a call change it at one line and one slot. -/

namespace Sys2Proof.Machine

/-! ### The view -/

/-- A line of the view: its served slot, its state where it is locked (IDLE stands for every other), and whether its context waits
for a slot where none may be awaited. -/
structure LineView where
  slot : Option (Fin 12)
  state : LineState
  strays : Bool

/-- A session of the view. -/
structure SessionView where
  line : Option (Fin 8)
  state : SessionState
  abandoned : Bool

structure SlotView where
  generation : Nat
  session : Option SessionView

/-- What lines, sessions, the detach order and the final CHARGEs keep of each other is a matter of this view and the queue. -/
structure CallView where
  line : Fin 8 → LineView
  slot : Fin 12 → SlotView
  order : List (Fin 12)
  own : Nat
  reset : Bool

/-- The line's context waits for a slot. -/
def Line.waits (x : Line) : Bool := x.dialogue.any (fun d => decide (d.step = .slotWait))

def Line.view (x : Line) : LineView :=
  { slot := x.servedSlot, state := if x.state.locked then x.state else .idle,
    strays := x.waits && !(decide (x.state = .signOn) && x.servedSlot.isNone) }

def Session.view (x : Session) : SessionView := { line := x.line, state := x.state, abandoned := x.abandoned }

def Slot.view (x : Slot) : SlotView := { generation := x.generation, session := x.session.map Session.view }

/-- A line without a call. -/
def LineView.free : LineView := { slot := none, state := .idle, strays := false }

namespace CallView

def setLine (l : Fin 8) (w : LineView) (v : CallView) : CallView := { v with line := Function.update v.line l w }

def setSlot (k : Fin 12) (w : SlotView) (v : CallView) : CallView := { v with slot := Function.update v.slot k w }

/-- The handle of the session in slot `k`. -/
def handleAt (v : CallView) (k : Fin 12) : Handle := { station := v.own, slot := k, generation := (v.slot k).generation }

/-- The session in slot `k` is ENDING. -/
def ending (v : CallView) (k : Fin 12) : Prop := ∃ x, (v.slot k).session = some x ∧ x.state = .ending

/-- An entry is no final CHARGE of a slot, or that of the slot's ENDING session (R87). -/
def places (v : CallView) (p : Payload) : Prop :=
  ∀ (c : ChargeBody) (k : Fin 12), p = .charge c (some k) → c.handle = v.handleAt k ∧ v.ending k

end CallView

/-- The state has the view `v`, and its queued final CHARGEs are those of the view's ENDING sessions. -/
structure State.At (v : CallView) (s : State) : Prop where
  lines : ∀ l : Fin 8, s.lines[l].view = v.line l
  slots : ∀ k : Fin 12, s.table.slots[k].view = v.slot k
  order : s.table.detachOrder = v.order
  own : s.own = v.own
  reset : s.inReset = v.reset
  finals : ∀ e ∈ s.bus.queue, v.places e.payload

/-! ### Lines and slots of a view -/

theorem Line.view_eq_of_same {x y : Line} (state : y.state = x.state) (slot : y.servedSlot = x.servedSlot)
    (dialogue : y.dialogue = x.dialogue) : y.view = x.view := by
  unfold Line.view Line.waits
  rw [state, slot, dialogue]

theorem Line.view_eq_of_dialogue {x : Line} {f : Dialogue → Dialogue} (step : ∀ d, (f d).step = d.step) :
    ({ x with dialogue := x.dialogue.map f } : Line).view = x.view := by
  unfold Line.view Line.waits
  cases x.dialogue with
  | none => rfl
  | some d => simp only [Option.map_some, Option.any_some, step]

theorem LineState.locked_of_view {x : Line} {state : LineState} (h : x.view.state = state) (ne : state ≠ .idle) : x.state = state := by
  unfold Line.view at h
  simp only at h
  split at h
  · exact h
  · exact absurd h.symm ne

theorem Line.view_state_of_locked {x : Line} (locked : x.state.locked = true) : x.view.state = x.state := if_pos locked

/-! ### Steps that leave the view as it is -/

namespace State.At
variable {v : CallView} {s : State}

/-- Nothing that the view or the queue shows has changed. -/
theorem aside {t : State} (h : s.At v) (lines : t.lines = s.lines := by rfl) (table : t.table = s.table := by rfl)
    (queue : t.bus.queue = s.bus.queue := by rfl) (station : t.station = s.station := by rfl) : t.At v where
  lines l := by rw [lines]; exact h.lines l
  slots k := by rw [table]; exact h.slots k
  order := by rw [table]; exact h.order
  own := by rw [State.own, station]; exact h.own
  reset := by rw [State.inReset, station]; exact h.reset
  finals := by rw [queue]; exact h.finals

theorem setHome (h : s.At v) (x : Home) : (s.setHome x).At v := h.aside

theorem setStore (h : s.At v) (x : Store) : (s.setStore x).At v := h.aside

/-- The table with its slots and its detach order as they were. -/
theorem setTable {T : SessionTable} (h : s.At v) (slots : T.slots = s.table.slots := by rfl)
    (order : T.detachOrder = s.table.detachOrder := by rfl) : ({ s with table := T } : State).At v where
  lines := h.lines
  slots k := by simp only [slots]; exact h.slots k
  order := order.trans h.order
  own := h.own
  reset := h.reset
  finals := h.finals

/-- The station with its address and the resets in force as they were. -/
theorem setStation {x : Station} (h : s.At v) (address : x.address = s.station.address := by rfl)
    (force : x.force = s.station.force := by rfl) : ({ s with station := x } : State).At v where
  lines := h.lines
  slots := h.slots
  order := h.order
  own := address.trans h.own
  reset := (by simp only [State.inReset, force] : ({ s with station := x } : State).inReset = s.inReset).trans h.reset
  finals := h.finals

theorem setLines {x : Vector Line 8} (h : s.At v) (same : ∀ l : Fin 8, x[l].view = s.lines[l].view) :
    ({ s with lines := x } : State).At v where
  lines l := (same l).trans (h.lines l)
  slots := h.slots
  order := h.order
  own := h.own
  reset := h.reset
  finals := h.finals

theorem setQueue {q : List Entry} (h : s.At v) (placed : ∀ e ∈ q, v.places e.payload) : (s.setQueue q).At v where
  lines := h.lines
  slots := h.slots
  order := h.order
  own := h.own
  reset := h.reset
  finals := placed

theorem joinQueue {e : Entry} (h : s.At v) (placed : v.places e.payload) : (s.joinQueue e).At v :=
  h.setQueue fun x hx => (List.mem_append.1 hx).elim (h.finals x) fun new => by rw [List.mem_singleton.1 new]; exact placed

theorem sublist {q : List Entry} (h : s.At v) (sub : q.Sublist s.bus.queue) : (s.setQueue q).At v :=
  h.setQueue fun e he => h.finals e (sub.subset he)

theorem removeFirst (h : s.At v) (p : Entry → Bool) : (s.removeFirst p).At v := h.sublist List.eraseP_sublist

/-- Entries changed in place to such as the view allows. -/
theorem mapQueue {f : Entry → Entry} (h : s.At v) (placed : ∀ e, v.places e.payload → v.places (f e).payload) :
    (s.setQueue (s.bus.queue.map f)).At v :=
  h.setQueue fun x hx => by
    obtain ⟨e, he, rfl⟩ := List.mem_map.1 hx
    exact placed e (h.finals e he)

theorem rewriteWaiting {f : Payload → Payload} (h : s.At v) (p : Entry → Bool)
    (placed : ∀ e : Entry, p e = true → v.places e.payload → v.places (f e.payload)) : (s.rewriteWaiting p f).At v := by
  refine h.mapQueue fun e he => ?_
  split
  · next picked => exact placed e (Bool.and_eq_true_iff.1 picked).1 he
  · exact he

theorem replace {e x : Entry} (h : s.At v) (placed : v.places e.payload → v.places x.payload) :
    (s.setQueue (replaceEntry e x s.bus.queue)).At v := by
  by_cases here : e ∈ s.bus.queue
  · obtain ⟨before, behind, queue, replaced⟩ := replaceEntry_of_mem (x := x) here
    rw [replaced]
    refine h.setQueue fun y hy => ?_
    have old (other : y ∈ before ++ e :: behind) : v.places y.payload := h.finals y (by rw [queue]; exact other)
    rcases List.mem_append.1 hy with first | rest
    · exact old (List.mem_append_left _ first)
    · rcases List.mem_cons.1 rest with rfl | last
      · exact placed (h.finals e here)
      · exact old (List.mem_append_right _ (List.mem_cons_of_mem _ last))
  · rw [replaceEntry_of_not_mem here]
    exact h

theorem foldl {α : Type} {f : State → α → State} (each : ∀ u a, u.At v → (f u a).At v) (l : List α) :
    ∀ u : State, u.At v → (l.foldl f u).At v := by
  induction l with
  | nil => exact fun _ h => h
  | cons a l ih => exact fun u h => ih _ (each u a h)

/-! ### One line and one slot -/

theorem modLine {l : Fin 8} {f : Line → Line} {w : LineView} (h : s.At v) (view : (f s.lines[l]).view = w) :
    (s.modLine l f).At (v.setLine l w) where
  lines m := by
    by_cases same : m = l
    · rw [same, modLine_line, view]
      exact (Function.update_self l w v.line).symm
    · rw [modLine_line_ne _ same, h.lines]
      exact (Function.update_of_ne same w v.line).symm
  slots := h.slots
  order := h.order
  own := h.own
  reset := h.reset
  finals := h.finals

theorem keepLine {l : Fin 8} {f : Line → Line} (h : s.At v) (view : (f s.lines[l]).view = s.lines[l].view) :
    (s.modLine l f).At v := by
  have changed := h.modLine (view.trans (h.lines l))
  rwa [CallView.setLine, Function.update_eq_self] at changed

theorem setSlot {k : Fin 12} {x : Slot} {w : SlotView} (h : s.At v) (view : x.view = w)
    (placed : ∀ e ∈ s.bus.queue, (v.setSlot k w).places e.payload) : (s.setSlot k x).At (v.setSlot k w) where
  lines := h.lines
  slots j := by
    by_cases same : j = k
    · rw [same, State.setSlot_slot, view]
      exact (Function.update_self k w v.slot).symm
    · rw [State.setSlot_slot_ne _ same, h.slots]
      exact (Function.update_of_ne same w v.slot).symm
  order := h.order
  own := h.own
  reset := h.reset
  finals := placed

theorem keepSlot {k : Fin 12} {x : Slot} (h : s.At v) (view : x.view = s.table.slots[k].view) : (s.setSlot k x).At v := by
  have same : v.setSlot k (v.slot k) = v := by rw [CallView.setSlot, Function.update_eq_self]
  have changed := h.setSlot (k := k) (view.trans (h.slots k)) (by rw [same]; exact h.finals)
  rwa [same] at changed

theorem keepSession {k : Fin 12} {f : Session → Session} (h : s.At v) (view : ∀ x, (f x).view = x.view) : (s.modSession k f).At v := by
  refine h.keepSlot ?_
  unfold Slot.view
  rw [Option.map_map]
  simp only [Function.comp_def, view]

theorem session_of (h : s.At v) {k : Fin 12} {x : Session} (holds : s.table.slots[k].session = some x) :
    (v.slot k).session = some x.view := by
  rw [← h.slots, Slot.view, holds, Option.map_some]

theorem noSession_of (h : s.At v) {k : Fin 12} (free : s.table.slots[k].session = none) : (v.slot k).session = none := by
  rw [← h.slots, Slot.view, free, Option.map_none]

theorem handleAt (h : s.At v) (k : Fin 12) : s.handleAt k = v.handleAt k := by
  unfold State.handleAt CallView.handleAt
  rw [h.own, ← h.slots]
  rfl

end State.At

/-! ### Payloads that the view always allows -/

section
variable {v : CallView}

theorem CallView.places_of_other {p : Payload} (other : ∀ c k, p ≠ .charge c (some k)) : v.places p :=
  fun c k charge => absurd charge (other c k)

theorem CallView.places_of_plain {p : Payload} (plain : p.plain) : v.places p := CallView.places_of_other fun c k => plain.1 c (some k)

/-- The final CHARGE of an ENDING session. -/
theorem CallView.places_of_ending {c : ChargeBody} {k : Fin 12} (handle : c.handle = v.handleAt k) (ends : v.ending k) :
    v.places (.charge c (some k)) := by
  rintro _ _ ⟨⟩
  exact ⟨handle, ends⟩

/-- A CHARGE whose handle and slot are as before. -/
theorem CallView.places_charge {c d : ChargeBody} {o : Option (Fin 12)} (handle : d.handle = c.handle)
    (placed : v.places (.charge c o)) : v.places (.charge d o) := by
  rintro b k ⟨⟩
  obtain ⟨same, ends⟩ := placed c k rfl
  exact ⟨handle.trans same, ends⟩

end

end Sys2Proof.Machine
end

section
/-! O59: the operations that leave the view as it is: offers, fault events, the record store and the account home. -/

namespace Sys2Proof.Machine

namespace State.At
variable {v : CallView} {s : State}

/-! ### Offers -/

theorem joinPlain {a : Nat} {p : Payload} (h : s.At v) (plain : p.plain) : (s.joinQueue (Entry.fresh a p)).At v :=
  h.joinQueue (CallView.places_of_plain plain)

/-- The final CHARGE that an ENDING session's slot offers is one that the view allows (R87). -/
theorem offerFinal (h : s.At v) (k : Fin 12) : (offerFinal k s).At v := by
  unfold Machine.offerFinal
  split
  · exact h
  · next x holds =>
    split
    · next waits =>
      have ends : v.ending k := ⟨x.view, h.session_of holds, waits.1⟩
      split
      · refine (h.rewriteWaiting _ fun e charges _ => ?_).keepSession fun _ => rfl
        unfold Entry.chargesFor at charges
        cases payload : e.payload with
        | charge c o =>
          rw [payload] at charges
          exact CallView.places_of_ending ((of_decide_eq_true charges).trans (h.handleAt k)) ends
        | _ => rw [payload] at charges; cases charges
      · exact h
      · split
        · exact (h.joinQueue (CallView.places_of_ending (h.handleAt k) ends)).keepSession fun _ => rfl
        · exact h
    · exact h

theorem joinTally (h : s.At v) : (joinTally s).At v :=
  State.At.setTable (h.joinQueue (CallView.places_of_other (by exact fun _ _ h => nomatch h)))

theorem offerData (h : s.At v) (l : Fin 8) : (offerData l s).At v := by
  unfold Machine.offerData
  split
  · split
    · exact h
    · exact h.joinQueue (CallView.places_of_other fun _ _ h => nomatch h)
  · exact h

theorem offerCharge (h : s.At v) (k : Fin 12) : (offerCharge k s).At v := by
  unfold Machine.offerCharge
  split
  · exact h
  · split
    · refine h.rewriteWaiting _ fun e _ placed => ?_
      cases payload : e.payload with
      | charge c o =>
        rw [payload] at placed
        exact CallView.places_charge (c := c) rfl placed
      | _ => rw [payload] at placed; exact placed
    · exact h
    · split
      · exact h.joinQueue (CallView.places_of_other fun _ _ h => nomatch h)
      · exact h

theorem offerZeroCharge (h : s.At v) (source : Nat) (g : GrantBody) (cause : EndCause) : (offerZeroCharge source g cause s).At v := by
  unfold Machine.offerZeroCharge
  split
  · exact h.joinQueue (CallView.places_of_other fun _ _ h => nomatch h)
  · exact h

theorem offerRefusable {a : Nat} {p : Payload} (h : s.At v) (plain : p.plain) : (offerRefusable a p s).At v := by
  unfold Machine.offerRefusable
  split
  · exact h.joinPlain plain
  · exact h

/-! ### Fault events -/

theorem settlePermission (h : s.At v) : (settlePermission s).At v := by
  rcases settlePermission_cases s with ⟨_, same⟩ | ⟨_, quieted⟩
  · rw [same]
    exact h
  · rw [quieted]
    refine h.setLines fun l => ?_
    have quiet (x : Line) : x.quiet.view = x.view := by
      unfold Line.quiet
      split
      · next ringing =>
        unfold Line.view Line.waits
        rw [ringing]
        rfl
      · rfl
    rw [show (s.lines.map Line.quiet)[l] = s.lines[l].quiet from Vector.getElem_map _ l.isLt, quiet]

theorem logWith (n : Nat) (e : FaultEvent) : ∀ {s : State}, s.At v → (logWith n e s).At v := by
  induction n generalizing e with
  | zero => exact id
  | succ n ih =>
    intro s h
    have taken : (Machine.settlePermission { s with faults := s.faults.take e }).At v := settlePermission h.aside
    unfold Machine.logWith
    simp only
    split
    · split
      · exact taken.joinPlain (by simp)
      · exact ih _ taken
    · exact taken

theorem logFault (h : s.At v) (k : FaultKind) (x : Subject) : (logFault k x s).At v := logWith 3 _ h

theorem offerReply (h : s.At v) (k : ReplyKind) (b : List Byte) : (offerReply k b s).At v := by
  unfold Machine.offerReply
  split
  · exact h.joinPlain (by simp)
  · exact h.logFault _ _

theorem offerResult (h : s.At v) (k : CommandKind) (c : ResultCode) (d : List Byte) : (offerResult k c d s).At v := h.offerReply _ _

theorem offerTally (h : s.At v) : (offerTally s).At v := by
  unfold Machine.offerTally
  split
  · split
    · exact h.setTable
    · exact h
    · split
      · exact h.joinTally
      · exact h.logFault _ _
  · exact h

theorem offerOwedTally (h : s.At v) : (offerOwedTally s).At v := by
  unfold Machine.offerOwedTally
  split
  · exact offerTally h.setTable
  · exact h

theorem offerFreed (h : s.At v) : (offerFreed s).At v :=
  offerFreed_induct (State.At v) (fun k _ h => h.offerFinal k) (fun _ h => h.offerOwedTally) (fun l _ h => h.offerData l) s h

theorem offerClassOne {a : Nat} {p : Payload} (h : s.At v) (plain : p.plain) : (offerClassOne a p s).At v := by
  rcases offerClassOne_cases a p s with ⟨_, joined⟩ | ⟨_, _, displaced⟩ | ⟨_, _, dropped⟩
  · rw [joined]
    exact h.joinPlain plain
  · rw [displaced]
    refine offerFreed (joinPlain ?_ plain)
    refine h.sublist ?_
    have shorter := (List.eraseP_sublist (p := fun e : Entry => e.isData && !e.inFlight) (l := s.bus.queue.reverse)).reverse
    rwa [List.reverse_reverse] at shorter
  · rw [dropped]
    exact h.logFault _ _

/-! ### The record store -/

theorem countCorrected (h : s.At v) (w : Nat) : (countCorrected w s).At v := by
  unfold Machine.countCorrected
  simp only
  refine logFault ?_ _ _
  split
  · exact ((h.setStore _).setStore _).logFault _ _
  · exact h.setStore _

theorem correctOnRead (h : s.At v) (w : Nat) (r : WordRead) : (correctOnRead w r s).At v := by
  unfold Machine.correctOnRead
  split
  · exact (h.setStore _).countCorrected w
  · exact h

theorem correctRecord (h : s.At v) (i : Nat) : (correctRecord i s).At v := foldl (fun _ w h => h.correctOnRead w _) _ s h

theorem writeRecord (h : s.At v) (i : Nat) (r : Record) : (writeRecord i r s).At v := h.aside

theorem listAccount (h : s.At v) (k : FaultKind) (a w : Nat) : (listAccount k a w s).At v := by
  unfold Machine.listAccount
  split
  · exact h.logFault _ _
  · exact (h.setHome _).logFault _ _
  · exact h.logFault _ _

theorem reportUncorrectable (h : s.At v) (w : Nat) : (reportUncorrectable w s).At v := by
  unfold Machine.reportUncorrectable
  split
  · exact h.listAccount _ _ _
  · exact h.logFault _ _

theorem addUnbilled (h : s.At v) (a : Nat) (x : Option Handle) (n : Nat) : (addUnbilled a x n s).At v := by
  unfold Machine.addUnbilled
  split
  · exact h
  · simp only
    split
    · exact h.setHome _
    · exact ((h.setHome _).setHome _).logFault _ _

theorem clearMark (h : s.At v) (a : Nat) : (clearMark a s).At v := h.setHome _

theorem addHeld (h : s.At v) (a : Nat) (x : Option Handle) (n : Nat) : (addHeld a x n s).At v := (h.setHome _).addUnbilled _ _ _

/-! ### The account home -/

theorem rewriteGrant (h : s.At v) (x : Option Handle) : (rewriteGrant x s).At v := by
  unfold Machine.rewriteGrant
  split
  · exact h
  · refine h.rewriteWaiting _ fun e _ placed => ?_
    cases payload : e.payload with
    | grant g => exact CallView.places_of_plain (by simp [Payload.madeNew])
    | _ => rw [payload] at placed; exact placed

theorem removeOrphan (h : s.At v) (e : HomeEntry) : (removeOrphan e s).At v := by
  unfold Machine.removeOrphan
  simp only
  split
  · exact ((h.setHome _).logFault _ _).rewriteGrant _
  · exact (h.setHome _).logFault _ _

theorem denyClaim (h : s.At v) (c : ClaimBody) (r : DenyReason) : (denyClaim c r s).At v := h.offerClassOne (by simp)

theorem answerUnknown (h : s.At v) (x : Handle) (a t : Nat) : (answerUnknown x a t s).At v := by
  unfold Machine.answerUnknown
  split
  · exact h
  · exact h.offerClassOne (by simp)

theorem finishClaim (h : s.At v) : (finishClaim s).At v := foldl (fun _ e h => h.removeOrphan e) _ _ (h.setHome _)

theorem noteCharge (h : s.At v) (e : HomeEntry) (f : Bool) : (noteCharge e f s).At v := by
  unfold Machine.noteCharge
  simp only
  split
  · exact (h.setHome _).rewriteGrant _
  · exact h.setHome _

theorem settleEntry (h : s.At v) (x : Handle) (t : Nat) (f : Bool) : (settleEntry x t f s).At v := by
  cases f <;> exact h.aside

theorem applyAside (h : s.At v) (e : HomeEntry) (t : Nat) (f : Bool) : (applyAside e t f s).At v := by
  unfold Machine.applyAside
  split
  · exact (h.addHeld _ _ _).settleEntry _ _ _
  · exact h.settleEntry _ _ _

theorem answerHolds (c : ResultCode) (n : Nat) : ∀ {s : State}, s.At v → (answerHolds c n s).At v := by
  induction n with
  | zero => exact id
  | succ n ih => exact fun h => ih (h.offerResult _ _ _)

theorem enterHold (h : s.At v) : (enterHold s).At v := answerHolds _ _ (h.setStore _)

theorem refuseHome (h : s.At v) : (refuseHome s).At v := by
  unfold Machine.refuseHome
  split
  · exact h
  · exact (h.denyClaim _ _).finishClaim
  · split <;> exact h.setHome _

theorem drainLoop (n : Nat) : ∀ {s : State}, s.At v → (drainLoop n s).At v := by
  induction n with
  | zero => exact id
  | succ n ih =>
    intro s h
    unfold Machine.drainLoop
    split
    · split
      · exact h.setHome _
      · split
        · exact ih ((h.setHome _).answerUnknown _ _ _)
        · split
          · exact h.setHome _
          · split
            · exact (h.noteCharge _ _).setHome _
            · exact ih (((h.noteCharge _ _).applyAside _ _ _).setHome _)
    · exact h

theorem grantStore (h : s.At v) : (grantStore s).At v := by
  unfold Machine.grantStore
  split
  · exact h
  · exact h.setStore _

theorem settleStore (h : s.At v) : (settleStore s).At v := by
  have entered : (if s.store.access.isNone && decide (s.store.hold = .pending) then Machine.enterHold s else s).At v := by
    split
    · exact h.enterHold
    · exact h
  unfold Machine.settleStore
  simp only
  generalize (if s.store.access.isNone && decide (s.store.hold = .pending) then Machine.enterHold s else s) = u at entered ⊢
  refine grantStore (drainLoop _ ?_)
  split
  · exact entered.refuseHome
  · exact entered

theorem endHold (h : s.At v) : (endHold s).At v := settleStore ((h.setStore _).setHome _)

theorem cutoffCheck (h : s.At v) (a : Nat) (b : Int) (n : Nat) : (cutoffCheck a b n s).At v := by
  unfold Machine.cutoffCheck
  split
  · refine foldl (fun u e h => ?_) _ s h
    unfold cutOne
    split
    · simp only
      split
      · exact (h.setHome _).offerClassOne (by simp)
      · exact h.offerClassOne (by simp)
    · exact h
  · exact h

theorem placeFaulted (h : s.At v) (k : FaultKind) (a w : Nat) (x : Handle) (n : Nat) : (placeFaulted k a w x n s).At v := by
  unfold Machine.placeFaulted
  split
  · exact (h.listAccount _ _ _).addUnbilled _ _ _
  · exact (h.listAccount _ _ _).addHeld _ _ _

/-! ### The accesses -/

theorem resetFailures (h : s.At v) (i : Nat) (r : Record) : (resetFailures i r s).At v := by
  unfold Machine.resetFailures
  split
  · exact h
  · exact h.writeRecord _ _

theorem carryOut (h : s.At v) (c : ClaimBody) (r : Record) (x : Verdict) : (carryOut c r x s).At v := by
  cases x with
  | deny reason =>
    cases reason with
    | badDigest => exact (h.writeRecord _ _).denyClaim _ _
    | _ => exact h.denyClaim _ _
  | reattach old => exact ((h.resetFailures _ _).setHome _).offerClassOne (by simp)
  | new => exact ((h.resetFailures _ _).setHome _).offerClassOne (by simp)

theorem claimAccess (h : s.At v) (c : ClaimBody) : (claimAccess c s).At v := by
  rw [claimAccess_eq]
  refine finishClaim ?_
  have read := h.correctRecord (s.home.index c.account)
  unfold claimEvaluated claimDecided
  split
  · exact (read.listAccount _ _ _).denyClaim _ _
  · exact (read.listAccount _ _ _).denyClaim _ _
  · split
    · exact read.denyClaim _ _
    · exact read.carryOut _ _ _

theorem applyToRecord (h : s.At v) (e : HomeEntry) (t : Nat) (f : Bool) : (applyToRecord e t f s).At v := by
  rw [applyToRecord_eq]
  have read := h.correctRecord (s.home.index e.account)
  unfold chargeApplied
  split
  · exact (read.placeFaulted _ _ _ _ _).settleEntry _ _ _
  · exact (read.placeFaulted _ _ _ _ _).settleEntry _ _ _
  · split
    · exact (read.addHeld _ _ _).settleEntry _ _ _
    · split
      · exact (read.addUnbilled _ _ _).settleEntry _ _ _
      · simp only
        split
        · exact ((read.writeRecord _ _).addUnbilled _ _ _).settleEntry _ _ _
        · exact (((read.writeRecord _ _).addUnbilled _ _ _).settleEntry _ _ _).cutoffCheck _ _ _

theorem chargeAccess (h : s.At v) (x : Handle) (a t : Nat) (f b : Bool) : (chargeAccess x a t f b s).At v := by
  have begun := h.setHome { s.home with
    work := none, backlog := if b then s.home.backlog.filter (fun y => decide (y.handle ≠ x)) else s.home.backlog }
  unfold Machine.chargeAccess
  simp only
  split
  · exact begun.answerUnknown _ _ _
  · split
    · exact begun.applyToRecord _ _ _
    · exact begun.applyAside _ _ _

theorem listFaulted (h : s.At v) (a : Nat) (o : RecordOutcome) : (listFaulted a o s).At v := by
  cases o with
  | uncorrectable w => exact h.listAccount _ _ _
  | tagMismatch w => exact h.listAccount _ _ _
  | _ => exact h

theorem hostAccess (h : s.At v) (w : HostWork) : (hostAccess w s).At v := by
  have read (a i : Nat) (o : RecordOutcome) : (Machine.listFaulted a o (Machine.correctRecord i s)).At v :=
    (h.correctRecord i).listFaulted a o
  cases w with
  | accountLoad l =>
    simp only [Machine.hostAccess, loadAccess]
    exact ((((h.writeRecord _ _).setHome _).addUnbilled _ _ _).clearMark _).offerResult _ _ _
  | accountRead a =>
    simp only [Machine.hostAccess, readAccess]
    exact (read _ _ _).offerReply _ _
  | deposit a n =>
    simp only [Machine.hostAccess, depositAccess]
    split
    · exact (read _ _ _).offerResult _ _ _
    · split
      · exact (read _ _ _).offerResult _ _ _
      · exact (((read _ _ _).writeRecord _ _).clearMark _).offerResult _ _ _
  | unlock a =>
    simp only [Machine.hostAccess, unlockAccess]
    split
    · exact (read _ _ _).offerResult _ _ _
    · split
      · exact (read _ _ _).offerResult _ _ _
      · exact ((read _ _ _).writeRecord _ _).offerResult _ _ _
  | probe n => exact h.offerReply _ _
  | flip n mask => exact State.At.offerResult h.aside _ _ _

theorem scrubAccess (h : s.At v) : (scrubAccess s).At v := by
  unfold Machine.scrubAccess
  simp only
  have read := h.correctOnRead s.store.scrubPointer (s.store.decode s.store.scrubPointer)
  split
  · exact (read.reportUncorrectable _).setStore _
  · exact read.setStore _

theorem migrationAccess (h : s.At v) (m : Migration) : (migrationAccess m s).At v := by
  generalize hr : readStored s.store.spareMap[m.segment] (s.store.words.read m.word) = r
  generalize hu : (if r.outcome = .corrected then Machine.countCorrected m.word s else s) = u
  generalize hw : (if r.outcome = .uncorrectable then Machine.reportUncorrectable m.word u else u) = w
  have counted : u.At v := by
    rw [← hu]
    split
    · exact h.countCorrected _
    · exact h
  have brought : w.At v := by
    rw [← hw]
    split
    · exact counted.reportUncorrectable _
    · exact counted
  rw [migrationAccess_eq (m := m) (s := s) rfl hr.symm (v := w) (by rw [hu, hw]) rfl]
  split
  · exact brought.aside
  · exact State.At.offerResult brought.aside _ _ _

theorem accessEffect (h : s.At v) : (accessEffect s).At v := by
  unfold Machine.accessEffect
  split
  · exact h
  · split
    · exact h
    · exact h.claimAccess _
    · exact h.chargeAccess _ _ _ _ _
  · split
    · exact h
    · exact (h.hostAccess _).setStore _
  · split
    · exact h
    · exact h.migrationAccess _
  · exact h.scrubAccess

theorem finishAccess {r : Requester} {t : State} (h : s.At v) (next : finishAccess r s = .next t) : t.At v := by
  rcases finishAccess_cases r s with ⟨-, same⟩ | ⟨-, -, n, -, fault⟩ | ⟨-, -, -, ended⟩
  · cases same.symm.trans next
    exact h
  · exact absurd (fault.symm.trans next) nofun
  · cases ended.symm.trans next
    exact settleStore (h.accessEffect.setStore _)

theorem requestHost (h : s.At v) (w : HostWork) : (requestHost w s).At v := settleStore (h.setStore _)

theorem checkAccount {go : State → State} (h : s.At v) (k : CommandKind) (b : Bool) (a : Option Nat) (goes : (go s).At v) :
    (checkAccount k b a go s).At v := by
  unfold Machine.checkAccount
  split
  · exact h.offerResult _ _ _
  · split
    · exact h.offerResult _ _ _
    · split
      · exact h.offerResult _ _ _
      · split
        · exact h.offerResult _ _ _
        · exact goes

end State.At

end Sys2Proof.Machine
end

section
/-! O59: the operations that leave the view as it is, continued: frames and commands, lines, the meter, the bus. -/

namespace Sys2Proof.Machine

namespace State.At
variable {v : CallView} {s : State}

/-! ### Frames and commands of the home, the store and the station -/

theorem takeClaim (h : s.At v) (c : ClaimBody) : (takeClaim c s).At v := by
  have answered (u : State) (h : u.At v) :
      (if u.store.hold = .held then Machine.denyClaim c .homeBusy u
      else if u.home.quarantined c.account then Machine.denyClaim c .recordFault u
      else Machine.settleStore (u.setHome { u.home with work := some (.claim c) })).At v := by
    split
    · exact h.denyClaim _ _
    · split
      · exact h.denyClaim _ _
      · exact settleStore (h.setHome _)
  unfold Machine.takeClaim
  split
  · simp only
    split
    · exact answered _ (h.removeOrphan _)
    · exact answered _ h
  · exact h

theorem takeDetach (h : s.At v) (d : DetachBody) : (takeDetach d s).At v := by
  unfold Machine.takeDetach
  split
  · split
    · exact h
    · exact h.setHome _
  · exact h

theorem takeTally (h : s.At v) (a : Nat) (t : TallyBody) : (takeTally a t s).At v := by
  have counted : (countTally a t s).At v := by
    unfold countTally
    split
    · exact h.aside
    · exact h
  unfold Machine.takeTally
  simp only
  split
  · exact foldl (fun _ e h => h.removeOrphan e) _ _ counted
  · exact counted

theorem takeCharge (h : s.At v) (c : ChargeBody) : (takeCharge c s).At v := by
  unfold Machine.takeCharge
  split
  · split
    · exact h.answerUnknown _ _ _
    · simp only
      split
      · exact (h.noteCharge _ _).setHome _
      · split
        · exact settleStore ((h.noteCharge _ _).setHome _)
        · exact (h.noteCharge _ _).applyAside _ _ _
  · exact h

theorem takeAccountLoad (h : s.At v) (b : List Byte) : (takeAccountLoad b s).At v := by
  unfold Machine.takeAccountLoad
  split
  · exact h.checkAccount _ _ _ h
  · refine h.checkAccount _ _ _ ?_
    split
    · exact h.offerResult _ _ _
    · exact h.requestHost _

theorem takeAccountRead (h : s.At v) (b : List Byte) : (takeAccountRead b s).At v := h.checkAccount _ _ _ (h.requestHost _)

theorem takeDeposit (h : s.At v) (b : List Byte) : (takeDeposit b s).At v := h.checkAccount _ _ _ (h.requestHost _)

theorem takeUnlock (h : s.At v) (b : List Byte) : (takeUnlock b s).At v := h.checkAccount _ _ _ (h.requestHost _)

theorem takeHold (h : s.At v) (b : List Byte) : (takeHold b s).At v := by
  unfold Machine.takeHold
  split
  · exact h.offerResult _ _ _
  · split
    · exact h.offerResult _ _ _
    · split
      · exact h.offerResult _ _ _
      · split
        · exact h.offerResult _ _ _
        · exact h.setStore _
        · split
          · exact h.setStore _
          · exact (h.setStore _).offerResult _ _ _

theorem takeRelease (h : s.At v) (b : List Byte) : (takeRelease b s).At v := by
  unfold Machine.takeRelease
  split
  · exact h.offerResult _ _ _
  · split
    · exact h.offerResult _ _ _
    · split
      · exact h.endHold.offerResult _ _ _
      · exact h.offerResult _ _ _

theorem takeProbe (h : s.At v) (b : List Byte) : (takeProbe b s).At v := by
  unfold Machine.takeProbe
  split
  · exact h.offerResult _ _ _
  · split
    · exact h.offerResult _ _ _
    · exact h.requestHost _

theorem takeFlip (h : s.At v) (b : List Byte) : (takeFlip b s).At v := by
  unfold Machine.takeFlip
  split
  · exact h.offerResult _ _ _
  · split
    · exact h.offerResult _ _ _
    · exact h.requestHost _

theorem takeSpareSet (h : s.At v) (b : List Byte) : (takeSpareSet b s).At v := by
  unfold Machine.takeSpareSet
  split
  · exact h.offerResult _ _ _
  · split
    · exact h.offerResult _ _ _
    · split
      · exact h.offerResult _ _ _
      · exact h.setStore _

theorem setTime (h : s.At v) (b : List Byte) : (setTime b s).At v := by
  unfold Machine.setTime
  split
  · exact h.offerResult _ _ _
  · split
    · exact h.offerResult _ _ _
    · exact State.At.offerResult h.aside _ _ _

theorem loadTariffs (h : s.At v) (b : List Byte) : (loadTariffs b s).At v := by
  unfold Machine.loadTariffs
  split
  · exact h.offerResult _ _ _
  · exact State.At.offerResult h.aside _ _ _

theorem takeConfigure (h : s.At v) (b : List Byte) : (takeConfigure b s).At v := by
  unfold Machine.takeConfigure
  split
  · exact h.offerResult _ _ _
  · split
    · exact h.offerResult _ _ _
    · split
      · exact h.offerResult _ _ _
      · next f _ _ =>
        have stored : (storeSettings f s).At v := by
          unfold storeSettings
          have settled : ({ s with station := { s.station with settings := some f.settings } } : State).At v := h.setStation
          exact settled.aside
        exact State.At.offerResult (State.At.offerTally stored.setStation) _ _ _

theorem takeStatusRead (h : s.At v) (b : List Byte) : (takeStatusRead b s).At v := by
  unfold Machine.takeStatusRead
  split
  · exact h.offerResult _ _ _
  · exact h.offerReply _ _

theorem takeFaultRead (h : s.At v) (b : List Byte) : (takeFaultRead b s).At v := by
  unfold Machine.takeFaultRead
  split
  · exact h.offerResult _ _ _
  · exact h.offerReply _ _

theorem takeFaultClear (h : s.At v) (b : List Byte) : (takeFaultClear b s).At v := by
  unfold Machine.takeFaultClear
  split
  · exact h.offerResult _ _ _
  · exact State.At.offerResult (State.At.settlePermission h.aside) _ _ _

theorem takeFaultSetup (h : s.At v) (b : List Byte) : (takeFaultSetup b s).At v := by
  unfold Machine.takeFaultSetup
  split
  · exact h.offerResult _ _ _
  · exact State.At.offerResult (State.At.settlePermission h.aside) _ _ _

/-! ### Lines -/

theorem placeText (h : s.At v) (l : Fin 8) (t : List Nat) : (placeText l t s).At v := by
  obtain ⟨state, dialogue, slot, -⟩ := Line.place_keeps t s.lines[l]
  exact h.keepLine (Line.view_eq_of_same state slot dialogue)

theorem placeFixed (h : s.At v) (l : Fin 8) (t : FixedText) : (placeFixed l t s).At v := h.placeText l _

/-- A change of the dialogue that leaves its step. -/
theorem modDialogue {f : Dialogue → Dialogue} (h : s.At v) (l : Fin 8) (step : ∀ d, (f d).step = d.step) : (modDialogue l f s).At v :=
  h.keepLine (Line.view_eq_of_dialogue step)

theorem withdrawData (h : s.At v) (l : Fin 8) : (withdrawData l s).At v := by
  unfold Machine.withdrawData
  split
  · exact h
  · exact (h.removeFirst _).offerFreed
  · refine h.mapQueue fun e placed => ?_
    split
    · cases payload : e.payload with
      | data l x f =>
        refine CallView.places_of_other fun _ _ same => ?_
        cases f with
        | none => cases same
        | some f => cases same
      | _ => rw [payload] at placed; exact placed
    · exact placed

theorem clearReceive (h : s.At v) (l : Fin 8) : (clearReceive l s).At v :=
  withdrawData (h.keepLine (Line.view_eq_of_same rfl rfl rfl)) l

/-! ### The meter -/

theorem addOverflow (h : s.At v) (n : Nat) : (addOverflow n s).At v := h.aside

theorem noteSaturation (h : s.At v) (k : Fin 12) : (noteSaturation k s).At v := by
  unfold Machine.noteSaturation
  split
  · exact h
  · split
    · exact h
    · exact State.At.logFault (by exact h.keepSession fun _ => rfl) _ _

theorem chargeSecond (h : s.At v) (k : Fin 12) : (chargeSecond k s).At v := by
  unfold Machine.chargeSecond
  split
  · exact h
  · split
    · simp only
      split
      · exact h.keepSession fun _ => rfl
      · exact State.At.noteSaturation (State.At.addOverflow (by exact h.keepSession fun _ => rfl) _) k
    · exact h

theorem roundSession (h : s.At v) (k : Fin 12) : (roundSession k s).At v := by
  unfold Machine.roundSession
  split
  · exact h
  · split
    · exact h.keepSession fun _ => rfl
    · split
      · exact h.keepSession fun _ => rfl
      · exact State.At.noteSaturation (State.At.addOverflow (by exact h.keepSession fun _ => rfl) _) k

theorem postSecond (h : s.At v) (k : Fin 12) : (postSecond k s).At v := by
  unfold Machine.postSecond
  split
  · exact h
  · split
    · split
      · exact h.keepSession fun _ => rfl
      · exact State.At.offerCharge (by exact h.keepSession fun _ => rfl) k
    · exact h

theorem meterTick (h : s.At v) : (meterTick s).At v := by
  unfold Machine.meterTick
  split
  · have posted := foldl (fun _ k h => h.postSecond k) allSlots _ (foldl (fun _ k h => h.chargeSecond k) allSlots s h)
    simp only
    generalize allSlots.foldl (fun u k => Machine.postSecond k u) (allSlots.foldl (fun u k => Machine.chargeSecond k u) s) = u at posted ⊢
    exact posted.aside
  · exact h

theorem timersTick (h : s.At v) : (timersTick s).At v where
  lines l := by
    have second (x : Line) : x.second.view = x.view := by
      refine (Line.view_eq_of_same (x := { x with dialogue := x.dialogue.map Dialogue.second }) rfl rfl rfl).trans
        (Line.view_eq_of_dialogue fun d => ?_)
      unfold Dialogue.second
      split <;> rfl
    exact (congrArg Line.view (Vector.getElem_map _ l.isLt)).trans ((second _).trans (h.lines l))
  slots k := by
    have second (x : Slot) : x.second.view = x.view := by
      unfold Slot.view Slot.second
      rw [Option.map_map]
      rfl
    exact (congrArg Slot.view (Vector.getElem_map _ k.isLt)).trans ((second _).trans (h.slots k))
  order := h.order
  own := h.own
  reset := h.reset
  finals := h.finals

/-! ### The bus -/

theorem handOver (h : s.At v) (a n : Nat) (f : Handed) : (handOver a n f s).At v := by
  have handed : (hand f s).At v := h.aside
  unfold Machine.handOver
  split
  · exact h
  · split
    · split
      · exact h.aside
      · exact h
    · exact h
  · split
    · split
      · exact h
      · split
        · exact h.logFault _ _
        · exact handed
    · split
      · exact handed
      · exact h

theorem takePassed (h : s.At v) (a n k : Nat) (b : List Byte) : (takePassed a n k b s).At v := by
  have sender : (if n ≤ 15 then { s with bus := { s.bus with lastSender := n } } else s).At v := by
    split
    · exact h.aside
    · exact h
  unfold Machine.takePassed
  generalize (if n ≤ 15 then { s with bus := { s.bus with lastSender := n } } else s) = u at sender ⊢
  simp only
  split
  · exact sender.logFault _ _
  · split
    · exact sender.logFault _ _
    · split
      · exact sender.logFault _ _
      · exact sender
      · exact sender.handOver _ _ _

theorem receiveTrain (h : s.At v) (bs : List Byte) (b : Bool) : (receiveTrain bs b s).At v := by
  have received : ({ s with bus := { s.bus with awaitsIdle := b } } : State).At v := h.aside
  unfold Machine.receiveTrain takeTrain
  split
  · exact h
  · split
    · exact received
    · exact received.takePassed _ _ _ _
    · exact received.logFault _ _

theorem noteStart (h : s.At v) (e : Entry) : (noteStart e s).At v := by
  unfold Machine.noteStart
  split
  · exact h.keepSession fun _ => rfl
  · exact h.setTable
  · exact h

theorem startEntry (h : s.At v) (e : Entry) : (s.setQueue (replaceEntry e (e.start s) s.bus.queue)).At v := by
  refine h.replace fun placed => ?_
  unfold Entry.start
  split
  · exact CallView.places_of_other fun _ _ same => nomatch same
  · exact CallView.places_of_other fun _ _ same => nomatch same
  · exact placed

theorem stopEntry (h : s.At v) (e : Entry) : (s.setQueue (replaceEntry e (e.stop s.home) s.bus.queue)).At v := by
  refine h.replace fun placed => ?_
  unfold Entry.stop
  simp only
  cases payload : e.payload with
  | grant g =>
    obtain ⟨old, stopped⟩ := Payload.stopped_grant s.home g
    rw [stopped]
    exact CallView.places_of_plain (by simp)
  | data l x f => exact CallView.places_of_other fun _ _ same => nomatch same
  | _ => rw [payload] at placed; exact placed

theorem tellStopped (h : s.At v) (p : Payload) : (tellStopped p s).At v := by
  unfold Machine.tellStopped
  split
  · exact h.keepSession fun _ => rfl
  · unfold offerFinalFor
    split
    · exact h.offerFinal _
    · exact h
  · split
    · exact (h.removeFirst _).offerFreed
    · exact h
  · exact h

theorem landed (h : s.At v) : s.landed.At v := h.sublist List.eraseP_sublist

/-! ### The supply -/

theorem checkpoint (h : s.At v) : (checkpoint s).At v := by
  refine foldl (fun u k h => ?_) _ s h
  unfold checkpointSlot
  split
  · exact State.At.offerCharge (by exact h.keepSession fun _ => rfl) k
  · exact h

theorem dropHold (h : s.At v) : (dropHold s).At v := by
  unfold Machine.dropHold
  split
  · exact h.endHold
  · exact answerHolds _ _ (h.setStore _)
  · exact h

theorem supplyFalls (h : s.At v) : (supplyFalls s).At v := by
  unfold Machine.supplyFalls
  simp only
  exact dropHold (checkpoint (settlePermission (logFault h.aside _ _)))

/-! ### Replies without a session -/

theorem lateGrant (h : s.At v) (a : Nat) (g : GrantBody) : (lateGrant a g s).At v := by
  unfold Machine.lateGrant
  split
  · exact h
  · exact h.offerZeroCharge _ _ _

theorem logDuplicate (h : s.At v) (a b : Nat) (x : Handle) : (logDuplicate a b x s).At v := h.logFault _ _

theorem discardFrame (h : s.At v) : (discardFrame s).At v := h.setStation

end State.At

end Sys2Proof.Machine
end

section
/-! O59: what a consistent view is, and the changes of one call that keep it so. -/

namespace Sys2Proof.Machine

/-- A session of the view in this state is bound to a line (R44, R51, R78). -/
def SessionView.holdsLine (x : SessionView) : Prop :=
  x.state = .claiming ∧ x.abandoned = false ∨ x.state = .active ∨ x.state = .cutoffGrace

/-- The state of a line that serves a session of this state (R78). -/
def LineView.serves (w : LineView) (x : SessionView) : Prop :=
  w.state = .claiming ∧ x.state = .claiming ∨ w.state = .online ∧ (x.state = .active ∨ x.state = .cutoffGrace)

namespace CallView

/-- Lines and sessions are bound to each other, the detach order lists the DETACHED sessions, and no context waits for a slot but
on a line in SIGNON (R35, R78, R79). -/
structure Ok (v : CallView) : Prop where
  served : ∀ l k, (v.line l).slot = some k → ∃ x, (v.slot k).session = some x ∧ x.line = some l ∧ (v.line l).serves x
  bound : ∀ k x, (v.slot k).session = some x → ∀ l, x.line = some l → (v.line l).slot = some k
  holds : ∀ k x, (v.slot k).session = some x → (x.line ≠ none ↔ x.holdsLine)
  distinct : v.order.Nodup
  detached : ∀ k, k ∈ v.order ↔ ∃ x, (v.slot k).session = some x ∧ x.state = .detached
  calm : ∀ l, (v.line l).strays = false

variable {v : CallView} {k : Fin 12} {l : Fin 8} {x : SessionView}

theorem setLine_self (l : Fin 8) (w : LineView) : (v.setLine l w).line l = w := Function.update_self ..

theorem setLine_ne {m : Fin 8} (ne : m ≠ l) (w : LineView) : (v.setLine l w).line m = v.line m := Function.update_of_ne ne ..

/-! ### What consistency says of one call -/

namespace Ok

theorem slot_eq_none (ok : v.Ok) (notClaiming : (v.line l).state ≠ .claiming) (notOnline : (v.line l).state ≠ .online) :
    (v.line l).slot = none := by
  cases serves : (v.line l).slot with
  | none => rfl
  | some k =>
    obtain ⟨x, -, -, states⟩ := ok.served l k serves
    exact (states.elim (fun h => notClaiming h.1) fun h => notOnline h.1).elim

theorem line_serves (ok : v.Ok) (session : (v.slot k).session = some x) (line : x.line = some l) : (v.line l).serves x := by
  obtain ⟨y, same, -, states⟩ := ok.served l k (ok.bound k x session l line)
  rw [session] at same
  cases same
  exact states

theorem line_of_holdsLine (ok : v.Ok) (session : (v.slot k).session = some x) (holds : x.holdsLine) : ∃ l, x.line = some l :=
  Option.ne_none_iff_exists'.1 ((ok.holds k x session).2 holds)

theorem line_eq_none (ok : v.Ok) (session : (v.slot k).session = some x) (free : ¬ x.holdsLine) : x.line = none := by
  by_contra line
  exact free ((ok.holds k x session).1 line)

theorem not_detached_of_line (ok : v.Ok) (session : (v.slot k).session = some x) (line : x.line = some l) : x.state ≠ .detached := by
  intro state
  rcases (ok.holds k x session).1 (by rw [line]; exact nofun) with h | h | h
  · exact nomatch state.symm.trans h.1
  · exact nomatch state.symm.trans h
  · exact nomatch state.symm.trans h

/-- The detach order of a slot that holds no DETACHED session does not list it. -/
theorem not_mem_order (ok : v.Ok) (other : ∀ x, (v.slot k).session = some x → x.state ≠ .detached) : k ∉ v.order :=
  fun listed => let ⟨x, session, state⟩ := (ok.detached k).1 listed; other x session state

/-! ### Changes of one call -/

/-- A line that serves no session changes, and serves none. -/
theorem setLine (ok : v.Ok) {w : LineView} (before : (v.line l).slot = none) (after : w.slot = none) (calm : w.strays = false) :
    (v.setLine l w).Ok where
  served m j := by
    by_cases same : m = l
    · intro serves
      rw [same, setLine_self, after] at serves
      cases serves
    · rw [setLine_ne same]
      exact ok.served m j
  bound j y session m line := by
    have serves := ok.bound j y session m line
    by_cases same : m = l
    · rw [same, before] at serves
      cases serves
    · rw [setLine_ne same]
      exact serves
  holds := ok.holds
  distinct := ok.distinct
  detached := ok.detached
  calm m := by
    by_cases same : m = l
    · rw [same, setLine_self]
      exact calm
    · rw [setLine_ne same]
      exact ok.calm m

/-- The session of a slot goes on without a line, or goes; the line it was bound to, if it was bound to one, has been left before.
Beside the slot only the detach order changes. -/
theorem leave {y : SlotView} {order : List (Fin 12)} (ok : v.Ok) (line : Fin 8 → LineView)
    (left : ∀ x, (v.slot k).session = some x → ∀ l, x.line = some l → (line l).slot = none)
    (kept : ∀ l, line l = v.line l ∨ (line l).slot = none ∧ (line l).strays = false ∧ (v.line l).slot = some k)
    (after : ∀ z, y.session = some z → z.line = none ∧ ¬ z.holdsLine) (distinct : order.Nodup)
    (detached : ∀ j, j ∈ order ↔ if j = k then ∃ z, y.session = some z ∧ z.state = .detached else j ∈ v.order) :
    ({ v with line := line, slot := Function.update v.slot k y, order := order } : CallView).Ok where
  served m j serves := by
    simp only at serves ⊢
    rcases kept m with same | ⟨none, -, -⟩
    · rw [same] at serves ⊢
      obtain ⟨x, session, bound, states⟩ := ok.served m j serves
      have other : j ≠ k := by
        rintro rfl
        have gone := left x session m bound
        rw [same, serves] at gone
        cases gone
      rw [Function.update_of_ne other]
      exact ⟨x, session, bound, states⟩
    · rw [none] at serves
      cases serves
  bound j z session m bound := by
    simp only at session ⊢
    by_cases same : j = k
    · rw [same, Function.update_self] at session
      rw [(after z session).1] at bound
      cases bound
    · rw [Function.update_of_ne same] at session
      have serves := ok.bound j z session m bound
      rcases kept m with unchanged | ⟨-, -, here⟩
      · rw [unchanged]
        exact serves
      · rw [here] at serves
        exact absurd (Option.some.inj serves).symm same
  holds j z session := by
    simp only at session
    by_cases same : j = k
    · rw [same, Function.update_self] at session
      obtain ⟨unbound, free⟩ := after z session
      exact ⟨fun h => absurd unbound h, fun h => absurd h free⟩
    · rw [Function.update_of_ne same] at session
      exact ok.holds j z session
  distinct := distinct
  detached j := by
    simp only
    rw [detached]
    by_cases same : j = k
    · rw [if_pos same, same, Function.update_self]
    · rw [if_neg same, Function.update_of_ne same]
      exact ok.detached j
  calm m := by
    simp only
    rcases kept m with same | ⟨-, calm, -⟩
    · rw [same]
      exact ok.calm m
    · exact calm

/-- A session leaves its line: the line is free of it, and the session is one without a line or gone. -/
theorem leaveLine {y : SlotView} {w : LineView} {order : List (Fin 12)} (ok : v.Ok) (session : (v.slot k).session = some x)
    (line : x.line = some l) (free : w.slot = none) (calm : w.strays = false)
    (after : ∀ z, y.session = some z → z.line = none ∧ ¬ z.holdsLine) (distinct : order.Nodup)
    (detached : ∀ j, j ∈ order ↔ if j = k then ∃ z, y.session = some z ∧ z.state = .detached else j ∈ v.order) :
    ({ v with line := Function.update v.line l w, slot := Function.update v.slot k y, order := order } : CallView).Ok := by
  refine ok.leave _ (fun z same m bound => ?_) (fun m => ?_) after distinct detached
  · rw [session] at same
    cases same
    rw [line] at bound
    cases bound
    rw [Function.update_self]
    exact free
  · by_cases same : m = l
    · rw [same, Function.update_self]
      exact .inr ⟨free, calm, ok.bound k x session l line⟩
    · exact .inl (Function.update_of_ne same ..)

/-- The session of a slot, if there is one, has no line, and goes on without one or goes. -/
theorem leaveSlot {y : SlotView} {order : List (Fin 12)} (ok : v.Ok)
    (before : ∀ x, (v.slot k).session = some x → x.line = none)
    (after : ∀ z, y.session = some z → z.line = none ∧ ¬ z.holdsLine) (distinct : order.Nodup)
    (detached : ∀ j, j ∈ order ↔ if j = k then ∃ z, y.session = some z ∧ z.state = .detached else j ∈ v.order) :
    ({ v with slot := Function.update v.slot k y, order := order } : CallView).Ok :=
  ok.leave v.line (fun x session l line => nomatch (before x session).symm.trans line) (fun _ => .inl rfl) after distinct detached

/-- A free slot is bound to a line that serves none, or a session and its line go on bound to each other. -/
theorem bind {g : Nat} {w : LineView} {y : SessionView} (ok : v.Ok)
    (before : (v.slot k).session = none ∧ (v.line l).slot = none ∨ ∃ x, (v.slot k).session = some x ∧ x.line = some l)
    (slot : w.slot = some k) (calm : w.strays = false) (line : y.line = some l) (holds : y.holdsLine) (serves : w.serves y) :
    ({ v with line := Function.update v.line l w, slot := Function.update v.slot k { generation := g, session := some y } } :
      CallView).Ok := by
  have notDetached : ∀ z : SessionView, z.holdsLine → z.state ≠ .detached := by
    rintro z (h | h | h) state
    · exact nomatch state.symm.trans h.1
    · exact nomatch state.symm.trans h
    · exact nomatch state.symm.trans h
  have only (m : Fin 8) (j : Fin 12) (here : (v.line m).slot = some j) : j = k ↔ m = l := by
    rcases before with ⟨free, unserved⟩ | ⟨x, session, bound⟩
    · constructor
      · rintro rfl
        obtain ⟨x, session, -⟩ := ok.served m j here
        exact nomatch free.symm.trans session
      · rintro rfl
        exact nomatch unserved.symm.trans here
    · constructor
      · rintro rfl
        obtain ⟨z, same, back, -⟩ := ok.served m j here
        rw [session] at same
        cases same
        exact Option.some.inj (back.symm.trans bound)
      · rintro rfl
        exact Option.some.inj (here.symm.trans (ok.bound k x session m bound))
  refine ⟨fun m j here => ?_, fun j z session m bound => ?_, fun j z session => ?_, ok.distinct, fun j => ?_, fun m => ?_⟩
  · simp only at here ⊢
    by_cases same : m = l
    · rw [same, Function.update_self, slot] at here
      cases here
      rw [same, Function.update_self, Function.update_self]
      exact ⟨y, rfl, line, serves⟩
    · rw [Function.update_of_ne same] at here ⊢
      rw [Function.update_of_ne fun h => same ((only m j here).1 h)]
      exact ok.served m j here
  · simp only at session ⊢
    by_cases same : j = k
    · rw [same, Function.update_self] at session
      cases session
      rw [line] at bound
      cases bound
      rw [Function.update_self, same]
      exact slot
    · rw [Function.update_of_ne same] at session
      have here := ok.bound j z session m bound
      rw [Function.update_of_ne fun h => same ((only m j here).2 h)]
      exact here
  · simp only at session
    by_cases same : j = k
    · rw [same, Function.update_self] at session
      cases session
      exact ⟨fun _ => holds, fun _ => by rw [line]; exact nofun⟩
    · rw [Function.update_of_ne same] at session
      exact ok.holds j z session
  · simp only
    by_cases same : j = k
    · rw [same, Function.update_self]
      refine ⟨fun listed => absurd listed (ok.not_mem_order fun z session state => ?_), ?_⟩
      · rcases before with ⟨free, -⟩ | ⟨x, here, bound⟩
        · exact nomatch free.symm.trans session
        · rw [here] at session
          cases session
          exact ok.not_detached_of_line here bound state
      · rintro ⟨z, session, state⟩
        cases session
        exact absurd state (notDetached y holds)
    · rw [Function.update_of_ne same]
      exact ok.detached j
  · simp only
    by_cases same : m = l
    · rw [same, Function.update_self]
      exact calm
    · rw [Function.update_of_ne same]
      exact ok.calm m

/-! ### The detach order of a change -/

theorem order_filter (v : CallView) (k j : Fin 12) {y : SlotView} (other : ∀ z, y.session = some z → z.state ≠ .detached) :
    j ∈ v.order.filter (fun i => decide (i ≠ k)) ↔
      if j = k then ∃ z, y.session = some z ∧ z.state = .detached else j ∈ v.order := by
  rw [List.mem_filter, decide_eq_true_eq]
  by_cases same : j = k
  · rw [if_pos same]
    exact ⟨fun h => absurd same h.2, fun ⟨z, session, state⟩ => absurd state (other z session)⟩
  · rw [if_neg same]
    exact and_iff_left same

theorem order_same (ok : v.Ok) (j : Fin 12) {y : SlotView} (before : ∀ x, (v.slot k).session = some x → x.state ≠ .detached)
    (other : ∀ z, y.session = some z → z.state ≠ .detached) :
    j ∈ v.order ↔ if j = k then ∃ z, y.session = some z ∧ z.state = .detached else j ∈ v.order := by
  by_cases same : j = k
  · rw [if_pos same, same]
    exact ⟨fun h => absurd h (ok.not_mem_order before), fun ⟨z, session, state⟩ => absurd state (other z session)⟩
  · rw [if_neg same]

theorem order_append (v : CallView) (k j : Fin 12) {y : SlotView} (detached : ∃ z, y.session = some z ∧ z.state = .detached) :
    j ∈ v.order ++ [k] ↔ if j = k then ∃ z, y.session = some z ∧ z.state = .detached else j ∈ v.order := by
  rw [List.mem_append, List.mem_singleton]
  by_cases same : j = k
  · rw [if_pos same]
    exact ⟨fun _ => detached, fun _ => .inr same⟩
  · rw [if_neg same]
    exact or_iff_left same

end Ok
end CallView

/-! ### The view of a state -/

/-- What lines, sessions, detach order and final CHARGEs keep of each other, with a reset in progress or not. -/
def State.Calls (s : State) (reset : Bool) : Prop := ∃ v : CallView, v.Ok ∧ v.reset = reset ∧ s.At v

def State.callView (s : State) : CallView :=
  { line := fun l => s.lines[l].view, slot := fun k => s.table.slots[k].view, order := s.table.detachOrder, own := s.own,
    reset := s.inReset }

section
variable {s : State} {v : CallView}

theorem Line.waits_iff {x : Line} : x.waits = true ↔ ∃ d, x.dialogue = some d ∧ d.step = .slotWait := by
  unfold Line.waits
  cases x.dialogue <;> simp

/-- A context that waits for a slot is calm on a line in SIGNON that serves none. -/
theorem Line.waits_calm {x : Line} (waits : x.waits = true) :
    x.view.strays = false ↔ x.state = .signOn ∧ x.servedSlot = none := by
  unfold Line.view
  simp only [waits, Bool.true_and, Bool.not_eq_false', Bool.and_eq_true, decide_eq_true_eq, Option.isNone_iff_eq_none]

theorem Line.calm_of_not_waits {x : Line} (off : x.waits = false) : x.view.strays = false := by
  unfold Line.view
  rw [off, Bool.false_and]

theorem Slot.view_session_iff {a : Slot} {x : SessionView} :
    a.view.session = some x ↔ ∃ y, a.session = some y ∧ y.view = x := by
  unfold Slot.view
  exact Option.map_eq_some_iff

theorem Line.view_serves {x : Line} {y : Session} : x.view.serves y.view ↔
    x.state = .claiming ∧ y.state = .claiming ∨ x.state = .online ∧ (y.state = .active ∨ y.state = .cutoffGrace) := by
  have state (a : LineState) (locked : a.locked = true) : x.view.state = a ↔ x.state = a := by
    constructor
    · exact fun h => LineState.locked_of_view h (by rintro rfl; cases locked)
    · rintro rfl
      exact Line.view_state_of_locked locked
  unfold LineView.serves
  rw [state _ rfl, state _ rfl]
  rfl

theorem State.at_callView (placed : ∀ e ∈ s.bus.queue, ∀ (c : ChargeBody) (k : Fin 12), e.payload = .charge c (some k) →
    c.handle = s.handleAt k ∧ ∃ x : Session, s.table.slots[k].session = some x ∧ x.state = .ending) : s.At s.callView where
  lines _ := rfl
  slots _ := rfl
  order := rfl
  own := rfl
  reset := rfl
  finals e he c k payload := by
    obtain ⟨handle, x, session, state⟩ := placed e he c k payload
    exact ⟨handle, x.view, Slot.view_session_iff.2 ⟨x, session, rfl⟩, state⟩

theorem State.callView_ok (bound : s.linesAndSessionsBound) (order : s.detachOrderExact)
    (waits : ∀ (l : Fin 8) (d : Dialogue), s.lines[l].dialogue = some d → d.step = .slotWait → s.lines[l].state = .signOn) :
    s.callView.Ok := by
  obtain ⟨served, sessions⟩ := bound
  obtain ⟨distinct, detached⟩ := order
  refine ⟨fun l k serves => ?_, fun k x session l line => ?_, fun k x session => ?_, distinct, fun k => ?_, fun l => ?_⟩
  · obtain ⟨x, session, line, states⟩ := served l k serves
    exact ⟨x.view, Slot.view_session_iff.2 ⟨x, session, rfl⟩, line, Line.view_serves.2 states⟩
  · obtain ⟨y, here, rfl⟩ := Slot.view_session_iff.1 session
    exact (sessions k y here).1 l line
  · obtain ⟨y, here, rfl⟩ := Slot.view_session_iff.1 session
    exact (sessions k y here).2
  · refine (detached k).trans ⟨fun ⟨x, session, state⟩ => ⟨x.view, Slot.view_session_iff.2 ⟨x, session, rfl⟩, state⟩, ?_⟩
    rintro ⟨x, session, state⟩
    obtain ⟨y, here, rfl⟩ := Slot.view_session_iff.1 session
    exact ⟨y, here, state⟩
  · cases waiting : s.lines[l].waits with
    | false => exact Line.calm_of_not_waits waiting
    | true =>
      obtain ⟨d, dialogue, step⟩ := Line.waits_iff.1 waiting
      have signOn := waits l d dialogue step
      refine (Line.waits_calm waiting).2 ⟨signOn, ?_⟩
      cases serves : s.lines[l].servedSlot with
      | none => rfl
      | some k =>
        obtain ⟨x, -, -, states⟩ := served l k serves
        rw [signOn] at states
        rcases states with ⟨claiming, -⟩ | ⟨online, -⟩
        · cases claiming
        · cases online

/-- A state of a consistent view has all that the statement asks of its lines and sessions. -/
theorem State.At.consistent (h : s.At v) (ok : v.Ok) : s.linesAndSessionsBound ∧ s.detachOrderExact ∧
    (∀ (l : Fin 8) (d : Dialogue), s.lines[l].dialogue = some d → d.step = .slotWait → s.lines[l].state = .signOn) ∧
    ∀ e ∈ s.bus.queue, ∀ (c : ChargeBody) (k : Fin 12), e.payload = .charge c (some k) →
      c.handle = s.handleAt k ∧ ∃ x : Session, s.table.slots[k].session = some x ∧ x.state = .ending := by
  have session (k : Fin 12) (x : SessionView) (here : (v.slot k).session = some x) :
      ∃ y, s.table.slots[k].session = some y ∧ y.view = x := by
    rw [← h.slots] at here
    exact Slot.view_session_iff.1 here
  refine ⟨⟨fun l k serves => ?_, fun k x holds => ⟨fun l line => ?_, ok.holds k x.view (h.session_of holds)⟩⟩,
    ⟨by rw [h.order]; exact ok.distinct, fun k => ?_⟩, fun l d dialogue step => ?_, fun e he c k payload => ?_⟩
  · obtain ⟨x, here, line, states⟩ := ok.served l k (by rw [← h.lines]; exact serves)
    obtain ⟨y, holds, rfl⟩ := session k x here
    rw [← h.lines] at states
    exact ⟨y, holds, line, Line.view_serves.1 states⟩
  · have serves := ok.bound k x.view (h.session_of holds) l line
    rw [← h.lines] at serves
    exact serves
  · rw [h.order, ok.detached]
    constructor
    · rintro ⟨x, here, state⟩
      obtain ⟨y, holds, rfl⟩ := session k x here
      exact ⟨y, holds, state⟩
    · rintro ⟨y, holds, state⟩
      exact ⟨y.view, h.session_of holds, state⟩
  · have calm := ok.calm l
    rw [← h.lines] at calm
    exact ((Line.waits_calm (Line.waits_iff.2 ⟨d, dialogue, step⟩)).1 calm).1
  · obtain ⟨handle, x, here, state⟩ := h.finals e he c k payload
    obtain ⟨y, holds, rfl⟩ := session k x here
    exact ⟨handle.trans (h.handleAt k).symm, y, holds, state⟩

end

end Sys2Proof.Machine
end

section
/-! O59: the operations that change one call: a line hung up, a slot freed or reserved, a session ended or detached. -/

namespace Sys2Proof.Machine

/-! ### Lines -/

theorem Line.drain_view (x : Line) : x.drain.view = .free := by
  unfold Line.drain
  simp only
  split <;> rfl

theorem Line.drop_view (x : Line) : x.drop.view = .free := rfl

theorem Line.locked_of_view {x : Line} (live : x.view.state ≠ .idle) : x.state.locked = true := by
  by_contra off
  exact live (if_neg off)

theorem Line.view_eq_of_unlocked {x y : Line} (before : x.state.locked = false) (after : y.state.locked = false)
    (slot : y.servedSlot = x.servedSlot) (dialogue : y.dialogue = x.dialogue) : y.view = x.view := by
  have notSignOn (z : Line) (off : z.state.locked = false) : z.state ≠ .signOn := by
    intro signOn
    rw [signOn] at off
    cases off
  unfold Line.view Line.waits
  rw [slot, dialogue, before, after, decide_eq_false (notSignOn x before), decide_eq_false (notSignOn y after)]
  rfl

/-- A line whose context does not wait has the view of its state and slot. -/
theorem Line.view_of_not_waits {x : Line} (off : x.waits = false) :
    x.view = { slot := x.servedSlot, state := if x.state.locked then x.state else .idle, strays := false } := by
  unfold Line.view
  rw [off, Bool.false_and]

/-- A context of another step than SLOT_WAIT does not wait. -/
theorem Line.not_waits_of_step {x : Line} (step : ∀ d, x.dialogue = some d → d.step ≠ .slotWait) : x.waits = false :=
  Bool.eq_false_iff.2 fun waits => let ⟨d, dialogue, same⟩ := Line.waits_iff.1 waits; step d dialogue same

theorem Line.claimOut_view {x : Line} (k : Fin 12) (signOn : x.state = .signOn) :
    (x.claimOut k).view = { slot := some k, state := .claiming, strays := false } := by
  unfold Line.claimOut
  rw [if_pos signOn]
  refine Line.view_of_not_waits (Line.not_waits_of_step fun d dialogue => ?_)
  obtain ⟨_, _, rfl⟩ := Option.map_eq_some_iff.1 dialogue
  exact nofun

theorem Line.resume_view {x : Line} (claiming : x.state = .claiming) :
    x.resume.view = { slot := none, state := .signOn, strays := false } := by
  unfold Line.resume
  rw [if_pos claiming]
  refine Line.view_of_not_waits (Line.not_waits_of_step fun d dialogue => ?_)
  obtain ⟨_, _, rfl⟩ := Option.map_eq_some_iff.1 dialogue
  exact nofun

theorem Line.bind_view {x : Line} (claiming : x.state = .claiming) :
    x.bind.view = { slot := x.servedSlot, state := .online, strays := false } := by
  unfold Line.bind
  rw [if_pos claiming]
  rfl

theorem Line.lock_view (c : Nat) (x : Line) : (x.lock c).view = { slot := x.servedSlot, state := .signOn, strays := false } := by
  refine Line.view_of_not_waits (Line.not_waits_of_step fun d dialogue => ?_)
  obtain ⟨_, _, rfl⟩ := Option.map_eq_some_iff.1 dialogue
  exact nofun

/-! ### The queue has no final CHARGE of a slot -/

def State.noFinal (s : State) (k : Fin 12) : Prop := ∀ e ∈ s.bus.queue, ∀ c, e.payload ≠ .charge c (some k)

theorem CallView.setSlot_self {v : CallView} (k : Fin 12) (w : SlotView) : (v.setSlot k w).slot k = w := Function.update_self ..

theorem CallView.setSlot_ne {v : CallView} {j k : Fin 12} (ne : j ≠ k) (w : SlotView) : (v.setSlot k w).slot j = v.slot j :=
  Function.update_of_ne ne ..

theorem CallView.handleAt_setSlot_ne {v : CallView} {j k : Fin 12} (ne : j ≠ k) (w : SlotView) :
    (v.setSlot k w).handleAt j = v.handleAt j := by
  unfold CallView.handleAt
  rw [CallView.setSlot_ne ne]
  rfl

theorem CallView.ending_setSlot_ne {v : CallView} {j k : Fin 12} (ne : j ≠ k) (w : SlotView) (ends : v.ending j) :
    (v.setSlot k w).ending j := by
  unfold CallView.ending
  rw [CallView.setSlot_ne ne]
  exact ends

namespace State.At
variable {v : CallView} {s : State} {l : Fin 8} {k : Fin 12} {x : SessionView} {w : SlotView}

theorem noFinal (h : s.At v) (notEnding : ¬ v.ending k) : s.noFinal k := fun e he c payload =>
  notEnding (h.finals e he c k payload).2

theorem session (h : s.At v) (here : (v.slot k).session = some x) : ∃ y, s.table.slots[k].session = some y ∧ y.view = x := by
  rw [← h.slots] at here
  exact Slot.view_session_iff.1 here

theorem generation (h : s.At v) (k : Fin 12) : s.table.slots[k].generation = (v.slot k).generation := by
  rw [← h.slots]
  rfl

theorem setSlot_clear {y : Slot} (h : s.At v) (clear : s.noFinal k) (view : y.view = w) : (s.setSlot k y).At (v.setSlot k w) := by
  refine h.setSlot view fun e he c j payload => ?_
  have other : j ≠ k := by
    rintro rfl
    exact clear e he c payload
  obtain ⟨handle, ends⟩ := h.finals e he c j payload
  exact ⟨handle.trans (CallView.handleAt_setSlot_ne other w).symm, CallView.ending_setSlot_ne other w ends⟩

theorem setSlot_ending {y : Slot} (h : s.At v) (view : y.view = w) (same : w.generation = (v.slot k).generation)
    (ends : ∃ z, w.session = some z ∧ z.state = .ending) : (s.setSlot k y).At (v.setSlot k w) := by
  refine h.setSlot view fun e he c j payload => ?_
  obtain ⟨handle, old⟩ := h.finals e he c j payload
  by_cases here : j = k
  · rw [here] at handle ⊢
    refine ⟨handle.trans ?_, ?_⟩
    · unfold CallView.handleAt
      rw [CallView.setSlot_self, same]
      rfl
    · unfold CallView.ending
      rw [CallView.setSlot_self]
      exact ends
  · exact ⟨handle.trans (CallView.handleAt_setSlot_ne here w).symm, CallView.ending_setSlot_ne here w old⟩

/-! ### Hanging up -/

theorem hangUp (h : s.At v) (live : (v.line l).state ≠ .idle) : (hangUp l s).At (v.setLine l .free) := by
  unfold Machine.hangUp
  rw [if_pos (Line.locked_of_view (by rw [h.lines]; exact live))]
  exact (h.clearReceive l).modLine (Line.drain_view _)

theorem hangUpText (h : s.At v) (live : (v.line l).state ≠ .idle) (t : FixedText) :
    (Machine.hangUp l (Machine.placeFixed l t s)).At (v.setLine l .free) := (h.placeFixed l t).hangUp live

theorem hangUpDirect (h : s.At v) (l : Fin 8) : (hangUpDirect l s).At (v.setLine l .free) :=
  (h.clearReceive l).modLine (Line.drop_view _)

/-! ### Ending and detaching -/

theorem endSession (h : s.At v) (here : (v.slot k).session = some x) (c : EndCause) :
    (endSession k c s).At { v with
      order := v.order.filter (fun j => decide (j ≠ k)),
      slot := Function.update v.slot k
        { generation := (v.slot k).generation, session := some { line := none, state := .ending, abandoned := false } } } := by
  have ordered : ({ s with table := { s.table with
      detachOrder := s.table.detachOrder.filter (fun j => decide (j ≠ k)) } } : State).At
        { v with order := v.order.filter (fun j => decide (j ≠ k)) } :=
    ⟨h.lines, h.slots, by simp only [h.order], h.own, h.reset, h.finals⟩
  have ended (u : State) (h : u.At { v with order := v.order.filter (fun j => decide (j ≠ k)) }) :
      (Machine.offerFinal k (u.modSession k (Session.ended c))).At { v with
        order := v.order.filter (fun j => decide (j ≠ k)),
        slot := Function.update v.slot k
          { generation := (v.slot k).generation, session := some { line := none, state := .ending, abandoned := false } } } := by
    obtain ⟨y, holds, -⟩ := h.session here
    rw [State.modSession_of_session _ holds]
    exact State.At.offerFinal (h.setSlot_ending (k := k)
      (w := { generation := (v.slot k).generation, session := some { line := none, state := .ending, abandoned := false } })
      (by rw [← h.generation k]; rfl) rfl ⟨_, rfl, rfl⟩) k
  unfold Machine.endSession
  simp only
  split
  · exact (ended _ (ordered.roundSession k)).offerTally
  · exact ended _ (ordered.roundSession k)

theorem detachSession (h : s.At v) (here : (v.slot k).session = some x) (notEnding : x.state ≠ .ending) (y : Session) (n : Nat) :
    (detachSession k y n s).At { v with
      order := v.order ++ [k],
      slot := Function.update v.slot k
        { generation := (v.slot k).generation, session := some { line := none, state := .detached, abandoned := x.abandoned } } } := by
  obtain ⟨z, holds, rfl⟩ := h.session here
  have clear : s.noFinal k := h.noFinal fun ⟨a, same, state⟩ => by
    rw [here] at same
    cases same
    exact notEnding state
  have changed := h.setSlot_clear (k := k)
    (y := { s.table.slots[k] with session := some { z with state := .detached, line := none, grace := some n } })
    (w := { generation := (v.slot k).generation, session := some { line := none, state := .detached, abandoned := z.abandoned } })
    clear (by rw [← h.generation k]; rfl)
  unfold Machine.detachSession
  rw [State.modSession_of_session _ holds]
  simp only
  generalize s.setSlot k { s.table.slots[k] with session := some { z with state := .detached, line := none, grace := some n } } = u
    at changed ⊢
  have ordered : ({ u with table := { u.table with detachOrder := u.table.detachOrder ++ [k] } } : State).At
      { v.setSlot k { generation := (v.slot k).generation,
                      session := some { line := none, state := .detached, abandoned := z.abandoned } } with
        order := v.order ++ [k] } :=
    ⟨changed.lines, changed.slots, by simp only [changed.order]; rfl, changed.own, changed.reset, changed.finals⟩
  exact ordered.offerRefusable (by simp)

theorem freeSlot (h : s.At v) (clear : s.noFinal k) :
    (freeSlot k s).At (v.setSlot k { generation := (v.slot k).generation, session := none }) :=
  h.setSlot_clear clear (by rw [← h.generation k]; rfl)

end State.At

/-! ### Consistent states -/

section
variable {v : CallView} {s t : State} {l : Fin 8} {k : Fin 12} {x : SessionView} {r : Bool}

theorem State.Calls.keep (h : s.Calls r) (same : ∀ v, s.At v → t.At v) : t.Calls r :=
  let ⟨v, ok, reset, h⟩ := h
  ⟨v, ok, reset, same v h⟩

theorem SessionView.not_holdsLine_of_ending {x : SessionView} (ends : x.state = .ending) : ¬ x.holdsLine := by
  rintro (h | h | h)
  · exact nomatch ends.symm.trans h.1
  · exact nomatch ends.symm.trans h
  · exact nomatch ends.symm.trans h

theorem SessionView.not_holdsLine_of_detached {x : SessionView} (detached : x.state = .detached) : ¬ x.holdsLine := by
  rintro (h | h | h)
  · exact nomatch detached.symm.trans h.1
  · exact nomatch detached.symm.trans h
  · exact nomatch detached.symm.trans h

theorem LineView.serves_ne_idle {w : LineView} (serves : w.serves x) : w.state ≠ .idle := by
  rintro idle
  rcases serves with ⟨h, -⟩ | ⟨h, -⟩
  · exact nomatch idle.symm.trans h
  · exact nomatch idle.symm.trans h

namespace CallView.Ok

/-- A session without a line ends (R86). -/
theorem endIdle (ok : v.Ok) (h : s.At v) (here : (v.slot k).session = some x) (line : x.line = none) (c : EndCause) :
    (endSession k c s).Calls v.reset :=
  ⟨_, ok.leaveSlot (fun z same => by rw [here] at same; cases same; exact line)
    (fun z same => by cases same; exact ⟨rfl, SessionView.not_holdsLine_of_ending rfl⟩)
    (ok.distinct.filter _) (fun j => order_filter v k j fun z same => by cases same; exact nofun), rfl, h.endSession here c⟩

/-- A session ends whose line has been left (R86). -/
theorem endCall {w : LineView} (ok : v.Ok) (h : s.At (v.setLine l w)) (here : (v.slot k).session = some x) (line : x.line = some l)
    (free : w.slot = none) (calm : w.strays = false) (c : EndCause) : (endSession k c s).Calls v.reset :=
  ⟨_, ok.leaveLine here line free calm
    (fun z same => by cases same; exact ⟨rfl, SessionView.not_holdsLine_of_ending rfl⟩)
    (ok.distinct.filter _) (fun j => order_filter v k j fun z same => by cases same; exact nofun), rfl, h.endSession here c⟩

/-- A session detaches whose line has been left (R79). -/
theorem detachCall {w : LineView} (ok : v.Ok) (h : s.At (v.setLine l w)) (here : (v.slot k).session = some x) (line : x.line = some l)
    (free : w.slot = none) (calm : w.strays = false) (y : Session) (n : Nat) : (detachSession k y n s).Calls v.reset := by
  have unlisted : k ∉ v.order := ok.not_mem_order fun z same => by
    rw [here] at same
    cases same
    exact ok.not_detached_of_line here line
  have notEnding : x.state ≠ .ending := fun ends =>
    SessionView.not_holdsLine_of_ending ends ((ok.holds k x here).1 (by rw [line]; exact nofun))
  refine ⟨_, ok.leaveLine here line free calm
    (fun z same => by cases same; exact ⟨rfl, SessionView.not_holdsLine_of_detached rfl⟩)
    (ok.distinct.append (List.nodup_singleton k) fun j hj hk => ?_) (fun j => order_append v k j ⟨_, rfl, rfl⟩), rfl,
    h.detachSession here notEnding y n⟩
  rw [List.mem_singleton.1 hk] at hj
  exact unlisted hj

/-- The slot of a session without a line is freed, where the queue has no final CHARGE of it (R87). -/
theorem freeIdle (ok : v.Ok) (before : ∀ x, (v.slot k).session = some x → x.line = none ∧ x.state ≠ .detached) (g : Nat) :
    (v.setSlot k { generation := g, session := none }).Ok :=
  ok.leaveSlot (order := v.order) (fun x here => (before x here).1) (fun _ none => nomatch none) ok.distinct
    fun j => order_same ok j (fun x here => (before x here).2) fun _ none => nomatch none

/-- The slot of a session is freed whose line is left (R45, R48). -/
theorem freeCall {w : LineView} (ok : v.Ok) (here : (v.slot k).session = some x) (line : x.line = some l)
    (free : w.slot = none) (calm : w.strays = false) (g : Nat) :
    ((v.setSlot k { generation := g, session := none }).setLine l w).Ok :=
  ok.leaveLine (order := v.order) here line free calm (fun _ none => nomatch none) ok.distinct
    fun j => order_same ok j (fun z same => by rw [here] at same; cases same; exact ok.not_detached_of_line here line)
      fun _ none => nomatch none

end CallView.Ok

/-! ### Claims that fail, slots reserved -/

/-- The outcome HOME_SILENT frees the slot of a claim and hangs its line up, if it is still there (R45). -/
theorem CallView.Ok.homeSilent (ok : v.Ok) (h : s.At v) {y : Session} (here : s.table.slots[k].session = some y)
    (claiming : y.state = .claiming) : (homeSilent k s).Calls v.reset := by
  have session := h.session_of here
  have clear : s.noFinal k := h.noFinal fun ⟨z, same, state⟩ => by
    rw [session] at same
    cases same
    exact nomatch claiming.symm.trans state
  have freed := h.freeSlot clear
  unfold Machine.homeSilent
  rw [here]
  simp only
  cases abandoned : y.abandoned with
  | true =>
    rw [if_pos rfl]
    have noLine : y.view.line = none := ok.line_eq_none session (by
      rintro (⟨-, off⟩ | state | state)
      · exact nomatch abandoned.symm.trans off
      · exact nomatch claiming.symm.trans state
      · exact nomatch claiming.symm.trans state)
    exact ⟨_, ok.freeIdle (fun z same => by
      rw [session] at same
      cases same
      exact ⟨noLine, fun state => nomatch claiming.symm.trans state⟩) _, rfl, freed⟩
  | false =>
    rw [if_neg Bool.false_ne_true]
    obtain ⟨l, line⟩ := ok.line_of_holdsLine session (.inl ⟨claiming, abandoned⟩)
    rw [show y.line = some l from line]
    exact ⟨_, ok.freeCall session line rfl rfl _, rfl,
      freed.hangUpText (LineView.serves_ne_idle (ok.line_serves session line)) _⟩

/-- A free slot is reserved for a line in SIGNON, or a full queue refuses the CLAIM and the line is hung up (R44, R45). -/
theorem CallView.Ok.reserveSlot (ok : v.Ok) (h : s.At v) (free : (v.slot k).session = none) (signOn : s.lines[l].state = .signOn)
    (d : Dialogue) : (reserveSlot k l d s).Calls v.reset := by
  have state : (v.line l).state = .signOn := by
    rw [← h.lines, ← signOn]
    exact Line.view_state_of_locked (by rw [signOn]; rfl)
  have unserved : (v.line l).slot = none := ok.slot_eq_none (by rw [state]; exact nofun) (by rw [state]; exact nofun)
  have clear : s.noFinal k := h.noFinal fun ⟨z, same, _⟩ => nomatch free.symm.trans same
  have reserved (a c : Nat) := h.setSlot_clear (k := k)
    (y := { generation := (s.table.slots[k].generation + 1) % 256, replySource := none, claimTimer := none,
            session := some (Session.claiming a l c) }) clear rfl
  cases room : s.room with
  | true =>
    unfold Machine.reserveSlot
    simp only
    rw [if_pos (by exact room)]
    refine ⟨_, ok.bind (.inl ⟨free, unserved⟩) (w := { slot := some k, state := .claiming, strays := false }) rfl rfl (y := { line := some l, state := .claiming, abandoned := false }) rfl
      (.inl ⟨rfl, rfl⟩) (.inl ⟨rfl, rfl⟩), rfl, State.At.modLine ((reserved _ _).joinPlain (by simp)) ?_⟩
    exact Line.claimOut_view k signOn
  | false =>
    rw [reserveSlot_of_full room]
    have idle := ok.freeIdle (k := k) (fun z same => nomatch free.symm.trans same) ((s.table.slots[k].generation + 1) % 256)
    have after := State.At.freeSlot (reserved (d.userNumber.getD 0) s.lines[l].speedClass) (k := k) clear
    have again : ∀ (a : SlotView) (b : SlotView), (v.setSlot k a).setSlot k b = v.setSlot k b := fun a b => by
      unfold CallView.setSlot
      simp only [Function.update_idem]
    rw [again] at after
    refine ⟨_, idle.setLine (w := .free) unserved rfl rfl, rfl, ?_⟩
    have hung := after.hangUpText (l := l) (by exact fun off => nomatch state.symm.trans off) .noResponse
    simp only [CallView.setSlot, Function.update_self] at hung ⊢
    exact hung

end

end Sys2Proof.Machine
end

section
/-! O59: the events of a call: final CHARGEs sent, claims, carrier losses, the replies and commands of sessions. -/

namespace Sys2Proof.Machine

section
variable {v : CallView} {s : State} {l : Fin 8} {k : Fin 12} {x : SessionView}

theorem State.At.lineState (h : s.At v) {state : LineState} (here : (v.line l).state = state) (ne : state ≠ .idle) :
    s.lines[l].state = state := LineState.locked_of_view (by rw [h.lines]; exact here) ne

theorem State.At.viewState (h : s.At v) {state : LineState} (here : s.lines[l].state = state) (locked : state.locked = true) :
    (v.line l).state = state := by
  rw [← h.lines, Line.view_state_of_locked (by rw [here]; exact locked), here]

theorem State.At.viewIdle (h : s.At v) (off : s.lines[l].state.locked = false) : (v.line l).state = .idle := by
  rw [← h.lines]
  exact if_neg (by rw [off]; exact Bool.false_ne_true)

theorem State.At.servedSlot (h : s.At v) (l : Fin 8) : s.lines[l].servedSlot = (v.line l).slot := by
  rw [← h.lines]
  rfl

theorem State.At.not_ending (h : s.At v) {y : Session} (here : s.table.slots[k].session = some y) (other : y.state ≠ .ending) :
    ¬ v.ending k := by
  rintro ⟨z, same, state⟩
  rw [h.session_of here] at same
  cases same
  exact other state

theorem State.At.userChar (h : s.At v) (l : Fin 8) (d : Dialogue) (c : Nat) : (userChar l d c s).At v := by
  unfold Machine.userChar
  split
  · simp only
    split
    · exact (h.placeText _ _).placeText _ _
    · exact State.At.placeText (State.At.modDialogue (h.placeText _ _) _ (by exact fun _ => rfl)) _ _
  · split
    · split
      · exact State.At.placeText (h.modDialogue _ (by exact fun _ => rfl)) _ _
      · exact h
    · split
      · split
        · exact h
        · exact State.At.placeText (h.modDialogue _ (by exact fun _ => rfl)) _ _
      · exact h

namespace CallView.Ok

theorem slot_of_idle (ok : v.Ok) (idle : (v.line l).state = .idle) : (v.line l).slot = none :=
  ok.slot_eq_none (by rw [idle]; exact nofun) (by rw [idle]; exact nofun)

theorem slot_of_signOn (ok : v.Ok) (signOn : (v.line l).state = .signOn) : (v.line l).slot = none :=
  ok.slot_eq_none (by rw [signOn]; exact nofun) (by rw [signOn]; exact nofun)

/-! ### Hanging up a line that serves no session -/

theorem hangUpDirect (ok : v.Ok) (h : s.At v) (unserved : (v.line l).slot = none) : (hangUpDirect l s).Calls v.reset :=
  ⟨_, ok.setLine (w := .free) unserved rfl rfl, rfl, h.hangUpDirect l⟩

theorem hangUpText (ok : v.Ok) (h : s.At v) (signOn : (v.line l).state = .signOn) (t : FixedText) :
    (hangUp l (placeFixed l t s)).Calls v.reset :=
  ⟨_, ok.setLine (w := .free) (ok.slot_of_signOn signOn) rfl rfl, rfl, h.hangUpText (by rw [signOn]; exact nofun) t⟩

/-! ### A final CHARGE that leaves the queue (R87) -/

end CallView.Ok

theorem State.awaiting_spec {d : Dialogue} (awaits : s.awaiting k = some (l, d)) : s.lines[l].waits = true := by
  obtain ⟨m, -, found⟩ := List.exists_of_findSome?_eq_some awaits
  split at found
  · next e dialogue =>
    split at found
    · next here =>
      cases found
      exact Line.waits_iff.2 ⟨_, dialogue, here.1⟩
    · cases found
  · cases found

/-- The final CHARGE in flight is the only CHARGE of its slot in the queue (R169). -/
theorem State.At.landed_noFinal {e : Entry} {c : ChargeBody} (h : s.At v) (once : s.queueUnrepeated) (flying : s.flying = some e)
    (final : e.payload = .charge c (some k)) : s.landed.noFinal k := by
  obtain ⟨flies, before, after, queue, waiting⟩ := List.find?_eq_some_iff_append.1 flying
  rw [State.landed_of_split queue (fun y hy => by simpa using waiting y hy) flies]
  have handle := (h.finals e (by rw [queue]; exact List.mem_append_right _ List.mem_cons_self) c k final).1
  intro y hy d payload
  have mem : y ∈ s.bus.queue := by
    rw [queue]
    exact List.mem_append.2 ((List.mem_append.1 hy).imp_right (List.mem_cons_of_mem _))
  have same := (h.finals y mem d k payload).1
  have charges (z : Entry) (b : ChargeBody) (hb : z.payload = .charge b (some k)) (eq : b.handle = v.handleAt k) :
      Entry.chargesFor (v.handleAt k) z = true := by
    unfold Entry.chargesFor
    rw [hb]
    exact decide_eq_true eq
  have two := once.1 (v.handleAt k)
  have other : 0 < (before ++ after).countP (Entry.chargesFor (v.handleAt k)) :=
    List.countP_pos_iff.2 ⟨y, hy, charges y d payload same⟩
  rw [queue, List.countP_append, List.countP_cons_of_pos (charges e c final handle)] at two
  rw [List.countP_append] at other
  omega

/-- A fault event queues no final CHARGE. -/
theorem logWith_noFinal (n : Nat) (e : FaultEvent) : ∀ {s : State}, s.noFinal k → (logWith n e s).noFinal k := by
  induction n generalizing e with
  | zero => exact id
  | succ n ih =>
    intro s clear
    have taken : (settlePermission { s with faults := s.faults.take e }).noFinal k := by
      unfold State.noFinal
      rw [settlePermission_queue]
      exact clear
    unfold logWith
    simp only
    split
    · split
      · intro y hy c payload
        rcases List.mem_append.1 hy with old | new
        · exact taken y old c payload
        · rw [List.mem_singleton.1 new] at payload
          cases payload
      · exact ih _ taken
    · exact taken

namespace CallView.Ok

theorem releaseSlot (ok : v.Ok) (h : s.At v) (ends : v.ending k) (clear : s.noFinal k) : (releaseSlot k s).Calls v.reset := by
  obtain ⟨z, session, state⟩ := ends
  have freed := h.freeSlot clear
  have okFreed := ok.freeIdle (k := k) (fun y same => by
    rw [session] at same
    cases same
    exact ⟨ok.line_eq_none session (SessionView.not_holdsLine_of_ending state), by rw [state]; exact nofun⟩)
    (v.slot k).generation
  unfold Machine.releaseSlot
  split
  · exact ⟨_, okFreed, rfl, freed⟩
  · next l d awaits =>
    have calm := ok.calm l
    rw [← h.lines] at calm
    have signOn := ((Line.waits_calm (State.awaiting_spec awaits)).1 calm).1
    exact okFreed.reserveSlot freed (by rw [CallView.setSlot_self]) signOn d

theorem tellSent (ok : v.Ok) (h : s.At v) (once : s.queueUnrepeated) {e : Entry} (flying : s.flying = some e) :
    (tellSent e.payload s.landed).Calls v.reset := by
  have landed := h.landed
  unfold Machine.tellSent
  split
  · unfold startClaimTimer
    split
    · split
      · exact ⟨v, ok, rfl, landed.keepSlot rfl⟩
      · exact ⟨v, ok, rfl, landed⟩
    · exact ⟨v, ok, rfl, landed⟩
  · next c k payload =>
    have ends := (h.finals e (List.mem_of_find?_eq_some flying) c k payload).2
    exact ok.releaseSlot landed ends (h.landed_noFinal once flying payload)
  · split
    · exact ⟨v, ok, rfl, landed⟩
    · exact ⟨v, ok, rfl, landed.keepLine (Line.view_eq_of_same rfl rfl rfl)⟩
  · exact ⟨v, ok, rfl, landed⟩

theorem tellDropped (ok : v.Ok) (h : s.At v) (once : s.queueUnrepeated) {e : Entry} (flying : s.flying = some e)
    (kind : FaultKind) (y : Subject) : (tellDropped e.payload (logFault kind y s.landed)).Calls v.reset := by
  have logged := h.landed.logFault kind y
  unfold Machine.tellDropped
  split
  · split
    · next k z found =>
      split
      · next claiming => exact ok.homeSilent logged (State.matched_eq_some_iff.1 found).2 claiming
      · exact ⟨v, ok, rfl, logged⟩
    · exact ⟨v, ok, rfl, logged⟩
  · next c k payload =>
    have ends := (h.finals e (List.mem_of_find?_eq_some flying) c k payload).2
    exact ok.releaseSlot logged ends (logWith_noFinal 3 _ (h.landed_noFinal once flying payload))
  · exact ⟨v, ok, rfl, logged⟩

/-! ### Claims (R42 to R44) -/

theorem claimFor (ok : v.Ok) (h : s.At v) (signOn : (v.line l).state = .signOn) (d : Dialogue) : (claimFor l d s).Calls v.reset := by
  have raw := h.lineState signOn nofun
  unfold Machine.claimFor
  split
  · exact ok.hangUpText h signOn _
  · unfold reserveFor
    split
    · next k free =>
      have found := List.find?_some free
      exact ok.reserveSlot h (h.noSession_of (Option.isNone_iff_eq_none.1 found)) raw d
    · split
      · next k rest order =>
        have listed : k ∈ v.order := by
          rw [← h.order, order]
          exact List.mem_cons_self
        obtain ⟨z, session, state⟩ := (ok.detached k).1 listed
        have waiting : (modDialogue l (fun x => { x with step := .slotWait, awaitedSlot := some k }) s).At v := by
          refine h.keepLine ?_
          have unserved : s.lines[l].servedSlot = none := (h.servedSlot l).trans (ok.slot_of_signOn signOn)
          unfold Line.view
          simp only [raw, unserved]
          simp
        exact ok.endIdle waiting session (ok.line_eq_none session (SessionView.not_holdsLine_of_detached state)) _
      · exact ok.hangUpText h signOn _

theorem passwordChar (ok : v.Ok) (h : s.At v) (signOn : (v.line l).state = .signOn) (d : Dialogue) (c : Nat) :
    (passwordChar l d c s).Calls v.reset := by
  unfold Machine.passwordChar
  split
  · simp only
    split
    · exact ⟨v, ok, rfl, (h.placeText _ _).placeText _ _⟩
    · exact ok.claimFor (State.At.modDialogue (h.placeText l [13, 10]) _ (by exact fun _ => rfl)) signOn d
  · refine ⟨v, ok, rfl, ?_⟩
    split
    · split
      · exact h.modDialogue _ fun _ => rfl
      · exact h
    · split
      · split
        · exact h
        · exact h.modDialogue _ fun _ => rfl
      · exact h

theorem characterOn (ok : v.Ok) (h : s.At v) (c : Nat) : (characterOn l c s).Calls v.reset := by
  unfold Machine.characterOn
  split
  · next state =>
    unfold dialogueChar
    split
    · exact ⟨v, ok, rfl, h⟩
    · split
      · exact ⟨v, ok, rfl, h.userChar l _ c⟩
      · exact ok.passwordChar h (h.viewState state rfl) _ c
      · exact ⟨v, ok, rfl, h⟩
  · refine ⟨v, ok, rfl, State.At.offerData (h.keepLine ?_) l⟩
    unfold Line.receive
    split <;> exact Line.view_eq_of_same rfl rfl rfl
  · exact ⟨v, ok, rfl, h⟩

end CallView.Ok

end

end Sys2Proof.Machine
end

section
/-! O59: the events of a call, continued: attempts at the speed, carrier losses, the replies and commands of sessions. -/

namespace Sys2Proof.Machine

section
variable {v : CallView} {s : State} {l : Fin 8} {k : Fin 12} {x : SessionView}

namespace CallView.Ok

/-! ### Speed detection and carrier loss (R9, R11, R12) -/

theorem failedAttempt (ok : v.Ok) (h : s.At v) (idle : (v.line l).state = .idle) : (failedAttempt l s).Calls v.reset := by
  unfold Machine.failedAttempt
  generalize (match s.lines[l].dialogue with | some d => d.speedAttempts | none => 0) + 1 = attempts
  dsimp only
  split
  · exact ⟨v, ok, rfl, h.keepLine
      ((Line.view_eq_of_same (x := { s.lines[l] with
          dialogue := s.lines[l].dialogue.map (fun d => { d with speedAttempts := attempts }) }) rfl rfl rfl).trans
        (Line.view_eq_of_dialogue fun _ => rfl))⟩
  · exact ok.hangUpDirect h (ok.slot_of_idle idle)

theorem decodeEnd (ok : v.Ok) (h : s.At v) (idle : (v.line l).state = .idle) (c n : Nat) (b : Bool) :
    (decodeEnd l c n b s).Calls v.reset := by
  unfold Machine.decodeEnd
  split
  · have unserved := ok.slot_of_idle idle
    exact ⟨_, ok.setLine unserved ((h.servedSlot l).trans unserved) rfl, rfl, (h.modLine (Line.lock_view c _)).placeText _ _⟩
  · exact ok.failedAttempt h idle

/-- The session of a line that has been left by a carrier loss is abandoned, detached or ended (R9, R51, R80, R83). -/
theorem sessionLosesLine (ok : v.Ok) (h : s.At (v.setLine l .free)) (serves : (v.line l).slot = some k) :
    (sessionLosesLine k s).Calls v.reset := by
  obtain ⟨x, session, line, states⟩ := ok.served l k serves
  obtain ⟨y, here, rfl⟩ := h.session session
  unfold Machine.sessionLosesLine
  rw [here]
  simp only
  split
  · next claiming =>
    rw [State.modSession_of_session _ here]
    have left := h.setSlot_clear (k := k) (y := { s.table.slots[k] with session := some { y with abandoned := true, line := none } })
      (h.noFinal (h.not_ending here (by rw [claiming]; exact nofun))) rfl
    exact ⟨_, ok.leaveLine (order := v.order) session line (w := .free) rfl rfl
      (fun z same => by
        cases same
        refine ⟨rfl, ?_⟩
        rintro (⟨-, off⟩ | state | state)
        · cases off
        · exact nomatch claiming.symm.trans state
        · exact nomatch claiming.symm.trans state)
      ok.distinct (fun j => order_same ok j
        (fun z same => by rw [session] at same; cases same; exact ok.not_detached_of_line session line)
        fun z same => by cases same; exact fun state => nomatch claiming.symm.trans state), rfl, left⟩
  · split
    · exact ok.detachCall h session line rfl rfl _ _
    · exact ok.endCall h session line rfl rfl _
  · exact ok.endCall h session line rfl rfl _
  · next notClaiming notActive notCutoff =>
    rcases states with ⟨-, state⟩ | ⟨-, state | state⟩
    · exact absurd state notClaiming
    · exact absurd state notActive
    · exact absurd state notCutoff

theorem carrierLost (ok : v.Ok) (h : s.At v) : (carrierLost l s).Calls v.reset := by
  have lost (k : Fin 12) (serves : s.lines[l].servedSlot = some k) :
      (Machine.sessionLosesLine k (Machine.hangUpDirect l s)).Calls v.reset :=
    ok.sessionLosesLine (h.hangUpDirect l) ((h.servedSlot l).symm.trans serves)
  have unserved (free : s.lines[l].servedSlot = none) : (Machine.hangUpDirect l s).Calls v.reset :=
    ok.hangUpDirect h ((h.servedSlot l).symm.trans free)
  unfold Machine.carrierLost
  split
  · next state => exact ok.hangUpDirect h (ok.slot_of_idle (h.viewIdle (by rw [state]; rfl)))
  · next state => exact ok.hangUpDirect h (ok.slot_of_idle (h.viewIdle (by rw [state]; rfl)))
  · next state => exact ok.hangUpDirect h (ok.slot_of_signOn (h.viewState state rfl))
  · split
    · next k serves => exact lost k serves
    · next free => exact unserved free
  · split
    · next k serves => exact lost k serves
    · next free => exact unserved free
  · next state =>
    exact ⟨v, ok, rfl, h.keepLine (Line.view_eq_of_unlocked (by rw [state]; rfl) rfl rfl rfl)⟩
  · exact ⟨v, ok, rfl, h⟩

/-! ### GRANT (R46, R47, R51 to R53, R70) -/

theorem bindSession (ok : v.Ok) (h : s.At v) {y : Session} (here : s.table.slots[k].session = some y)
    (claiming : y.state = .claiming) (there : y.abandoned = false) (n : Nat) (g : GrantBody) :
    (bindSession k y n g s).Calls v.reset := by
  have session := h.session_of here
  obtain ⟨l, line⟩ := ok.line_of_holdsLine session (.inl ⟨claiming, there⟩)
  have serves := ok.bound k _ session l line
  have state : (v.line l).state = .claiming := by
    rcases ok.line_serves session line with ⟨state, -⟩ | ⟨-, state⟩
    · exact state
    · rcases state with state | state
      · exact nomatch claiming.symm.trans state
      · exact nomatch claiming.symm.trans state
  unfold Machine.bindSession
  rw [show y.line = some l from line]
  simp only
  generalize s.openingTotal g y.speedClass = total
  have live := h.setSlot_clear (k := k)
    (y := { s.table.slots[k] with
      claimTimer := none,
      session := some { y with
        line := some l, home := some n, acctClass := some g.acctClass, state := .active, postCounter := 0, total := total,
        remainder := 0, saturated := false } })
    (h.noFinal (h.not_ending here (by rw [claiming]; exact nofun))) rfl
  have bound := live.modLine (l := l) (f := Line.bind) (Line.bind_view (h.lineState state nofun))
  have okBound := ok.bind (k := k) (l := l) (g := s.table.slots[k].generation)
    (w := { slot := s.lines[l].servedSlot, state := .online, strays := false })
    (y := { line := some l, state := .active, abandoned := y.abandoned }) (.inr ⟨_, session, line⟩)
    ((h.servedSlot l).trans serves) rfl rfl (.inr (.inl rfl)) (.inr ⟨rfl, .inl rfl⟩)
  refine ⟨_, okBound, rfl, State.At.offerTally ?_⟩
  unfold resumedText
  split
  · exact bound
  · exact bound.placeFixed _ _

theorem settleAbandoned (ok : v.Ok) (h : s.At v) {y : Session} (here : s.table.slots[k].session = some y)
    (claiming : y.state = .claiming) (abandoned : y.abandoned = true) (n : Nat) (g : GrantBody) :
    (settleAbandoned k y n g s).Calls v.reset := by
  have session := h.session_of here
  have notHolds : ¬ y.view.holdsLine := by
    rintro (⟨-, off⟩ | state | state)
    · exact nomatch abandoned.symm.trans off
    · exact nomatch claiming.symm.trans state
    · exact nomatch claiming.symm.trans state
  have notDetached (z : SessionView) (same : (v.slot k).session = some z) : z.state ≠ .detached := by
    rw [session] at same
    cases same
    exact fun state => nomatch claiming.symm.trans state
  have ended := h.setSlot_clear (k := k)
    (y := { s.table.slots[k] with
      claimTimer := none,
      session := some (Session.ended .abandoned { y with
        home := some n, acctClass := some g.acctClass, total := 0, remainder := 0 }) })
    (h.noFinal (h.not_ending here (by rw [claiming]; exact nofun))) rfl
  refine ⟨_, ok.leaveSlot (order := v.order)
    (fun z same => by rw [session] at same; cases same; exact ok.line_eq_none session notHolds)
    (fun z same => by cases same; exact ⟨rfl, SessionView.not_holdsLine_of_ending rfl⟩) ok.distinct
    (fun j => order_same ok j notDetached fun z same => by cases same; exact nofun), rfl, ended.offerFinal k⟩

theorem settleGrant (ok : v.Ok) (h : s.At v) (n : Nat) (g : GrantBody) : (settleGrant n g s).Calls v.reset := by
  unfold Machine.settleGrant
  split
  · exact ⟨v, ok, rfl, h⟩
  · next k _ =>
    split
    · exact ⟨v, ok, rfl, h.lateGrant _ _⟩
    · split
      · split
        · exact ⟨v, ok, rfl, h.lateGrant _ _⟩
        · exact ⟨v, ok, rfl, (h.logDuplicate _ _ _).offerZeroCharge _ _ _⟩
      · have noted : (s.modSlot k (fun y => { y with replySource := some n })).At v := h.keepSlot rfl
        simp only
        generalize s.modSlot k (fun y => { y with replySource := some n }) = u at noted ⊢
        split
        · exact ⟨v, ok, rfl, noted.lateGrant _ _⟩
        · next y here =>
          split
          · next claiming =>
            cases abandoned : y.abandoned with
            | true =>
              rw [if_pos rfl]
              exact ok.settleAbandoned noted here claiming abandoned n g
            | false =>
              rw [if_neg Bool.false_ne_true]
              exact ok.bindSession noted here claiming abandoned n g
          · exact ⟨v, ok, rfl, noted⟩

/-- A session that is DETACHED is ended (R70, R81, R82, R85). -/
theorem endDetached (ok : v.Ok) (h : s.At v) {y : Session} (here : s.table.slots[k].session = some y) (state : y.state = .detached)
    (c : EndCause) : (endSession k c s).Calls v.reset :=
  ok.endIdle h (h.session_of here) (ok.line_eq_none (h.session_of here) (SessionView.not_holdsLine_of_detached state)) c

theorem settleOld (ok : v.Ok) (h : s.At v) (g : GrantBody) : (settleOld g s).Calls v.reset := by
  unfold Machine.settleOld
  split
  · exact ⟨v, ok, rfl, h⟩
  · split
    · exact ⟨v, ok, rfl, h⟩
    · next k y found =>
      have here := (State.matched_eq_some_iff.1 found).2
      split
      · next state => exact ok.endDetached h here state _
      · split
        · refine ⟨v, ok, rfl, State.At.keepSession (h.rewriteWaiting _ fun e _ placed => ?_) fun _ => rfl⟩
          cases payload : e.payload with
          | charge c o =>
            rw [payload] at placed
            cases o with
            | none => exact placed
            | some j =>
              unfold Payload.madeMoved
              simp only
              split
              · exact CallView.places_charge (c := c) rfl placed
              · exact placed
          | _ => rw [payload] at placed; exact placed
        · exact ⟨v, ok, rfl, h⟩
      · exact ⟨v, ok, rfl, h⟩

/-! ### DENY (R48 to R50) -/

end CallView.Ok

theorem State.At.resumeDialogue (h : s.At v) (claiming : (v.line l).state = .claiming) :
    (resumeDialogue l s).At (v.setLine l { slot := none, state := .signOn, strays := false }) :=
  (h.modLine (Line.resume_view (h.lineState claiming nofun))).placeText _ _

/-- A DENY leaves the line free of its slot: hung up, or back in SIGNON. -/
theorem State.At.denyLine (h : s.At v) (claiming : (v.line l).state = .claiming) (r : DenyReason) :
    ∃ w : LineView, w.slot = none ∧ w.strays = false ∧ (denyLine l r s).At (v.setLine l w) := by
  have live : (v.line l).state ≠ .idle := by rw [claiming]; exact nofun
  have hung (t : FixedText) : ∃ w : LineView, w.slot = none ∧ w.strays = false ∧
      (Machine.hangUp l (Machine.placeFixed l t s)).At (v.setLine l w) := ⟨.free, rfl, rfl, h.hangUpText live t⟩
  have failed : ∃ w : LineView, w.slot = none ∧ w.strays = false ∧ (failedSignOn l s).At (v.setLine l w) := by
    unfold failedSignOn
    generalize (match s.lines[l].dialogue with | some d => d.attempts | none => 0) + 1 = attempts
    have counted : (s.modLine l (fun x => { x with dialogue := x.dialogue.map (fun d => { d with attempts := attempts }) })).At v :=
      h.keepLine (Line.view_eq_of_dialogue fun _ => rfl)
    dsimp only
    split
    · exact ⟨_, rfl, rfl, (counted.placeFixed l .signOnFailed).resumeDialogue claiming⟩
    · exact ⟨.free, rfl, rfl, counted.hangUpText live .signOnFailed⟩
  cases r with
  | homeBusy => exact ⟨_, rfl, rfl, (h.placeFixed l .tryAgain).resumeDialogue claiming⟩
  | badDigest => exact failed
  | noAccount => exact failed
  | _ => exact hung _

namespace CallView.Ok

theorem settleDeny (ok : v.Ok) (h : s.At v) (n : Nat) (d : DenyBody) : (settleDeny n d s).Calls v.reset := by
  unfold Machine.settleDeny
  split
  · exact ⟨v, ok, rfl, h⟩
  · next k _ =>
    split
    · exact ⟨v, ok, rfl, h⟩
    · split
      · split
        · exact ⟨v, ok, rfl, h⟩
        · exact ⟨v, ok, rfl, h.logDuplicate _ _ _⟩
      · have noted : (s.modSlot k (fun y => { y with replySource := some n })).At v := h.keepSlot rfl
        simp only
        generalize s.modSlot k (fun y => { y with replySource := some n }) = u at noted ⊢
        split
        · exact ⟨v, ok, rfl, noted⟩
        · next y here =>
          split
          · next claiming =>
            have session := noted.session_of here
            have freed := noted.freeSlot (noted.noFinal (noted.not_ending here (by rw [claiming]; exact nofun)))
            cases abandoned : y.abandoned with
            | true =>
              rw [if_pos rfl]
              have notHolds : ¬ y.view.holdsLine := by
                rintro (⟨-, off⟩ | state | state)
                · exact nomatch abandoned.symm.trans off
                · exact nomatch claiming.symm.trans state
                · exact nomatch claiming.symm.trans state
              exact ⟨_, ok.freeIdle (fun z same => by
                rw [session] at same
                cases same
                exact ⟨ok.line_eq_none session notHolds, fun state => nomatch claiming.symm.trans state⟩) _, rfl, freed⟩
            | false =>
              rw [if_neg Bool.false_ne_true]
              obtain ⟨l, line⟩ := ok.line_of_holdsLine session (.inl ⟨claiming, abandoned⟩)
              have state : (v.line l).state = .claiming := by
                rcases ok.line_serves session line with ⟨state, -⟩ | ⟨-, state | state⟩
                · exact state
                · exact nomatch claiming.symm.trans state
                · exact nomatch claiming.symm.trans state
              rw [show y.line = some l from line]
              obtain ⟨w, free, calm, denied⟩ := freed.denyLine (l := l) state d.reason
              exact ⟨_, ok.freeCall session line free calm _, rfl, denied⟩
          · exact ⟨v, ok, rfl, noted⟩

/-! ### CUTOFF, REFUSE, FORCE OFF and DATA (R82, R84, R85, R29) -/

theorem settleCutoff (ok : v.Ok) (h : s.At v) (c : CutoffBody) : (settleCutoff c s).Calls v.reset := by
  unfold Machine.settleCutoff
  split
  · exact ⟨v, ok, rfl, h⟩
  · next k y found =>
    have here := (State.matched_eq_some_iff.1 found).2
    split
    · next active =>
      have session := h.session_of here
      obtain ⟨l, line⟩ := ok.line_of_holdsLine session (.inr (.inl active))
      have serves := ok.line_serves session line
      have online : (v.line l).state = .online := by
        rcases serves with ⟨-, state⟩ | ⟨state, -⟩
        · exact nomatch active.symm.trans state
        · exact state
      rw [show y.line = some l from line]
      have told := h.placeFixed l .creditExhausted
      have same : (placeFixed l .creditExhausted s).table.slots[k].session = some y := here
      simp only
      rw [State.modSession_of_session _ same]
      have cut := told.setSlot_clear (k := k)
        (y := { (placeFixed l .creditExhausted s).table.slots[k] with
          session := some { y with state := .cutoffGrace, grace := some 60 } })
        (told.noFinal (told.not_ending same (by rw [active]; exact nofun))) rfl
      have okCut := ok.bind (k := k) (l := l) (g := (placeFixed l .creditExhausted s).table.slots[k].generation) (w := v.line l)
        (y := { line := y.line, state := .cutoffGrace, abandoned := y.abandoned }) (.inr ⟨_, session, line⟩)
        (ok.bound k _ session l line) (ok.calm l) line (.inr (.inr rfl)) (.inr ⟨online, .inr rfl⟩)
      rw [Function.update_eq_self] at okCut
      exact ⟨_, okCut, rfl, cut⟩
    · next state => exact ok.endDetached h here state _
    · exact ⟨v, ok, rfl, h⟩

/-- A metered session's line is told a text and hung up, and the session ends (R84, R85). -/
theorem endMetered (ok : v.Ok) (h : s.At v) {y : Session} (here : (v.slot k).session = some y.view)
    (metered : y.state = .active ∨ y.state = .cutoffGrace) (t : FixedText) (c : EndCause) :
    (endSession k c (hangUpWith y.line t s)).Calls v.reset := by
  obtain ⟨l, line⟩ := ok.line_of_holdsLine here (.inr metered)
  have hung := h.hangUpText (LineView.serves_ne_idle (ok.line_serves here line)) t
  rw [show y.line = some l from line]
  exact ok.endCall hung here line rfl rfl c

theorem settleRefuse (ok : v.Ok) (h : s.At v) (r : RefuseBody) : (settleRefuse r s).Calls v.reset := by
  have logged : (logRefused r s).At v := h.logFault _ _
  unfold Machine.settleRefuse
  split
  · exact ⟨v, ok, rfl, h⟩
  · next k y found =>
    have here := h.session_of (State.matched_eq_some_iff.1 found).2
    split
    · next state => exact ok.endMetered logged here (.inl state) _ _
    · next state => exact ok.endMetered logged here (.inr state) _ _
    · next state => exact ok.endIdle logged here (ok.line_eq_none here (SessionView.not_holdsLine_of_detached state)) _
    · exact ⟨v, ok, rfl, h⟩

theorem forceOffSession (ok : v.Ok) (h : s.At v) {y : Session} (here : s.table.slots[k].session = some y) :
    (forceOffSession k y s).Calls v.reset := by
  have session := h.session_of here
  unfold Machine.forceOffSession
  split
  · next state => exact ok.endMetered h session (.inl state) _ _
  · next state => exact ok.endMetered h session (.inr state) _ _
  · next state => exact ok.endDetached h here state _
  · next claiming =>
    cases abandoned : y.abandoned with
    | true => exact ⟨v, ok, rfl, h⟩
    | false =>
      rw [if_neg Bool.false_ne_true]
      obtain ⟨l, line⟩ := ok.line_of_holdsLine session (.inl ⟨claiming, abandoned⟩)
      rw [show y.line = some l from line, State.modSession_of_session _ here]
      have left := h.setSlot_clear (k := k) (y := { s.table.slots[k] with session := some { y with abandoned := true, line := none } })
        (h.noFinal (h.not_ending here (by rw [claiming]; exact nofun))) rfl
      have hung := left.hangUpText (l := l) (LineView.serves_ne_idle (ok.line_serves session line)) .forcedOff
      exact ⟨_, ok.leaveLine (order := v.order) session line (w := .free) rfl rfl
        (fun z same => by
          cases same
          refine ⟨rfl, ?_⟩
          rintro (⟨-, off⟩ | state | state)
          · cases off
          · exact nomatch claiming.symm.trans state
          · exact nomatch claiming.symm.trans state)
        ok.distinct (fun j => order_same ok j
          (fun z same => by rw [session] at same; cases same; exact ok.not_detached_of_line session line)
          fun z same => by cases same; exact fun state => nomatch claiming.symm.trans state), rfl, hung⟩
  · exact ⟨v, ok, rfl, h⟩

theorem forceOff (ok : v.Ok) (h : s.At v) (b : List Byte) : (forceOff b s).Calls v.reset := by
  unfold Machine.forceOff
  split
  · exact ⟨v, ok, rfl, h.offerResult _ _ _⟩
  · split
    · exact ⟨v, ok, rfl, h.offerResult _ _ _⟩
    · split
      · exact ⟨v, ok, rfl, h.offerResult _ _ _⟩
      · next k y found =>
        exact (ok.forceOffSession h (State.matched_eq_some_iff.1 found).2).keep fun _ left => left.offerResult _ _ _

theorem settleData (ok : v.Ok) (h : s.At v) (d : DataBody) : (settleData d s).Calls v.reset := by
  unfold Machine.settleData
  split
  · exact ⟨v, ok, rfl, h.discardFrame⟩
  · next k y found =>
    have session := h.session_of (State.matched_eq_some_iff.1 found).2
    split
    · split
      · exact ⟨v, ok, rfl, h.discardFrame⟩
      · next l line =>
        have joined : (s.modLine l (Line.joinHost d.chars)).At v := h.keepLine (Line.view_eq_of_same rfl rfl rfl)
        simp only
        split
        · exact ok.endCall (joined.hangUp (LineView.serves_ne_idle (ok.line_serves session line))) session line rfl rfl _
        · exact ⟨v, ok, rfl, joined⟩
    · exact ⟨v, ok, rfl, h.discardFrame⟩

/-- The cut-off grace of a session expires: its line is hung up and it ends (R83). -/
theorem cutoffGraceExpires (ok : v.Ok) (h : s.At v) {y : Session} (here : s.table.slots[k].session = some y)
    (state : y.state = .cutoffGrace) (c : EndCause) :
    (endSession k c (match y.line with | none => s | some l => hangUp l s)).Calls v.reset := by
  have session := h.session_of here
  obtain ⟨l, line⟩ := ok.line_of_holdsLine session (.inr (.inr state))
  rw [show y.line = some l from line]
  exact ok.endCall (h.hangUp (LineView.serves_ne_idle (ok.line_serves session line))) session line rfl rfl c

end CallView.Ok

end

end Sys2Proof.Machine
end

section
/-! O59: every event and every frame keeps a state's calls consistent. -/

namespace Sys2Proof.Machine

/-! ### Lines whose view a line event leaves -/

theorem Line.burst_view {x : Line} (n : Nat) (off : x.state.locked = false) : (x.burst n).view = x.view := by
  unfold Line.burst
  generalize (if x.state = .ringing then x.ringCount + 1 else 1) = count
  dsimp only
  split
  · exact Line.view_eq_of_unlocked off rfl rfl rfl
  · exact Line.view_eq_of_unlocked off rfl rfl rfl

theorem Line.takeBreak_view (x : Line) : ({ x.takeBreak with receiver := .inBreak } : Line).view = x.view := by
  unfold Line.takeBreak
  split <;> exact Line.view_eq_of_same rfl rfl rfl

theorem Line.receiver_view (r : Receiver) (x : Line) : ({ x with receiver := r } : Line).view = x.view :=
  Line.view_eq_of_same rfl rfl rfl

theorem Line.sendNext_view (x : Line) : x.sendNext.view = x.view := by
  unfold Line.sendNext
  split
  · exact Line.view_eq_of_same rfl rfl rfl
  · split
    · exact Line.view_eq_of_same rfl rfl rfl
    · split
      · next draining => exact Line.view_eq_of_unlocked (by rw [draining]; rfl) rfl rfl rfl
      · exact Line.view_eq_of_same rfl rfl rfl

section
variable {v : CallView} {s t : State} {l : Fin 8} {k : Fin 12}

theorem State.countsBurst_unlocked (counts : s.countsBurst l = true) : s.lines[l].state.locked = false := by
  unfold State.countsBurst at counts
  simp only [Bool.and_eq_true, Bool.or_eq_true, decide_eq_true_eq] at counts
  rcases counts.2 with ringing | ⟨idle, -⟩
  · rw [ringing]; rfl
  · rw [idle]; rfl

/-! ### Events of a station -/

/-- An event that leaves the view of a state. -/
theorem State.At.ofAwake {f : State → State} (h : s.At v) (next : awake f s = .next t) (kept : (f s).At v) : t.At v := by
  cases next
  split
  · exact h
  · exact kept

/-- An event that leaves the calls of a state consistent. -/
theorem CallView.Ok.ofAwake {f : State → State} (ok : v.Ok) (h : s.At v) (next : awake f s = .next t)
    (kept : (f s).Calls v.reset) : t.Calls v.reset := by
  cases next
  split
  · exact ⟨v, ok, rfl, h⟩
  · exact kept

/-! ### Events that change no call -/

namespace State.At

theorem ringBurst (h : s.At v) (next : execRingBurst l s = .next t) : t.At v := by
  refine h.ofAwake next ?_
  split
  · next counts => exact h.keepLine (Line.burst_view _ (State.countsBurst_unlocked counts))
  · exact h

theorem burstEnd (h : s.At v) (next : execBurstEnd l s = .next t) : t.At v := by
  refine h.ofAwake next ?_
  split
  · exact h.keepLine (Line.view_eq_of_same rfl rfl rfl)
  · exact h

theorem ringSeriesTimerExpiry (h : s.At v) (next : execRingSeriesTimerExpiry l s = .next t) : t.At v := by
  refine h.ofAwake next ?_
  split
  · next ringing => exact h.keepLine (Line.view_eq_of_unlocked (by rw [ringing.1]; rfl) rfl rfl rfl)
  · exact h

theorem hangUpHoldTimerExpiry (h : s.At v) (next : execHangUpHoldTimerExpiry l s = .next t) : t.At v := by
  refine h.ofAwake next ?_
  split
  · next holding => exact h.keepLine (Line.view_eq_of_unlocked (by rw [holding.1]; rfl) rfl rfl rfl)
  · exact h

theorem receiverArmed (h : s.At v) (next : execReceiverArmed l s = .next t) : t.At v := by
  refine h.ofAwake next ?_
  split
  · exact h.keepLine (Line.receiver_view _ _)
  · exact h

theorem framingError (h : s.At v) (next : execFramingError l s = .next t) : t.At v := by
  refine h.ofAwake next ?_
  split
  · exact h.keepLine (Line.view_eq_of_same rfl rfl rfl)
  · exact h

theorem lineBreak (h : s.At v) (next : execLineBreak l s = .next t) : t.At v := by
  have broken : (s.modLine l (fun x => { x.takeBreak with receiver := .inBreak })).At v := h.keepLine (Line.takeBreak_view _)
  refine h.ofAwake next ?_
  split
  · split
    · exact broken.offerData l
    · exact h.keepLine (Line.receiver_view _ _)
  · exact h

theorem dataTriggerAge (h : s.At v) (next : execDataTriggerAge l s = .next t) : t.At v := by
  refine h.ofAwake next ?_
  split
  · exact (h.keepLine (Line.view_eq_of_same rfl rfl rfl)).offerData l
  · exact h

theorem transmitCharacter (h : s.At v) (next : execTransmitCharacter l s = .next t) : t.At v := by
  refine h.ofAwake next ?_
  split
  · exact h.keepLine (Line.sendNext_view _)
  · exact h

theorem claimEvaluation (h : s.At v) (next : execClaimEvaluation s = .next t) : t.At v := by
  unfold execClaimEvaluation at next
  split at next
  · exact h.finishAccess next
  · cases next
    exact h

theorem chargeApplication (h : s.At v) (next : execChargeApplication s = .next t) : t.At v := by
  unfold execChargeApplication at next
  split at next
  · exact h.finishAccess next
  · cases next
    exact h

theorem hostCommandAccessEnd (h : s.At v) (next : execHostCommandAccessEnd s = .next t) : t.At v := by
  unfold execHostCommandAccessEnd at next
  split at next
  · exact h.finishAccess next
  · cases next
    exact h

theorem silenceTimerExpiry {x : Handle} (h : s.At v) (next : execSilenceTimerExpiry x s = .next t) : t.At v := by
  refine h.ofAwake next ?_
  split
  · exact h
  · split
    · split
      · exact h.setHome _
      · exact h.removeOrphan _
    · exact h

theorem tallyHeartbeatExpiry (h : s.At v) (next : execTallyHeartbeatExpiry s = .next t) : t.At v := by
  refine h.ofAwake next ?_
  split
  · exact State.At.offerTally h.setTable
  · exact h

theorem censusAgeExpiry {a : Fin 16} (h : s.At v) (next : execCensusAgeExpiry a s = .next t) : t.At v := by
  refine h.ofAwake next ?_
  split
  · exact h
  · split
    · exact h.aside
    · exact h

theorem posting (h : s.At v) (next : execPosting k s = .next t) : t.At v := by
  refine h.ofAwake next ?_
  split
  · exact h
  · split
    · exact h.postSecond k
    · exact h

theorem bandFlip (h : s.At v) (next : execBandFlip s = .next t) : t.At v := by
  refine h.ofAwake next ?_
  split
  · exact h.aside
  · exact h

theorem holdTimerExpiry (h : s.At v) (next : execHoldTimerExpiry s = .next t) : t.At v := by
  refine h.ofAwake next ?_
  split
  · exact (h.logFault _ _).endHold
  · exact h

theorem scrubTimerExpiry (h : s.At v) (next : execScrubTimerExpiry s = .next t) : t.At v := by
  refine h.ofAwake next ?_
  split
  · exact (h.setStore _).settleStore
  · exact h

theorem storeClearComplete (h : s.At v) (next : execStoreClearComplete s = .next t) : t.At v := by
  refine h.ofAwake next ?_
  split
  · exact (h.setStore { s.store with words := [], clearComplete := true }).setStation
  · exact h

theorem migrationStepTimerExpiry (h : s.At v) (next : execMigrationStepTimerExpiry s = .next t) : t.At v := by
  refine h.ofAwake next ?_
  split
  · exact h
  · split
    · exact (h.setStore _).settleStore
    · exact h

theorem busTaken (h : s.At v) : (busTaken s).At v := h.aside

theorem frameReceived {bs : List Byte} {b : Bool} (h : s.At v) (next : execFrameReceived bs b s = .next t) : t.At v := by
  refine h.ofAwake next ?_
  split
  · exact h
  · exact h.busTaken.receiveTrain bs b

theorem busIdle (h : s.At v) (next : execBusIdle s = .next t) : t.At v := by
  refine h.ofAwake next ?_
  split
  · exact h
  · exact h.aside

theorem transmissionStart {n : Nat} (h : s.At v) (next : execTransmissionStart n s = .next t) : t.At v := by
  refine h.ofAwake next ?_
  split
  · split
    · exact h
    · next e _ => exact (h.startEntry e).busTaken.noteStart e
  · exact h

theorem recoveryTimerExpiry (h : s.At v) (next : execRecoveryTimerExpiry s = .next t) : t.At v := by
  refine h.ofAwake next ?_
  split
  · exact State.At.settlePermission h.aside
  · exact h

theorem supplyBelowWarn (h : s.At v) (next : execSupplyBelowWarn s = .next t) : t.At v := by
  cases next
  have low : ({ s with supply := { s.supply with recoveryRunning := false, aboveWarn := false } } : State).At v := h.aside
  split
  · exact low
  · exact low.supplyFalls

end State.At

/-! ### Events that change a call -/

namespace CallView.Ok

theorem carrierPresence (ok : v.Ok) (h : s.At v) (next : execCarrierPresence l s = .next t) : t.Calls v.reset := by
  refine ok.ofAwake h next ?_
  split
  · exact ⟨v, ok, rfl, h⟩
  · split
    · next answering =>
      have unserved := ok.slot_of_idle (h.viewIdle (by rw [answering]; rfl))
      have opened := h.modLine (l := l) (f := fun x => { x with
          carrierFilter := .present, state := .speedDetect, timer := some 20, receiver := .disarmed,
          dialogue := some Dialogue.opened }) rfl
      exact ⟨_, ok.setLine unserved ((h.servedSlot l).trans unserved) rfl, rfl, opened⟩
    · exact ⟨v, ok, rfl, h.keepLine (Line.view_eq_of_same rfl rfl rfl)⟩

theorem answerTimerExpiry (ok : v.Ok) (h : s.At v) (next : execAnswerTimerExpiry l s = .next t) : t.Calls v.reset := by
  refine ok.ofAwake h next ?_
  split
  · next answering => exact ok.hangUpDirect h (ok.slot_of_idle (h.viewIdle (by rw [answering.1]; rfl)))
  · exact ⟨v, ok, rfl, h⟩

theorem speedDetectTimerExpiry (ok : v.Ok) (h : s.At v) (next : execSpeedDetectTimerExpiry l s = .next t) : t.Calls v.reset := by
  refine ok.ofAwake h next ?_
  split
  · next detecting => exact ok.hangUpDirect h (ok.slot_of_idle (h.viewIdle (by rw [detecting.1]; rfl)))
  · exact ⟨v, ok, rfl, h⟩

theorem carrierLoss (ok : v.Ok) (h : s.At v) (next : execCarrierLoss l s = .next t) : t.Calls v.reset := by
  refine ok.ofAwake h next ?_
  split
  · exact ⟨v, ok, rfl, h⟩
  · exact ok.carrierLost (h.keepLine (Line.view_eq_of_same rfl rfl rfl))

theorem speedIntervalEnd {n : Nat} (ok : v.Ok) (h : s.At v) (next : execSpeedIntervalEnd l n s = .next t) : t.Calls v.reset := by
  refine ok.ofAwake h next ?_
  split
  · next detecting =>
    split
    · exact ⟨v, ok, rfl, h.keepLine (Line.receiver_view _ _)⟩
    · exact ok.failedAttempt h (h.viewIdle (by rw [detecting.1]; rfl))
  · exact ⟨v, ok, rfl, h⟩

theorem speedDecodeEnd {n : Nat} {b : Bool} (ok : v.Ok) (h : s.At v) (next : execSpeedDecodeEnd l n b s = .next t) :
    t.Calls v.reset := by
  refine ok.ofAwake h next ?_
  split
  · next detecting =>
    split
    · exact ok.decodeEnd h (h.viewIdle (by rw [detecting]; rfl)) _ n b
    · exact ⟨v, ok, rfl, h⟩
  · exact ⟨v, ok, rfl, h⟩

theorem character {n : Nat} (ok : v.Ok) (h : s.At v) (next : execCharacter l n s = .next t) : t.Calls v.reset := by
  refine ok.ofAwake h next ?_
  split
  · exact ok.characterOn (h.keepLine (Line.receiver_view _ _)) n
  · exact ⟨v, ok, rfl, h⟩

theorem signOnTimerExpiry (ok : v.Ok) (h : s.At v) (next : execSignOnTimerExpiry l s = .next t) : t.Calls v.reset := by
  refine ok.ofAwake h next ?_
  split
  · exact ⟨v, ok, rfl, h⟩
  · split
    · next expires => exact ok.hangUpText h (h.viewState expires.1 rfl) _
    · exact ⟨v, ok, rfl, h⟩

theorem claimTimerExpiry (ok : v.Ok) (h : s.At v) (next : execClaimTimerExpiry k s = .next t) : t.Calls v.reset := by
  refine ok.ofAwake h next ?_
  split
  · exact ⟨v, ok, rfl, h⟩
  · next x here =>
    split
    · next expires => exact ok.homeSilent h here expires.1
    · exact ⟨v, ok, rfl, h⟩

theorem detachGraceExpiry (ok : v.Ok) (h : s.At v) (next : execDetachGraceExpiry k s = .next t) : t.Calls v.reset := by
  refine ok.ofAwake h next ?_
  split
  · exact ⟨v, ok, rfl, h⟩
  · next x here =>
    split
    · next expires => exact ok.endDetached h here expires.1 _
    · exact ⟨v, ok, rfl, h⟩

theorem cutoffGraceExpiry (ok : v.Ok) (h : s.At v) (next : execCutoffGraceExpiry k s = .next t) : t.Calls v.reset := by
  refine ok.ofAwake h next ?_
  split
  · exact ⟨v, ok, rfl, h⟩
  · next x here =>
    split
    · next expires => exact ok.cutoffGraceExpires h here expires.1 _
    · exact ⟨v, ok, rfl, h⟩

theorem frameSent (ok : v.Ok) (h : s.At v) (once : s.queueUnrepeated) (next : execFrameSent s = .next t) : t.Calls v.reset := by
  refine ok.ofAwake h next ?_
  split
  · exact ⟨v, ok, rfl, h⟩
  · next e flying => exact (ok.tellSent h once flying).keep fun _ told => told.offerFreed.takePassed _ _ _ _

theorem readBackMismatch (ok : v.Ok) (h : s.At v) (once : s.queueUnrepeated) (next : execReadBackMismatch s = .next t) :
    t.Calls v.reset := by
  refine ok.ofAwake h next ?_
  split
  · exact ⟨v, ok, rfl, h⟩
  · next e flying =>
    split
    · exact ⟨v, ok, rfl, (h.stopEntry e).tellStopped _⟩
    · exact (ok.tellDropped h once flying _ _).keep fun _ told => told.offerFreed

/-! ### Frames -/

/-- The block that takes a frame keeps the calls consistent; a STATION RESET is a reset. -/
theorem taker {c : Instr} (ok : v.Ok) (h : s.At v) (notReset : ∀ b p, c ≠ .stationReset b p) : (taker c s).Calls v.reset := by
  have kept {u : State} (same : u.At v) : u.Calls v.reset := ⟨v, ok, rfl, same⟩
  cases c with
  | grant a g =>
    obtain ⟨w, okGrant, reset, granted⟩ := ok.settleGrant h a g
    rw [← reset]
    exact okGrant.settleOld granted g
  | deny a d => exact ok.settleDeny h a d
  | claim c => exact kept (h.takeClaim c)
  | detach d => exact kept (h.takeDetach d)
  | tally a t => exact kept (h.takeTally a t)
  | cutoff c => exact ok.settleCutoff h c
  | refuse r => exact ok.settleRefuse h r
  | charge c => exact kept (h.takeCharge c)
  | data d => exact ok.settleData h d
  | forceOff b => exact ok.forceOff h b
  | time b => exact kept (h.setTime b)
  | tariffLoad b => exact kept (h.loadTariffs b)
  | accountLoad b => exact kept (h.takeAccountLoad b)
  | accountRead b => exact kept (h.takeAccountRead b)
  | deposit b => exact kept (h.takeDeposit b)
  | unlock b => exact kept (h.takeUnlock b)
  | hold b => exact kept (h.takeHold b)
  | release b => exact kept (h.takeRelease b)
  | storeProbe b => exact kept (h.takeProbe b)
  | storeFlip b => exact kept (h.takeFlip b)
  | spareSet b => exact kept (h.takeSpareSet b)
  | configure b => exact kept (h.takeConfigure b)
  | statusRead b => exact kept (h.takeStatusRead b)
  | stationReset b p => exact absurd rfl (notReset b p)
  | faultRead b => exact kept (h.takeFaultRead b)
  | faultClear b => exact kept (h.takeFaultClear b)
  | faultSetup b => exact kept (h.takeFaultSetup b)
  | _ => exact kept h

theorem frame {c : Instr} {f : Handed} (ok : v.Ok) (h : s.At v) (notReset : ∀ b p, c ≠ .stationReset b p) :
    (takeHanded f (Machine.taker c) s).Calls v.reset := by
  rcases takeHanded_cases f (Machine.taker c) s with ⟨-, same⟩ | ⟨-, -, -, same⟩ | ⟨-, -, -, joined⟩ | ⟨-, taken⟩
  · rw [same]
    exact ⟨v, ok, rfl, h⟩
  · rw [same]
    exact ⟨v, ok, rfl, h⟩
  · rw [joined]
    exact ⟨v, ok, rfl, h.aside⟩
  · rw [taken]
    exact ok.taker h.aside notReset

/-! ### Every command but the beginnings and ends of a reset -/

theorem exec {c : Instr} (ok : v.Ok) (h : s.At v) (once : s.queueUnrepeated) (next : exec c s = .next t)
    (notReset : ∀ b p, c ≠ .stationReset b p) (notBelowReset : c ≠ .supplyBelowReset) (notPower : c ≠ .powerApplied)
    (notPin : c ≠ .resetPinAsserted) (notEnd : ∀ p, c ≠ .supplyAboveReset p ∧ c ≠ .resetPinReleased p) : t.Calls v.reset := by
  have kept {u : State} (same : u.At v) : u.Calls v.reset := ⟨v, ok, rfl, same⟩
  cases frame : carried c with
  | some f =>
    rw [exec_of_carried frame] at next
    cases next
    exact ok.frame h notReset
  | none =>
    cases c with
    | ringBurst l => exact kept (h.ringBurst next)
    | burstEnd l => exact kept (h.burstEnd next)
    | ringSeriesTimerExpiry l => exact kept (h.ringSeriesTimerExpiry next)
    | carrierPresence l => exact ok.carrierPresence h next
    | answerTimerExpiry l => exact ok.answerTimerExpiry h next
    | carrierLoss l => exact ok.carrierLoss h next
    | hangUpHoldTimerExpiry l => exact kept (h.hangUpHoldTimerExpiry next)
    | receiverArmed l => exact kept (h.receiverArmed next)
    | speedIntervalEnd l n => exact ok.speedIntervalEnd h next
    | speedDecodeEnd l n b => exact ok.speedDecodeEnd h next
    | speedDetectTimerExpiry l => exact ok.speedDetectTimerExpiry h next
    | character l n => exact ok.character h next
    | framingError l => exact kept (h.framingError next)
    | lineBreak l => exact kept (h.lineBreak next)
    | dataTriggerAge l => exact kept (h.dataTriggerAge next)
    | signOnTimerExpiry l => exact ok.signOnTimerExpiry h next
    | transmitCharacter l => exact kept (h.transmitCharacter next)
    | claimTimerExpiry k => exact ok.claimTimerExpiry h next
    | claimEvaluation => exact kept (h.claimEvaluation next)
    | silenceTimerExpiry x => exact kept (h.silenceTimerExpiry next)
    | detachGraceExpiry k => exact ok.detachGraceExpiry h next
    | cutoffGraceExpiry k => exact ok.cutoffGraceExpiry h next
    | tallyHeartbeatExpiry => exact kept (h.tallyHeartbeatExpiry next)
    | censusAgeExpiry a => exact kept (h.censusAgeExpiry next)
    | tick => exact kept (h.ofAwake (show execTick s = _ from next) h.meterTick.timersTick)
    | posting k => exact kept (h.posting next)
    | bandFlip => exact kept (h.bandFlip next)
    | chargeApplication => exact kept (h.chargeApplication next)
    | hostCommandAccessEnd => exact kept (h.hostCommandAccessEnd next)
    | holdTimerExpiry => exact kept (h.holdTimerExpiry next)
    | scrubTimerExpiry => exact kept (h.scrubTimerExpiry next)
    | scrubStep => exact kept (h.finishAccess (show execScrubStep s = _ from next))
    | storeClearComplete => exact kept (h.storeClearComplete next)
    | migrationStepTimerExpiry => exact kept (h.migrationStepTimerExpiry next)
    | migrationStep => exact kept (h.finishAccess (show execMigrationStep s = _ from next))
    | frameReceived bs b => exact kept (h.frameReceived next)
    | busIdle => exact kept (h.busIdle next)
    | transmissionStart n => exact kept (h.transmissionStart next)
    | frameSent => exact ok.frameSent h once next
    | readBackMismatch => exact ok.readBackMismatch h once next
    | supplyBelowWarn => exact kept (h.supplyBelowWarn next)
    | supplyAboveWarn =>
      cases next
      exact kept h.aside
    | recoveryTimerExpiry => exact kept (h.recoveryTimerExpiry next)
    | supplyBelowReset => exact absurd rfl notBelowReset
    | powerApplied => exact absurd rfl notPower
    | supplyAboveReset p => exact absurd rfl (notEnd p).1
    | resetPinAsserted => exact absurd rfl notPin
    | resetPinReleased p => exact absurd rfl (notEnd p).2
    | trainStart => exact kept (h.ofAwake (show execTrainStart s = _ from next) h.busTaken)
    | _ => cases frame

end CallView.Ok

end

end Sys2Proof.Machine
end

section
/-! O59: the beginnings and the ends of a reset, and the statement. -/

namespace Sys2Proof.Machine

/-- What a state keeps of its calls beside the shape of its lines and the queue's repetitions. -/
def State.callsPlaced (s : State) : Prop := s.linesAndSessionsBound ∧ s.detachOrderExact ∧ s.waitsAndFinalsPlaced

section
variable {v : CallView} {s t : State}

/-! ### Resets -/

/-- The lines as a reset leaves them, with no session and no entry. -/
theorem State.callsPlaced_of_rest {e : Bool} (lines : s.lines = linesAfterReset e)
    (sessions : ∀ k : Fin 12, s.table.slots[k].session = none) (order : s.table.detachOrder = []) (queue : s.bus.queue = []) :
    s.callsPlaced := by
  have rest (l : Fin 8) : s.lines[l].servedSlot = none ∧ s.lines[l].dialogue = none := by
    obtain ⟨st, -, line⟩ := linesAfterReset_line e l
    rw [lines, line]
    exact ⟨rfl, rfl⟩
  refine ⟨⟨fun l k serves => ?_, fun k x session => ?_⟩, ⟨?_, fun k => ?_⟩, fun l d dialogue => ?_, fun e he => ?_, fun _ => ⟨queue, sessions⟩⟩
  · exact nomatch (rest l).1.symm.trans serves
  · exact nomatch (sessions k).symm.trans session
  · rw [order]
    exact List.nodup_nil
  · rw [order]
    exact ⟨fun listed => absurd listed List.not_mem_nil, fun ⟨x, session, _⟩ => nomatch (sessions k).symm.trans session⟩
  · exact nomatch (rest l).2.symm.trans dialogue
  · rw [queue] at he
    exact absurd he List.not_mem_nil

theorem SessionTable.cleared_session (k : Fin 12) : SessionTable.cleared.slots[k].session = none := by
  simp [SessionTable.cleared, Slot.cleared]

theorem SessionTable.kept_session (x : SessionTable) (k : Fin 12) : x.kept.slots[k].session = none := by
  simp [SessionTable.kept, Slot.cleared]

theorem takeStationReset_callsPlaced (p : Straps) (s : State) : (takeStationReset p s).callsPlaced :=
  State.callsPlaced_of_rest rfl (SessionTable.kept_session s.table) rfl rfl

/-- A reset that goes on or ends leaves no session and no entry: during it there were none. -/
theorem leaveReset_callsPlaced {f : ResetForce} (p : Straps) (placed : s.callsPlaced) (reset : s.inReset = true) :
    (leaveReset f p s).callsPlaced := by
  obtain ⟨bound, order, waits, finals, held⟩ := placed
  obtain ⟨queue, sessions⟩ := held reset
  have unlisted : s.table.detachOrder = [] :=
    List.eq_nil_iff_forall_not_mem.2 fun k listed =>
      let ⟨_, session, _⟩ := (order.2 k).1 listed
      nomatch (sessions k).symm.trans session
  unfold leaveReset
  dsimp only
  split
  · exact ⟨bound, order, waits, finals, fun _ => ⟨queue, sessions⟩⟩
  · exact State.callsPlaced_of_rest rfl sessions unlisted queue

theorem State.inReset_of_held (held : s.station.force.powerOn = true ∨ s.station.force.brownout = true ∨ s.station.force.pin = true) :
    s.inReset = true := by
  change (s.station.force.powerOn || s.station.force.brownout || s.station.force.pin) = true
  rcases held with on | on | on <;> simp only [on, Bool.or_true, Bool.true_or]

theorem execSupplyAboveReset_callsPlaced {p : Straps} (placed : s.callsPlaced) (next : execSupplyAboveReset p s = .next t) :
    t.callsPlaced := by
  cases next
  split
  · next held => exact leaveReset_callsPlaced p placed (State.inReset_of_held ((Bool.or_eq_true_iff.1 held).imp_right .inl))
  · exact placed

theorem execResetPinReleased_callsPlaced {p : Straps} (placed : s.callsPlaced) (next : execResetPinReleased p s = .next t) :
    t.callsPlaced := by
  cases next
  split
  · next held => exact leaveReset_callsPlaced p placed (State.inReset_of_held (.inr (.inr held)))
  · exact placed

theorem execStationReset_callsPlaced {b : List Byte} {p : Straps} (placed : s.callsPlaced) (next : execStationReset b p s = .next t) :
    t.callsPlaced := by
  cases next
  rcases takeHanded_cases (.command .stationReset b) (takeStationReset p) s with ⟨-, same⟩ | ⟨-, -, -, same⟩ | ⟨-, -, -, joined⟩ | ⟨-, taken⟩
  · rw [same]
    exact placed
  · rw [same]
    exact placed
  · rw [joined]
    exact placed
  · rw [taken]
    exact takeStationReset_callsPlaced p _

/-! ### Every command -/

theorem State.callsPlaced_of_calls (calls : s.Calls false) : s.callsPlaced := by
  obtain ⟨v, ok, awake, h⟩ := calls
  obtain ⟨bound, order, waits, finals⟩ := h.consistent ok
  exact ⟨bound, order, waits, finals, fun reset => nomatch awake.symm.trans (h.reset.symm.trans reset)⟩

theorem State.calls_of_callsPlaced (placed : s.callsPlaced) : s.Calls s.inReset := by
  obtain ⟨bound, order, waits, finals, -⟩ := placed
  exact ⟨s.callView, State.callView_ok bound order waits, rfl, State.at_callView finals⟩

/-- In reset, a command that neither begins nor ends one leaves sessions, lines and queue as they were. -/
theorem exec_callsPlaced_of_reset {c : Instr} (placed : s.callsPlaced) (reset : s.inReset = true) (next : exec c s = .next t)
    (notBelowReset : c ≠ .supplyBelowReset) (notPower : c ≠ .powerApplied) (notPin : c ≠ .resetPinAsserted)
    (notEnd : ∀ p, c ≠ .supplyAboveReset p ∧ c ≠ .resetPinReleased p) : t.callsPlaced := by
  by_cases belowWarn : c = .supplyBelowWarn
  · subst belowWarn
    cases next
    rw [if_pos (by rw [reset, Bool.true_or])]
    exact placed
  · by_cases aboveWarn : c = .supplyAboveWarn
    · subst aboveWarn
      cases next
      exact placed
    · cases (exec_of_reset reset belowWarn aboveWarn notBelowReset notPower notPin notEnd).symm.trans next
      exact placed

theorem exec_callsPlaced {c : Instr} (placed : s.callsPlaced) (once : s.queueUnrepeated) (next : exec c s = .next t) :
    t.callsPlaced := by
  have other (notReset : ∀ b p, c ≠ .stationReset b p) (notBelowReset : c ≠ .supplyBelowReset) (notPower : c ≠ .powerApplied)
      (notPin : c ≠ .resetPinAsserted) (notEnd : ∀ p, c ≠ .supplyAboveReset p ∧ c ≠ .resetPinReleased p) : t.callsPlaced := by
    cases reset : s.inReset with
    | true => exact exec_callsPlaced_of_reset placed reset next notBelowReset notPower notPin notEnd
    | false =>
      obtain ⟨v, ok, view, h⟩ := State.calls_of_callsPlaced placed
      have calls := ok.exec h once next notReset notBelowReset notPower notPin notEnd
      rw [view, reset] at calls
      exact State.callsPlaced_of_calls calls
  cases c with
  | stationReset b p => exact execStationReset_callsPlaced placed next
  | supplyBelowReset =>
    cases next
    exact State.callsPlaced_of_rest rfl SessionTable.cleared_session rfl rfl
  | powerApplied =>
    cases next
    exact State.callsPlaced_of_rest rfl SessionTable.cleared_session rfl rfl
  | resetPinAsserted =>
    cases next
    exact State.callsPlaced_of_rest rfl (SessionTable.kept_session s.table) rfl rfl
  | supplyAboveReset p => exact execSupplyAboveReset_callsPlaced placed next
  | resetPinReleased p => exact execResetPinReleased_callsPlaced placed next
  | _ => exact other (by exact nofun) (by exact nofun) (by exact nofun) (by exact nofun) fun _ => ⟨by exact nofun, by exact nofun⟩

theorem step_callsPlaced (placed : s.callsPlaced) (once : s.queueUnrepeated) (next : step s = .next t) : t.callsPlaced := by
  unfold step at next
  split at next
  · cases next
    exact placed
  · next c rest _ => exact exec_callsPlaced (s := { s with pending := rest }) placed once next

end

/-- Settles O59: each call is changed at one line and one slot together, and what the lines and the queue keep is O57's and O58's. -/
theorem stepsKeepCallsConsistent : Obligations.StepsKeepCallsConsistent := by
  rintro s t ⟨shaped, bound, order, finals, once⟩ next
  obtain ⟨boundAfter, orderAfter, finalsAfter⟩ := step_callsPlaced ⟨bound, order, finals⟩ once next
  exact ⟨stepsKeepLinesShaped s t shaped next, boundAfter, orderAfter, finalsAfter, (stepsKeepBounds s t next).2.1 once⟩

end Sys2Proof.Machine
end
